-- ==== Sys2Proof/Word.lean ====
section
/-! DEFINITION. The byte, the names of the four lanes, three ports and three channels, and the small
containers that hold one value for each of them. -/
namespace Sys2Proof

/-- One byte of a command frame, of a result or of a gate link call or answer (R185). -/
abbrev Byte := BitVec 8

/-- Lanes 0 to 3 (About This Manual, "Lanes"). -/
inductive Lane where
  | l0 | l1 | l2 | l3
  deriving DecidableEq, Repr, Inhabited

/-- The three I2C target ports (R174). -/
inductive Port where
  | lane | payout | office
  deriving DecidableEq, Repr, Inhabited

/-- The three measurements of a gate head (Terms, "Channel"). -/
inductive Chan where
  | ind | cap | ref
  deriving DecidableEq, Repr, Inhabited

/-- One value for each lane. -/
structure PerLane (α : Type) where
  l0 : α
  l1 : α
  l2 : α
  l3 : α
  deriving DecidableEq, Repr, Inhabited

/-- One value for each port. -/
structure PerPort (α : Type) where
  lane : α
  payout : α
  office : α
  deriving DecidableEq, Repr, Inhabited

/-- One value for each channel. -/
structure PerChan (α : Type) where
  ind : α
  cap : α
  ref : α
  deriving DecidableEq, Repr, Inhabited

variable {α β : Type}

def PerLane.all (a : α) : PerLane α := ⟨a, a, a, a⟩

def PerLane.get (v : PerLane α) : Lane → α
  | .l0 => v.l0
  | .l1 => v.l1
  | .l2 => v.l2
  | .l3 => v.l3

def PerLane.set (v : PerLane α) : Lane → α → PerLane α
  | .l0, a => { v with l0 := a }
  | .l1, a => { v with l1 := a }
  | .l2, a => { v with l2 := a }
  | .l3, a => { v with l3 := a }

def PerLane.map (v : PerLane α) (f : α → β) : PerLane β := ⟨f v.l0, f v.l1, f v.l2, f v.l3⟩

def PerPort.all (a : α) : PerPort α := ⟨a, a, a⟩

def PerPort.get (v : PerPort α) : Port → α
  | .lane => v.lane
  | .payout => v.payout
  | .office => v.office

def PerPort.set (v : PerPort α) : Port → α → PerPort α
  | .lane, a => { v with lane := a }
  | .payout, a => { v with payout := a }
  | .office, a => { v with office := a }

def PerPort.map (v : PerPort α) (f : α → β) : PerPort β := ⟨f v.lane, f v.payout, f v.office⟩

def PerChan.all (a : α) : PerChan α := ⟨a, a, a⟩

def PerChan.get (v : PerChan α) : Chan → α
  | .ind => v.ind
  | .cap => v.cap
  | .ref => v.ref

def PerChan.map (v : PerChan α) (f : α → β) : PerChan β := ⟨f v.ind, f v.cap, f v.ref⟩

/-- The lanes in ascending order. -/
def Lane.list : List Lane := [.l0, .l1, .l2, .l3]

/-- The ports in the order in which the manual names them. -/
def Port.list : List Port := [.lane, .payout, .office]

end Sys2Proof
end

