-- ==== Sys2Proof/Syntax.lean ====
section
/-! DEFINITION. The operations and events of the part: one constructor of `Instr` for each row of
spec/opcode_table.json, with its operands. -/
namespace Sys2Proof

/-- One character of an answer on the gate link: its byte, and whether its stop bit was read
recessive, as a stop bit must be (R150, R151 check 1). -/
abbrev AnswerChar := Byte × Bool

/-- The events that can end a turn on the gate link (R143, R144, R150). -/
inductive TurnEnd where
  /-- 30 bit times without a free run of 4 (R143). -/
  | lineStuck
  /-- The read-back differs from what is sent (R144). -/
  | echo
  /-- No start bit 20 bit times after the call (R150). -/
  | noAnswer
  /-- An answer begun and not complete at its limit (R150). -/
  | answerTimeout
  /-- The stop bit of the answer's last character; `chars` is the whole answer (R150, R151). -/
  | complete (chars : List AnswerChar)
  deriving DecidableEq, Repr, Inhabited

/-- The commands of Table 10-4. -/
inductive CommandCode where
  | openDocket | adjust | closeDocket | voidDocket | readDocket | nextFinished | releaseDocket
  | laneEnable | tuneLane | reseedLane | readLane | readStray | clearStray | readClass | readLinkStats
  | takeOrder | confirmPayout | resolveSuspense | reportDispenser | loadFloat | readFloat
  | accountAdd | accountRemove | accountRewrite | accountRead | readStore
  | setClass | setParam | setLane | storeSettings
  | readFaults | clearFaults | readEvents | ackReset | setTime | softReset
  deriving DecidableEq, Repr, Inhabited

/-- The part's operations and events. A port command carries the port it is written on and its
parameter bytes as received: the checks of R175 and the command's own checks are part of its meaning.
An event of the part carries what its surroundings decide (the lane, the port, what a read-back or an
answer holds). -/
inductive Instr where
  | powerOnReset
  | resetNAsserted
  | resetNReleased
  | softReset (port : Port) (params : List Byte)
  | softResetDrainEnd
  | yardSecond
  | setTime (port : Port) (params : List Byte)
  /-- A write whose code byte is not in Table 10-4. -/
  | invalidCommand (port : Port) (code : Byte) (params : List Byte)
  | writeDiscarded (port : Port) (data : List Byte)
  | writeIgnored (port : Port) (data : List Byte)
  /-- A read transaction transfers the last result byte; one that began before RESULT transfers none
  (R178; `State.readRow`). -/
  | resultConsumed (port : Port)
  | resultHoldExpiry (port : Port)
  | openDocket (port : Port) (params : List Byte)
  | adjust (port : Port) (params : List Byte)
  | closeDocket (port : Port) (params : List Byte)
  | voidDocket (port : Port) (params : List Byte)
  | readDocket (port : Port) (params : List Byte)
  | nextFinished (port : Port) (params : List Byte)
  | releaseDocket (port : Port) (params : List Byte)
  | closeGraceExpiry (lane : Lane)
  | takeOrder (port : Port) (params : List Byte)
  | dispenseLimitExpiry
  | confirmPayout (port : Port) (params : List Byte)
  | resolveSuspense (port : Port) (params : List Byte)
  /-- A RESOLVE_SUSPENSE frame whose paid amount field is FFFFFFFFh. -/
  | resolveSuspenseNotPaid (port : Port) (params : List Byte)
  | loadFloat (port : Port) (params : List Byte)
  | readFloat (port : Port) (params : List Byte)
  | reportDispenser (port : Port) (params : List Byte)
  /-- `equal`: the read-back equals the image. -/
  | programAttemptEnd (equal : Bool)
  | programAttemptTimeout
  | accountAdd (port : Port) (params : List Byte)
  | accountRemove (port : Port) (params : List Byte)
  | accountRewrite (port : Port) (params : List Byte)
  | accountRead (port : Port) (params : List Byte)
  | readStore (port : Port) (params : List Byte)
  | setClass (port : Port) (params : List Byte)
  | setParam (port : Port) (params : List Byte)
  | setLane (port : Port) (params : List Byte)
  | storeSettings (port : Port) (params : List Byte)
  | readClass (port : Port) (params : List Byte)
  | laneEnable (port : Port) (params : List Byte)
  | tuneLane (port : Port) (params : List Byte)
  | reseedLane (port : Port) (params : List Byte)
  | readLane (port : Port) (params : List Byte)
  | readStray (port : Port) (params : List Byte)
  | clearStray (port : Port) (params : List Byte)
  | readLinkStats (port : Port) (params : List Byte)
  | readFaults (port : Port) (params : List Byte)
  | clearFaults (port : Port) (params : List Byte)
  | readEvents (port : Port) (params : List Byte)
  | ackReset (port : Port) (params : List Byte)
  | lineFree
  | lineStuck
  | echo
  | callSent
  | noAnswer
  | answerTimeout
  | answerComplete (chars : List AnswerChar)
  /-- The turn end whose miss opens a silent episode of the turn's lane. -/
  | gateSilent (turnEnd : TurnEnd)
  /-- The turn end at which the tune count of the turn's lane reaches its limit. -/
  | tuneLimit (turnEnd : TurnEnd)
  /-- The turn end whose miss takes the turn's lane to LOST. -/
  | lost (turnEnd : TurnEnd)
  /-- The turn end whose processed sample sets the jam flag of the turn's lane. -/
  | jam (turnEnd : TurnEnd)
  | powerLoss
  | scanComplete
  deriving DecidableEq, Repr, Inhabited

end Sys2Proof
end

