-- ==== Sys2Proof/Decode.lean ====
section
/-! DEFINITION. The command code table (Table 10-4), the command an I2C write spells, and the frame
of a command. The opcode table gives no row any bits, so `decodeTableWord` answers none. -/
namespace Sys2Proof

/-- The code byte of a command (Table 10-4). -/
def CommandCode.byte : CommandCode → Byte
  | .openDocket => 0x10
  | .adjust => 0x11
  | .closeDocket => 0x12
  | .voidDocket => 0x13
  | .readDocket => 0x14
  | .nextFinished => 0x15
  | .releaseDocket => 0x16
  | .laneEnable => 0x20
  | .tuneLane => 0x21
  | .reseedLane => 0x22
  | .readLane => 0x23
  | .readStray => 0x24
  | .clearStray => 0x25
  | .readClass => 0x26
  | .readLinkStats => 0x27
  | .takeOrder => 0x30
  | .confirmPayout => 0x31
  | .resolveSuspense => 0x32
  | .reportDispenser => 0x33
  | .loadFloat => 0x34
  | .readFloat => 0x35
  | .accountAdd => 0x40
  | .accountRemove => 0x41
  | .accountRewrite => 0x42
  | .accountRead => 0x43
  | .readStore => 0x44
  | .setClass => 0x50
  | .setParam => 0x51
  | .setLane => 0x52
  | .storeSettings => 0x53
  | .readFaults => 0x60
  | .clearFaults => 0x61
  | .readEvents => 0x70
  | .ackReset => 0x71
  | .setTime => 0x72
  | .softReset => 0x7F

/-- The number of parameter bytes of a command (Table 10-4). -/
def CommandCode.paramBytes : CommandCode → Nat
  | .openDocket => 4
  | .adjust => 6
  | .closeDocket => 1
  | .voidDocket => 2
  | .readDocket => 2
  | .nextFinished => 0
  | .releaseDocket => 2
  | .laneEnable => 2
  | .tuneLane => 1
  | .reseedLane => 1
  | .readLane => 1
  | .readStray => 1
  | .clearStray => 1
  | .readClass => 1
  | .readLinkStats => 1
  | .takeOrder => 0
  | .confirmPayout => 6
  | .resolveSuspense => 6
  | .reportDispenser => 1
  | .loadFloat => 4
  | .readFloat => 0
  | .accountAdd => 3
  | .accountRemove => 3
  | .accountRewrite => 4
  | .accountRead => 3
  | .readStore => 0
  | .setClass => 12
  | .setParam => 5
  | .setLane => 4
  | .storeSettings => 0
  | .readFaults => 0
  | .clearFaults => 0
  | .readEvents => 0
  | .ackReset => 0
  | .setTime => 4
  | .softReset => 0

/-- The ports that may issue a command (Table 10-4). -/
def CommandCode.ports : CommandCode → List Port
  | .openDocket | .adjust | .closeDocket | .laneEnable | .tuneLane | .reseedLane | .readLane => [.lane]
  | .readStray => [.lane, .office]
  | .takeOrder | .confirmPayout | .reportDispenser => [.payout]
  | .readDocket | .readClass | .readFloat | .readFaults | .readEvents | .ackReset =>
    [.lane, .payout, .office]
  | .voidDocket | .nextFinished | .releaseDocket | .clearStray | .readLinkStats | .resolveSuspense
  | .loadFloat | .accountAdd | .accountRemove | .accountRewrite | .accountRead | .readStore | .setClass
  | .setParam | .setLane | .storeSettings | .clearFaults | .setTime | .softReset => [.office]

/-- Whether a port may issue a command (R175 check 2). -/
def CommandCode.permitted (c : CommandCode) (p : Port) : Bool := c.ports.contains p

/-- Every command of Table 10-4, in the table's order. -/
def CommandCode.list : List CommandCode :=
  [.openDocket, .adjust, .closeDocket, .voidDocket, .readDocket, .nextFinished, .releaseDocket,
   .laneEnable, .tuneLane, .reseedLane, .readLane, .readStray, .clearStray, .readClass, .readLinkStats,
   .takeOrder, .confirmPayout, .resolveSuspense, .reportDispenser, .loadFloat, .readFloat,
   .accountAdd, .accountRemove, .accountRewrite, .accountRead, .readStore,
   .setClass, .setParam, .setLane, .storeSettings,
   .readFaults, .clearFaults, .readEvents, .ackReset, .setTime, .softReset]

/-- The command a code byte stands for (R175 check 1). -/
def CommandCode.ofByte (b : Byte) : Option CommandCode :=
  CommandCode.list.find? fun c => c.byte == b

/-- The paid amount field that means NOT_PAID (R185, "Resolving suspense"). -/
def notPaidField : List Byte := [0xFF, 0xFF, 0xFF, 0xFF]

/-- Whether the parameters of a RESOLVE_SUSPENSE frame carry NOT_PAID (R185). -/
def spellsNotPaid (params : List Byte) : Bool := params.length == 6 && params.drop 2 == notPaidField

/-- The row of the table that a command code and its parameter bytes make, on a port. -/
def commandOf (p : Port) (c : CommandCode) (params : List Byte) : Instr :=
  match c with
  | .openDocket => .openDocket p params
  | .adjust => .adjust p params
  | .closeDocket => .closeDocket p params
  | .voidDocket => .voidDocket p params
  | .readDocket => .readDocket p params
  | .nextFinished => .nextFinished p params
  | .releaseDocket => .releaseDocket p params
  | .laneEnable => .laneEnable p params
  | .tuneLane => .tuneLane p params
  | .reseedLane => .reseedLane p params
  | .readLane => .readLane p params
  | .readStray => .readStray p params
  | .clearStray => .clearStray p params
  | .readClass => .readClass p params
  | .readLinkStats => .readLinkStats p params
  | .takeOrder => .takeOrder p params
  | .confirmPayout => .confirmPayout p params
  | .resolveSuspense =>
    if spellsNotPaid params then .resolveSuspenseNotPaid p params else .resolveSuspense p params
  | .reportDispenser => .reportDispenser p params
  | .loadFloat => .loadFloat p params
  | .readFloat => .readFloat p params
  | .accountAdd => .accountAdd p params
  | .accountRemove => .accountRemove p params
  | .accountRewrite => .accountRewrite p params
  | .accountRead => .accountRead p params
  | .readStore => .readStore p params
  | .setClass => .setClass p params
  | .setParam => .setParam p params
  | .setLane => .setLane p params
  | .storeSettings => .storeSettings p params
  | .readFaults => .readFaults p params
  | .clearFaults => .clearFaults p params
  | .readEvents => .readEvents p params
  | .ackReset => .ackReset p params
  | .setTime => .setTime p params
  | .softReset => .softReset p params

/-- The row that a write transaction to a READY port spells: no data byte is ignored, an unknown code
is INVALID_COMMAND (R175, R177). A write of more than 16 data bytes spells its row too, and fails the
checks of R175 in their order: DESIGN CHOICE where its code is unknown or not for the port (log
entry 30). -/
def decodeWrite (p : Port) : List Byte → Instr
  | [] => .writeIgnored p []
  | b :: params =>
    match CommandCode.ofByte b with
    | some c => commandOf p c params
    | none => .invalidCommand p b params

/-- The port, code and parameter bytes of a row that is a command of Table 10-4. -/
def Instr.command? : Instr → Option (Port × CommandCode × List Byte)
  | .softReset p ps => some (p, .softReset, ps)
  | .setTime p ps => some (p, .setTime, ps)
  | .openDocket p ps => some (p, .openDocket, ps)
  | .adjust p ps => some (p, .adjust, ps)
  | .closeDocket p ps => some (p, .closeDocket, ps)
  | .voidDocket p ps => some (p, .voidDocket, ps)
  | .readDocket p ps => some (p, .readDocket, ps)
  | .nextFinished p ps => some (p, .nextFinished, ps)
  | .releaseDocket p ps => some (p, .releaseDocket, ps)
  | .takeOrder p ps => some (p, .takeOrder, ps)
  | .confirmPayout p ps => some (p, .confirmPayout, ps)
  | .resolveSuspense p ps => some (p, .resolveSuspense, ps)
  | .resolveSuspenseNotPaid p ps => some (p, .resolveSuspense, ps)
  | .loadFloat p ps => some (p, .loadFloat, ps)
  | .readFloat p ps => some (p, .readFloat, ps)
  | .reportDispenser p ps => some (p, .reportDispenser, ps)
  | .accountAdd p ps => some (p, .accountAdd, ps)
  | .accountRemove p ps => some (p, .accountRemove, ps)
  | .accountRewrite p ps => some (p, .accountRewrite, ps)
  | .accountRead p ps => some (p, .accountRead, ps)
  | .readStore p ps => some (p, .readStore, ps)
  | .setClass p ps => some (p, .setClass, ps)
  | .setParam p ps => some (p, .setParam, ps)
  | .setLane p ps => some (p, .setLane, ps)
  | .storeSettings p ps => some (p, .storeSettings, ps)
  | .readClass p ps => some (p, .readClass, ps)
  | .laneEnable p ps => some (p, .laneEnable, ps)
  | .tuneLane p ps => some (p, .tuneLane, ps)
  | .reseedLane p ps => some (p, .reseedLane, ps)
  | .readLane p ps => some (p, .readLane, ps)
  | .readStray p ps => some (p, .readStray, ps)
  | .clearStray p ps => some (p, .clearStray, ps)
  | .readLinkStats p ps => some (p, .readLinkStats, ps)
  | .readFaults p ps => some (p, .readFaults, ps)
  | .clearFaults p ps => some (p, .clearFaults, ps)
  | .readEvents p ps => some (p, .readEvents, ps)
  | .ackReset p ps => some (p, .ackReset, ps)
  | .powerOnReset | .resetNAsserted | .resetNReleased | .softResetDrainEnd | .yardSecond
  | .invalidCommand _ _ _ | .writeDiscarded _ _ | .writeIgnored _ _ | .resultConsumed _
  | .resultHoldExpiry _ | .closeGraceExpiry _ | .dispenseLimitExpiry | .programAttemptEnd _
  | .programAttemptTimeout | .lineFree | .lineStuck | .echo | .callSent | .noAnswer | .answerTimeout
  | .answerComplete _ | .gateSilent _ | .tuneLimit _ | .lost _ | .jam _ | .powerLoss
  | .scanComplete => none

/-- The port and the data bytes of the write transaction that issues a row, for a row that a taken
write issues: the command code byte followed by its parameter bytes (R185, "Table 10-4"). -/
def encodeWrite (i : Instr) : Option (Port × List Byte) :=
  match i with
  | .invalidCommand p b ps => some (p, b :: ps)
  | _ => i.command?.map fun c => (c.1, c.2.1.byte :: c.2.2)

/-- The host's question about a row's bits. spec/opcode_table.json gives no row any bits ("fields" is
empty in each), so no word spells a command. -/
def decodeTableWord (_nbits _w : Nat) : Option Instr := none

end Sys2Proof
end

