-- ==== Sys2Proof/Config.lean ====
section
/-! DEFINITION. The free values: what the manual leaves open and no proof may know. Each is a constant
without a body; the machine applies it to the counter of its state that counts the free values used. -/
namespace Sys2Proof

/-- What a program of a store record that was cut off, or that failed twice, leaves in the record
(R62, R68, R73): the old contents, the image (where no rule bars it), or a corrupt record. For an account record the haulier
ID field of a corrupt record still reads as some number (R190). -/
inductive Residue where
  | old
  | image
  | corrupt (idField : Nat)
  deriving DecidableEq, Repr, Inhabited

/-- The output lines of the part, `true` meaning asserted (Table 3-1). -/
structure Pins where
  /-- LSTOP0 to LSTOP3. -/
  lstop : PerLane Bool := .all true
  /-- LOCKOUT. -/
  lockout : Bool := true
  /-- ATTN_L, ATTN_P and ATTN_O. -/
  attn : PerPort Bool := .all false
  /-- GL_DE, the driver enable of the gate link's transceiver. -/
  glDe : Bool := false
  deriving DecidableEq, Repr, Inhabited

namespace Config

/-- FREE VALUE (log entry 1). What the n-th program that was cut off or failed twice leaves behind. -/
opaque residue : Nat → Residue

/-- FREE VALUE (log entry 2). The levels of the output lines without supply, after the n-th free value
used: the manual gives none. -/
opaque unpoweredPins : Nat → Pins

end Config
end Sys2Proof
end

