-- ==== Sys2Proof/Machine/State.lean ====
section
/-! DEFINITION. The state of the part: everything the manual says it holds, as plain data, with the
values it has after a reset; and the reasons a step can stop. -/
namespace Sys2Proof.Machine

/-- What stops the part. The manual names no event that does: every command it turns away is answered
with a result code and every fault it detects is recorded and worked on (R1, R162). So there is no
fault, and no meaning can answer one. Safe: nothing is hidden behind a stop. -/
inductive Fault where
  deriving DecidableEq, Repr

/-- Why the model gives a command no meaning. -/
inductive Refusal where
  /-- Raised by `exec` alone, in the arm of a row whose meaning is not written yet. Safe: the model
  stops where the part would go on. No arm of this model uses it. -/
  | notModelled (mnemonic : String)
  deriving DecidableEq, Repr

/-! ### Small tables -/

/-- Records by number, in strictly rising order of number; an unlisted number holds nothing. -/
abbrev Table (α : Type) := List (Nat × α)

/-! ### Time (R192) -/

/-- A running limit: how many millisecond ticks it lasts and how many have elapsed since it started. -/
structure Timer where
  limit : Nat
  elapsed : Nat := 0
  deriving DecidableEq, Repr, Inhabited

/-- Where the part is between supply and service (Table 4-1, R160, R188, R189). -/
inductive Mode where
  /-- Without supply (R73). -/
  | unpowered
  /-- Supplied, with RESET_N held low. -/
  | resetHeld
  /-- STARTING, after SOFT_RESET, until the commit queue has drained (R73, R188). -/
  | draining
  /-- STARTING, from the start-up scan on (R189 steps 1 to 3). -/
  | scanning
  /-- Running, locked out or not. -/
  | running
  deriving DecidableEq, Repr, Inhabited

/-! ### Pass detection (chapter 5) and baselines and tuning (chapter 7) -/

/-- The ten lane states, in the order of Table 5-1 (R86, R185). -/
inductive LaneState where
  | off | configuring | tuning | tuneFailed | settling | idle | entering | present | gap | lost
  deriving DecidableEq, Repr, Inhabited

/-- The result of one resolved pass (R102). -/
inductive PassOutcome where
  | classified (k : Fin 12)
  | foreign
  | unresolved
  deriving DecidableEq, Repr, Inhabited

/-- What ended a resolved pass (R102). -/
inductive Cause where
  | exit | split | reseed | lost | restart | tune | disable
  deriving DecidableEq, Repr, Inhabited

/-- The last outcome record of a lane (R103); `bookedTo` is none for STRAY. -/
structure OutcomeRecord where
  outcome : PassOutcome
  cause : Cause
  primary : Chan
  peakInd : Nat
  peakCap : Nat
  dwell : Nat
  bookedTo : Option Nat
  resolvedAt : Nat
  deriving DecidableEq, Repr, Inhabited

/-- The measurements of the entry, pass or GAP in progress (Table 5-2). -/
structure Pass where
  entryCount : Nat := 0
  primary : Option Chan := none
  peakInd : Nat := 0
  peakCap : Nat := 0
  dwell : Nat := 0
  average : Nat := 0
  snapshot : Option Nat := none
  theta : Option Nat := none
  settleRun : Nat := 0
  exitCount : Nat := 0
  fmin : Nat := 0
  deriving DecidableEq, Repr, Inhabited

/-- The freeze values: b_frozen_IND, b_frozen_CAP and b_ref_at_freeze, in counts (Table 7-1, R128). -/
structure Freeze where
  ind : Nat
  cap : Nat
  ref : Nat
  deriving DecidableEq, Repr, Inhabited

inductive TuneCause where
  | band | limit
  deriving DecidableEq, Repr, Inhabited

/-- The tune failure record: its cause and the set of failed channels (Table 7-1). -/
structure TuneFailure where
  cause : TuneCause
  channels : PerChan Bool
  deriving DecidableEq, Repr, Inhabited

/-- One lane detector (Tables 5-2 and 7-1). -/
structure Detector where
  state : LaneState := .off
  filtered : PerChan Nat := .all 0
  lastRaw : PerChan Nat := .all 0
  pass : Pass := {}
  jam : Bool := false
  freshRun : Nat := 0
  lastOutcome : Option OutcomeRecord := none
  /-- Baselines B in sixteenths of a count (R125). -/
  baseline : PerChan Nat := .all 0
  freeze : Option Freeze := none
  settleCount : Nat := 0
  tuneAck : Bool := false
  tuneCount : Nat := 0
  targetsSent : Option (PerChan Nat) := none
  tuneFailure : Option TuneFailure := none
  driftMark : Bool := false
  deriving DecidableEq, Repr, Inhabited

/-! ### The gate link (chapter 8) -/

/-- The ten link statistics of a lane and their counting-since stamp (R158). -/
structure LinkStats where
  echo : Nat := 0
  lineStuck : Nat := 0
  noAnswer : Nat := 0
  answerTimeout : Nat := 0
  framing : Nat := 0
  crc : Nat := 0
  address : Nat := 0
  stale : Nat := 0
  notReady : Nat := 0
  fresh : Nat := 0
  since : Nat := 0
  deriving DecidableEq, Repr, Inhabited

/-- What the Gate Link Controller keeps for each lane (R152, R154, Table 8-5, R158). -/
structure LaneLink where
  missRun : Nat := 0
  silentRun : Nat := 0
  silentOpen : Bool := false
  lastSeq : Option Nat := none
  stats : LinkStats := {}
  deriving DecidableEq, Repr, Inhabited

/-- The three kinds of call (Table 8-2). -/
inductive CallKind where
  | sample | config | tune
  deriving DecidableEq, Repr, Inhabited

/-- Where a turn is: watching for a free line (R143), sending its call with GL_DE asserted (R144), or
listening for the answer (R150). -/
inductive TurnPhase where
  | watching | calling | listening
  deriving DecidableEq, Repr, Inhabited

/-- The turn in progress: what its beginning fixed (R143) with the bytes of its call (R145), where it
is, and whether TUNE_LANE has made it stale (R149). -/
structure Turn where
  lane : Lane
  kind : CallKind
  bitRate : Nat
  call : List Byte
  phase : TurnPhase := .watching
  stale : Bool := false
  deriving DecidableEq, Repr, Inhabited

/-! ### Stray tallies (chapter 6) -/

/-- The stray tally of one lane (Table 6-4). -/
structure StrayTally where
  classes : Vector Nat 12 := .replicate 12 0
  foreign : Nat := 0
  unresolved : Nat := 0
  saturated : Bool := false
  since : Nat := 0
  deriving DecidableEq, Repr, Inhabited

/-! ### Dockets and settlement (chapters 1 and 2) -/

/-- Docket states, in the order of Table 1-1. -/
inductive DocketState where
  | open | closing | awaitingPayout | paid | nilPayout | voided
  deriving DecidableEq, Repr, Inhabited

inductive CloseReason where
  | normal | graceExpired
  deriving DecidableEq, Repr, Inhabited

/-- Order states, in the order of R185. -/
inductive OrderState where
  | pendingCommit | ready | offered | dispensing | suspense | paid
  deriving DecidableEq, Repr, Inhabited

/-- The tallies of a docket (Table 1-2). -/
structure Tallies where
  accepted : Vector Nat 12 := .replicate 12 0
  rejected : Vector Nat 12 := .replicate 12 0
  passes : Nat := 0
  classified : Nat := 0
  manualAdded : Nat := 0
  foreign : Nat := 0
  unresolved : Nat := 0
  overflow : Nat := 0
  deriving DecidableEq, Repr, Inhabited

/-- The eight settlement figures (Table 2-3). -/
structure Figures where
  gross : Nat
  foreignCharge : Nat
  uncovered : Nat
  carryIn : Nat
  total : Nat
  referred : Nat
  payout : Nat
  remainder : Nat
  deriving DecidableEq, Repr, Inhabited

/-- The order field of a docket (Table 1-1). -/
structure Order where
  state : OrderState
  dispensed : Option Nat := none
  late : Bool := false
  mismatch : Bool := false
  deriving DecidableEq, Repr, Inhabited

/-- A docket (Table 1-1). `closedAt` is held from CLOSE_DOCKET on, and shown from the end of CLOSING
(R2). -/
structure Docket where
  number : Nat
  lane : Lane
  haulier : Nat
  state : DocketState
  openedAt : Option Nat := none
  closedAt : Option Nat := none
  closeReason : Option CloseReason := none
  tallies : Option Tallies := none
  rates : Option (Vector Nat 12) := none
  figures : Option Figures := none
  order : Option Order := none
  restored : Bool := false
  deriving DecidableEq, Repr, Inhabited

/-! ### Settings (4.6) -/

/-- A row of the class table (Table 6-1). -/
structure ClassRow where
  enable : Bool := false
  indLo : Nat := 0
  indHi : Nat := 0
  capLo : Nat := 0
  capHi : Nat := 0
  rate : Nat := 0
  deriving DecidableEq, Repr, Inhabited

inductive StopPolicy where
  | never | onDocket | always
  deriving DecidableEq, Repr, Inhabited

/-- The settings of one lane with the defaults of Table 4-7, and its enable (R82, R84). -/
structure LaneSettings where
  enable : Bool := false
  alpha : Nat := 1
  tInInd : Nat := 300
  tInCap : Nat := 200
  tOutInd : Nat := 150
  tOutCap : Nat := 100
  entryLen : Nat := 2
  exitLen : Nat := 2
  gamma : Nat := 2
  settleBand : Nat := 40
  settleLen : Nat := 4
  splitEnable : Bool := true
  splitRatio : Nat := 48
  jamLimit : Nat := 1200
  holdLimit : Nat := 2
  recovery : Nat := 4
  stopPolicy : StopPolicy := .onDocket
  beta : Nat := 6
  betaFast : Nat := 2
  fastBand : Nat := 400
  refWeight : Nat := 4096
  settleSamples : Nat := 16
  targets : PerChan Nat := .all 20000
  tuneBand : Nat := 2000
  retuneBand : Nat := 6000
  deriving DecidableEq, Repr, Inhabited

/-- The default lockout mask (Table 9-3): PAYOUT_MISMATCH, PAYOUT_SUSPENSE, FLOAT_SHORTFALL and
STORE_CORRUPT, bit k for row k + 1 of Table 9-1 (R185). -/
abbrev defaultLockoutMask : BitVec 8 := 0x4E

/-- The settings record with the defaults of Tables 4-6 and 4-7 and of R84 and R182. -/
structure Settings where
  classes : Vector ClassRow 12 := .replicate 12 {}
  closeGrace : Nat := 10
  foreignFee : Nat := 0
  roundUnit : Nat := 1
  cap : Nat := 500000
  dispenseLimit : Nat := 90
  floatLowSet : Nat := 20000
  floatLowClear : Nat := 40000
  bitRate : Nat := 38400
  silentLimit : Nat := 200
  holdTime : Nat := 1000
  lockoutMask : BitVec 8 := defaultLockoutMask
  eventMask : PerPort (BitVec 16) := ⟨0x00FF, 0x007F, 0x03FF⟩
  lanes : PerLane LaneSettings := .all {}
  deriving DecidableEq, Repr, Inhabited

/-! ### Faults (chapter 9) -/

/-- The seven fault kinds, in the order of Table 9-1. -/
inductive FaultKind where
  | gateSilent | payoutMismatch | payoutSuspense | floatShortfall | dispenserFault | storeVerify
  | storeCorrupt
  deriving DecidableEq, Repr, Inhabited

/-- The count of a kind, and the times of its first and last occurrence while the count is above 0
(Table 9-2). -/
structure FaultEntry where
  count : Nat := 0
  times : Option (Nat × Nat) := none
  deriving DecidableEq, Repr, Inhabited

/-- The fault record (Table 9-2). -/
structure FaultRecord where
  gateSilent : FaultEntry := {}
  payoutMismatch : FaultEntry := {}
  payoutSuspense : FaultEntry := {}
  floatShortfall : FaultEntry := {}
  dispenserFault : FaultEntry := {}
  storeVerify : FaultEntry := {}
  storeCorrupt : FaultEntry := {}
  silentLanes : PerLane Bool := .all false
  maskOfRecord : BitVec 8 := defaultLockoutMask
  deriving DecidableEq, Repr, Inhabited

/-! ### The record store (chapter 4) -/

inductive AccountStatus where
  | active | frozen | corrupt
  deriving DecidableEq, Repr, Inhabited

/-- An account (Table 4-5). -/
structure Account where
  haulier : Nat
  status : AccountStatus := .active
  carry : Nat := 0
  visits : Nat := 0
  items : Nat := 0
  amount : Nat := 0
  lastSettled : Option Nat := none
  deriving DecidableEq, Repr, Inhabited

inductive Marker where
  | owed | dispensing
  deriving DecidableEq, Repr, Inhabited

/-- A settlement record (Table 4-2). -/
structure SettleRecord where
  docket : Nat
  lane : Lane
  haulier : Nat
  closedAt : Nat
  figures : Figures
  marker : Marker
  deriving DecidableEq, Repr, Inhabited

/-- A record of the store by kind and number (Table 4-1). -/
inductive RecordId where
  | account (n : Nat)
  | settlement (n : Nat)
  | float
  | fault
  | settings
  deriving DecidableEq, Repr, Inhabited

/-- The image a program takes of a working copy (R68); none is an empty account or a freed settlement
record. -/
inductive Image where
  | account (a : Option Account)
  | settlement (r : Option SettleRecord)
  | float (v : Nat)
  | fault (r : FaultRecord)
  | settings (g : Settings)
  deriving DecidableEq, Repr, Inhabited

/-- The condition of a record in the non-volatile memory (R62). A corrupt record keeps what its
haulier ID field reads as, which the scan looks at for accounts (R190). -/
inductive Cell (α : Type) where
  | blank
  | empty
  | valid (a : α)
  | corrupt (idField : Nat)
  deriving DecidableEq, Repr, Inhabited

/-- The non-volatile memory (Table 4-1); an account or settlement record not listed is blank. -/
structure Store where
  accounts : Table (Cell Account) := []
  settlements : Table (Cell SettleRecord) := []
  float : Cell Nat := .blank
  fault : Cell FaultRecord := .blank
  settings : Cell Settings := .blank
  deriving DecidableEq, Repr, Inhabited

/-- An entry of the commit queue: its record, whether it is an account-edit entry (R67), and whether
it is marked changed (R64). -/
structure Entry where
  record : RecordId
  edit : Bool := false
  changed : Bool := false
  deriving DecidableEq, Repr, Inhabited

inductive Attempt where
  | first | second
  deriving DecidableEq, Repr, Inhabited

/-- The program in progress, with its attempt and the attempt's 15 ms limit (R68). -/
structure Program where
  record : RecordId
  image : Image
  attempt : Attempt
  timer : Timer
  deriving DecidableEq, Repr, Inhabited

/-- Who waits on a program, and what the answer will carry (Table 4-3). -/
inductive WaitKind where
  /-- A PENDING_COMMIT order (R34). -/
  | order (docket : Nat)
  /-- TAKE_ORDER (R41). -/
  | take (docket : Nat)
  /-- CONFIRM_PAYOUT (R51): was the order in SUSPENSE, and the float after the confirmation. -/
  | confirm (docket : Nat) (late : Bool) (float : Nat)
  /-- RESOLVE_SUSPENSE with an amount (R53). -/
  | resolve (docket : Nat) (float : Nat)
  /-- LOAD_FLOAT (R56), with the new float. -/
  | loadFloat (float : Nat)
  /-- ACCOUNT_ADD, ACCOUNT_REMOVE or ACCOUNT_REWRITE (4.5), by its command. -/
  | accountEdit (code : CommandCode)
  /-- STORE_SETTINGS (R83). -/
  | storeSettings
  deriving DecidableEq, Repr, Inhabited

/-- A waiter on the first program of a record that begins after its change; `begun` once that program
has begun (R70). -/
structure Waiter where
  record : RecordId
  begun : Bool := false
  kind : WaitKind
  deriving DecidableEq, Repr, Inhabited

/-! ### Ports (chapter 10) -/

inductive Phase where
  | starting | ready | executing | result
  deriving DecidableEq, Repr, Inhabited

/-- One master port (R174). `result` is the header and body of the result waiting to be read, empty
outside RESULT; the event mask is a setting. -/
structure PortState where
  phase : Phase := .starting
  result : List Byte := []
  hold : Option Timer := none
  /-- The event flags, bit by bit as in Table 10-3; a reset sets RESET, bit 0 (R181). -/
  flags : BitVec 16 := 0x0001
  deriving DecidableEq, Repr, Inhabited

/-! ### The whole part -/

/-- The state of the part. The defaults are the values right after a reset with a store never
programmed: those of `State.reset` but for the event that the start-up scan of such a store raises. -/
structure State where
  /-- The commands and events that wait, first in first out. -/
  pending : List Instr := []
  mode : Mode := .scanning
  /-- The level of the ADDR strap, an input. -/
  addrStrap : Bool := false
  /-- Whether the RESET_N pin, an input, is held low; it keeps its level over the loss of power. -/
  resetLow : Bool := false
  /-- The 7-bit port address read from the strap (R174). -/
  address : BitVec 7 := 0x3C
  /-- Yard time in seconds, and the ticks counted toward the next second (R192). -/
  yardTime : Nat := 0
  subSecond : Nat := 0
  detectors : PerLane Detector := .all {}
  links : PerLane LaneLink := .all {}
  /-- The rotation position and the turn in progress (R143, R147). -/
  rotation : Option Lane := none
  turn : Option Turn := none
  strays : PerLane StrayTally := .all {}
  /-- The docket table: the occupied slots, in the order in which they were taken (R3). -/
  dockets : List Docket := []
  finished : List Nat := []
  nextNumber : Nat := 1
  /-- Each lane's open docket, by its number (R9), and its close grace timer (R15). -/
  openDocket : PerLane (Option Nat) := .all none
  grace : PerLane (Option Timer) := .all none
  /-- The order queue, head first (R39), and the dispense timer (R46). -/
  orderQueue : List Nat := []
  dispenseTimer : Option Timer := none
  /-- The order whose hand-over the SOFT_RESET in its drain has ended, by its docket number (R45). -/
  handedBack : Option Nat := none
  /-- The float's working copy, and the conditions FLOAT_LOW and FLOAT_OUT by cause (R55 to R61). -/
  float : Nat := 0
  floatLow : Bool := false
  shortCause : Bool := false
  emptyCause : Bool := false
  /-- The working copies of the other records (R63). -/
  accounts : Table Account := []
  settlements : Table SettleRecord := []
  faults : FaultRecord := {}
  settings : Settings := {}
  /-- Lockout (R167). -/
  lockout : Bool := false
  /-- The non-volatile memory, the commit queue, the held-account list, the program in progress and
  the waiters on programs (chapter 4). -/
  store : Store := {}
  commitQueue : List Entry := []
  held : List Nat := []
  program : Option Program := none
  waiters : List Waiter := []
  ports : PerPort PortState := .all {}
  /-- The output lines (Table 3-1). -/
  pins : Pins := {}
  /-- The MODEL's own: how many free values have been used (Config). -/
  freeCount : Nat := 0
  deriving DecidableEq, Repr, Inhabited

/-- The part right after power-on reset with a store never programmed (R62 "Blank"): in STARTING, its
scan read, so that every setting is at its default and SETTINGS_DEFAULT stands beside RESET on the
Office port (R84, R181, R189, R190). -/
def State.reset : State := { ports := ⟨{}, {}, { flags := 0x0101 }⟩ }

end Sys2Proof.Machine
end

