-- ==== Sys2Proof/Machine/Operands.lean ====
section
/-! DEFINITION. The wire forms: fields of command frames, widths and encodings of result fields, the
result header, result bodies and their presence bits (10.6), and the call bytes, checks and answers of
the gate link (8.5, 10.6.1). -/
namespace Sys2Proof.Machine

/-! ### Fields (R185) -/

/-- A field most significant byte first (R185, "Byte order"). -/
def beNat (bs : List Byte) : Nat := bs.foldl (fun n b => n * 256 + b.toNat) 0

/-- `n` as a field of `width` bytes, most significant byte first (R185). -/
def be : Nat → Nat → List Byte
  | 0, _ => []
  | k + 1, n => be k (n / 256) ++ [BitVec.ofNat 8 n]

/-- The field of `width` bytes that begins at parameter byte `off`. -/
def field (params : List Byte) (off width : Nat) : Nat := beNat ((params.drop off).take width)

/-- A flag or yes-or-no field: 1 for yes, 0 for no (R185). -/
def flagByte (b : Bool) : List Byte := be 1 (if b then 1 else 0)

/-- An on-or-off parameter; any other value is out of range (R185). -/
def onOff? : Nat → Option Bool
  | 0 => some false
  | 1 => some true
  | _ => none

/-- Lane n, for n from 0 to 3. -/
def lane? : Nat → Option Lane
  | 0 => some .l0
  | 1 => some .l1
  | 2 => some .l2
  | 3 => some .l3
  | _ => none

def laneIndex : Lane → Nat
  | .l0 => 0
  | .l1 => 1
  | .l2 => 2
  | .l3 => 3

/-- Class row k, for k from 0 to 11. -/
def class? (k : Nat) : Option (Fin 12) := if h : k < 12 then some ⟨k, h⟩ else none

/-! ### Named values: positions counting from 1 (R185) -/

/-- Table 5-1. -/
def laneStateCode : LaneState → Nat
  | .off => 1
  | .configuring => 2
  | .tuning => 3
  | .tuneFailed => 4
  | .settling => 5
  | .idle => 6
  | .entering => 7
  | .present => 8
  | .gap => 9
  | .lost => 10

/-- Table 1-1. -/
def docketStateCode : DocketState → Nat
  | .open => 1
  | .closing => 2
  | .awaitingPayout => 3
  | .paid => 4
  | .nilPayout => 5
  | .voided => 6

/-- R185. -/
def orderStateCode : OrderState → Nat
  | .pendingCommit => 1
  | .ready => 2
  | .offered => 3
  | .dispensing => 4
  | .suspense => 5
  | .paid => 6

def closeReasonCode : CloseReason → Nat
  | .normal => 1
  | .graceExpired => 2

def stopPolicyCode : StopPolicy → Nat
  | .never => 1
  | .onDocket => 2
  | .always => 3

/-- Table 10-9, SET_LANE identifier 16. -/
def stopPolicy? : Nat → Option StopPolicy
  | 1 => some .never
  | 2 => some .onDocket
  | 3 => some .always
  | _ => none

def chanCode : Chan → Nat
  | .ind => 1
  | .cap => 2
  | .ref => 3

def tuneCauseCode : TuneCause → Nat
  | .band => 1
  | .limit => 2

/-- Table 4-5. -/
def accountStatusCode : AccountStatus → Nat
  | .active => 1
  | .frozen => 2
  | .corrupt => 3

/-- R103. -/
def causeCode : Cause → Nat
  | .exit => 1
  | .split => 2
  | .reseed => 3
  | .lost => 4
  | .restart => 5
  | .tune => 6
  | .disable => 7

/-- R103. -/
def passOutcomeCode : PassOutcome → Nat
  | .classified _ => 1
  | .foreign => 2
  | .unresolved => 3

/-- The class index is sent with every outcome, as 0 when it is not CLASSIFIED (R185). -/
def passOutcomeClass : PassOutcome → Nat
  | .classified k => k.val
  | .foreign | .unresolved => 0

/-- Table 4-1. -/
def recordKindCode : RecordId → Nat
  | .account _ => 1
  | .settlement _ => 2
  | .float => 3
  | .fault => 4
  | .settings => 5

def attemptCode : Attempt → Nat
  | .first => 1
  | .second => 2

/-- Where an account's record stands on its way to the store (R78). -/
inductive CommitState where
  | none | waiting | programming | held
  deriving DecidableEq, Repr

def commitStateCode : CommitState → Nat
  | .none => 1
  | .waiting => 2
  | .programming => 3
  | .held => 4

/-- A set of channels: bit 0 IND, bit 1 CAP, bit 2 REF (R185). -/
def channelSetCode (c : PerChan Bool) : Nat :=
  (if c.ind then 1 else 0) + (if c.cap then 2 else 0) + (if c.ref then 4 else 0)

/-- A set of lanes: bit n for lane n (R185). -/
def laneSetCode (l : PerLane Bool) : Nat :=
  (if l.l0 then 1 else 0) + (if l.l1 then 2 else 0) + (if l.l2 then 4 else 0) + (if l.l3 then 8 else 0)

/-! ### Result codes (Table 10-2), the header (Table 10-6) and the presence byte (R186) -/

inductive ResultCode where
  | ok | okUnstored | late | lateUnstored
  | invalidCommand | invalidLength | notPermitted | outOfRange | wrongState | noSuchDocket | laneNotReady
  | laneBusy | tableFull | unknownAccount | accountFrozen | countShort | listEmpty | duplicate
  | locked | busyDispensing | noneReady | pending | dispenserEmpty | floatShort | suspenseOpen | storeBusy
  | storeFailed
  deriving DecidableEq, Repr

def ResultCode.byte : ResultCode → Byte
  | .ok => 0x00
  | .okUnstored => 0x01
  | .late => 0x02
  | .lateUnstored => 0x03
  | .invalidCommand => 0x10
  | .invalidLength => 0x11
  | .notPermitted => 0x12
  | .outOfRange => 0x13
  | .wrongState => 0x14
  | .noSuchDocket => 0x15
  | .laneNotReady => 0x16
  | .laneBusy => 0x17
  | .tableFull => 0x18
  | .unknownAccount => 0x19
  | .accountFrozen => 0x1A
  | .countShort => 0x1B
  | .listEmpty => 0x1C
  | .duplicate => 0x1D
  | .locked => 0x20
  | .busyDispensing => 0x21
  | .noneReady => 0x22
  | .pending => 0x23
  | .dispenserEmpty => 0x24
  | .floatShort => 0x25
  | .suspenseOpen => 0x26
  | .storeBusy => 0x27
  | .storeFailed => 0x28

/-- The body of a result: its parts in order, each fixed (none) or optional (some present). -/
abbrev Body := List (Option Bool × List Byte)

/-- A part that every result of the command carries. -/
def fixed (bs : List Byte) : Option Bool × List Byte := (none, bs)

/-- An optional part; absent, it takes no bytes but keeps its presence bit (R186). -/
def optional (bs : Option (List Byte)) : Option Bool × List Byte := (some bs.isSome, bs.getD [])

/-- The bytes of a body (R186). -/
def bodyBytes (b : Body) : List Byte := b.flatMap (·.2)

/-- The presence byte: bit i for the i-th optional part (R186). -/
def presenceBits (b : Body) : Nat :=
  (b.filterMap (·.1)).foldr (fun present n => (if present then 1 else 0) + 2 * n) 0

/-- A whole result: the four-byte header and the body (Table 10-6). -/
def resultBytes (code : Byte) (rc : ResultCode) (b : Body) : List Byte :=
  [code, rc.byte, BitVec.ofNat 8 (bodyBytes b).length, BitVec.ofNat 8 (presenceBits b)] ++ bodyBytes b

/-! ### Bodies -/

/-- The settlement figures, 28 bytes (Table 10-7). -/
def figuresBytes (f : Figures) : List Byte :=
  be 5 f.gross ++ be 4 f.foreignCharge ++ be 4 f.uncovered ++ be 1 f.carryIn ++ be 5 f.total ++
  be 5 f.referred ++ be 3 f.payout ++ be 1 f.remainder

/-- The tallies, 66 bytes (Table 10-7). -/
def talliesBytes (t : Tallies) : List Byte :=
  t.accepted.toList.flatMap (be 2) ++ t.rejected.toList.flatMap (be 2) ++ be 4 t.passes ++
  be 3 t.classified ++ be 3 t.manualAdded ++ be 2 t.foreign ++ be 2 t.unresolved ++ be 4 t.overflow

/-- The closed-at time a docket shows: none while it is in CLOSING (R2, R21). -/
def Docket.shownClosedAt (d : Docket) : Option Nat := if d.state = .closing then none else d.closedAt

/-- The docket body of READ_DOCKET and NEXT_FINISHED (Table 10-7, R186). -/
def docketBody (d : Docket) : Body :=
  [ fixed (be 2 d.number ++ be 1 (laneIndex d.lane) ++ be 3 d.haulier ++
      be 1 (docketStateCode d.state) ++ flagByte d.restored),
    optional (d.openedAt.map (be 4)),
    optional (d.shownClosedAt.map (be 4)),
    optional (d.closeReason.map fun r => be 1 (closeReasonCode r)),
    optional (d.tallies.map talliesBytes),
    optional (d.rates.map fun r => r.toList.flatMap (be 2)),
    optional (d.figures.map figuresBytes),
    optional (d.order.map fun o =>
      be 1 (orderStateCode o.state) ++
        be 1 ((if o.late then 1 else 0) + (if o.mismatch then 2 else 0))),
    optional ((d.order.bind (·.dispensed)).map (be 3)) ]

/-- The last outcome record as READ_LANE sends it (R103, R185). -/
def outcomeBytes (r : OutcomeRecord) : List Byte :=
  be 1 (passOutcomeCode r.outcome) ++ be 1 (passOutcomeClass r.outcome) ++ be 1 (causeCode r.cause) ++
  be 1 (chanCode r.primary) ++ be 2 r.peakInd ++ be 2 r.peakCap ++ be 2 r.dwell ++
  be 2 (r.bookedTo.getD 0) ++ be 4 r.resolvedAt

/-- A stray tally as READ_STRAY and CLEAR_STRAY send it (R123). -/
def strayBytes (t : StrayTally) : List Byte :=
  t.classes.toList.flatMap (be 2) ++ be 2 t.foreign ++ be 2 t.unresolved ++ flagByte t.saturated ++
  be 4 t.since

/-- A class row as READ_CLASS and SET_CLASS send it (R119, R79). -/
def classRowBytes (r : ClassRow) : List Byte :=
  flagByte r.enable ++ be 2 r.indLo ++ be 2 r.indHi ++ be 2 r.capLo ++ be 2 r.capHi ++ be 2 r.rate

/-- An account as ACCOUNT_READ sends it (Table 4-5, R78). -/
def accountBody (a : Account) (c : CommitState) : Body :=
  [ fixed (be 3 a.haulier ++ be 1 (accountStatusCode a.status) ++ be 1 a.carry ++ be 2 a.visits ++
      be 4 a.items ++ be 4 a.amount),
    optional (a.lastSettled.map (be 4)),
    fixed (be 1 (commitStateCode c)) ]

/-- A kind's count, and its first at and last at, one part (R172, R186). -/
def faultEntryBody (e : FaultEntry) : Body :=
  [ fixed (be 1 e.count), optional (e.times.map fun t => be 4 t.1 ++ be 4 t.2) ]

/-- The fault record and what stands beside it, as READ_FAULTS and CLEAR_FAULTS send it (R172). -/
def faultBody (r : FaultRecord) (maskInForce : BitVec 8) (lockout : Bool) (suspense : Nat) : Body :=
  faultEntryBody r.gateSilent ++ faultEntryBody r.payoutMismatch ++ faultEntryBody r.payoutSuspense ++
  faultEntryBody r.floatShortfall ++ faultEntryBody r.dispenserFault ++ faultEntryBody r.storeVerify ++
  faultEntryBody r.storeCorrupt ++
  [ fixed (be 1 (laneSetCode r.silentLanes) ++ [maskInForce, r.maskOfRecord] ++ flagByte lockout ++
      flagByte (0 < suspense) ++ be 1 suspense) ]

/-! ### The gate link (R145, R151, Tables 10-10 to 10-12) -/

/-- One shift of the CRC register toward its most significant end (R151). -/
def crcShift (r : Byte) : Byte := if r.msb then (r <<< 1) ^^^ 0x2F else r <<< 1

/-- One byte into the CRC register (R151). -/
def crcByte (r b : Byte) : Byte :=
  crcShift (crcShift (crcShift (crcShift (crcShift (crcShift (crcShift (crcShift (r ^^^ b))))))))

/-- The CRC of a list of bytes in the order in which they stand on the cable (R151). -/
def crc (bs : List Byte) : Byte := bs.foldl crcByte 0xFF

/-- The kind field of a call byte (Table 10-10). -/
def callKindCode : CallKind → Nat
  | .sample => 1
  | .config => 2
  | .tune => 3

/-- The call byte: lane, kind, and their complement as the check field (Table 10-10). -/
def callByte (k : CallKind) (n : Lane) : Byte :=
  let low := laneIndex n + 4 * callKindCode k
  BitVec.ofNat 8 (low + 16 * (15 - low))

/-- The bytes of a call after the break (Tables 8-2 and 10-11). -/
def callBytes (k : CallKind) (n : Lane) (bitRate : Nat) (targets : PerChan Nat) : List Byte :=
  let b := callByte k n
  match k with
  | .sample => [b]
  | .config =>
    let data := b :: (be 1 (laneIndex n) ++ be 3 bitRate ++ be 2 0)
    data ++ [crc data]
  | .tune =>
    let data := b :: (be 2 targets.ind ++ be 2 targets.cap ++ be 2 targets.ref)
    data ++ [crc data]

/-- The number of characters of an answer (R150). -/
def answerLength : CallKind → Nat
  | .sample => 10
  | .config | .tune => 3

/-- The status of an answer (R187). -/
inductive AnswerStatus where
  | ready | notReady | tuning | tuned | fresh
  deriving DecidableEq, Repr

/-- Any other value is handled as NOT_READY in a SAMPLE answer, and as neither FRESH nor TUNING in the
others, which NOT_READY is not either (R187). -/
def answerStatus (b : Byte) : AnswerStatus :=
  if b = 1 then .ready
  else if b = 3 then .tuning
  else if b = 4 then .tuned
  else if b = 5 then .fresh
  else .notReady

/-- The seven turn outcomes that are misses (R154). -/
inductive MissKind where
  | echo | lineStuck | noAnswer | answerTimeout | framing | crc | address
  deriving DecidableEq, Repr

/-- The outcome of a turn (R151): a miss, or an accepted answer with its status, sequence and counts.
The answers to CONFIG and TUNE calls carry neither sequence nor counts. -/
inductive Verdict where
  | miss (k : MissKind)
  | accepted (status : AnswerStatus) (seq : Nat) (counts : PerChan Nat)
  deriving DecidableEq, Repr

/-- The judgement of a complete answer, in the order of R151. -/
def judge (t : Turn) (chars : List AnswerChar) : Verdict :=
  let bytes := chars.map (·.1)
  if chars.any (fun c => !c.2) then .miss .framing
  else if bytes.getLast? ≠ some (crc bytes.dropLast) then .miss .crc
  else if bytes.head? ≠ some (callByte t.kind t.lane) then .miss .address
  else match t.kind with
    | .sample =>
      .accepted (answerStatus (bytes.getD 2 0)) (field bytes 1 1)
        ⟨field bytes 3 2, field bytes 5 2, field bytes 7 2⟩
    | .config | .tune => .accepted (answerStatus (bytes.getD 1 0)) 0 (.all 0)

end Sys2Proof.Machine
end

