-- ==== Sys2Proof/Machine/Flags.lean ====
section
/-! DEFINITION. The event flags of the ports (Table 10-3), the faults that lock the dispenser (R167),
and the rules of the output lines: attention (R182), LOCKOUT (R168), lane stop (R109) and the gate
link's driver enable (R144). -/
namespace Sys2Proof.Machine

/-- The port events by name (Table 10-3). -/
inductive Event where
  | reset | laneState | jam | tuneError | drift | stray | docketDone | resultLost | orderReady
  | floatLow | floatOut | lockout | suspense | fault | referred | finished | accountFrozen
  | settingsDefault
  deriving DecidableEq, Repr

/-- The flag bit of an event on a port; 0 where the port has no such event (Table 10-3). -/
def Event.bit : Port → Event → BitVec 16
  | _, .reset => 0x0001
  | .lane, .laneState => 0x0002
  | .lane, .jam => 0x0004
  | .lane, .tuneError => 0x0008
  | .lane, .drift => 0x0010
  | .lane, .stray => 0x0020
  | .lane, .docketDone => 0x0040
  | .lane, .resultLost => 0x0080
  | .payout, .orderReady => 0x0002
  | .payout, .floatLow => 0x0004
  | .payout, .floatOut => 0x0008
  | .payout, .lockout => 0x0010
  | .payout, .suspense => 0x0020
  | .payout, .resultLost => 0x0040
  | .office, .fault => 0x0002
  | .office, .referred => 0x0004
  | .office, .finished => 0x0008
  | .office, .accountFrozen => 0x0010
  | .office, .floatLow => 0x0020
  | .office, .lockout => 0x0040
  | .office, .suspense => 0x0080
  | .office, .settingsDefault => 0x0100
  | .office, .resultLost => 0x0200
  | _, _ => 0

/-- The bits of a port's events: the masks it may be given (R182, Table 10-3). -/
def eventBits : Port → Nat
  | .lane => 0x00FF
  | .payout => 0x007F
  | .office => 0x03FF

def FaultRecord.get (r : FaultRecord) : FaultKind → FaultEntry
  | .gateSilent => r.gateSilent
  | .payoutMismatch => r.payoutMismatch
  | .payoutSuspense => r.payoutSuspense
  | .floatShortfall => r.floatShortfall
  | .dispenserFault => r.dispenserFault
  | .storeVerify => r.storeVerify
  | .storeCorrupt => r.storeCorrupt

def FaultRecord.set (r : FaultRecord) (k : FaultKind) (e : FaultEntry) : FaultRecord :=
  match k with
  | .gateSilent => { r with gateSilent := e }
  | .payoutMismatch => { r with payoutMismatch := e }
  | .payoutSuspense => { r with payoutSuspense := e }
  | .floatShortfall => { r with floatShortfall := e }
  | .dispenserFault => { r with dispenserFault := e }
  | .storeVerify => { r with storeVerify := e }
  | .storeCorrupt => { r with storeCorrupt := e }

/-- The bit of a fault kind in a lockout mask: bit k for row k + 1 of Table 9-1 (R185). -/
def FaultKind.index : FaultKind → Nat
  | .gateSilent => 0
  | .payoutMismatch => 1
  | .payoutSuspense => 2
  | .floatShortfall => 3
  | .dispenserFault => 4
  | .storeVerify => 5
  | .storeCorrupt => 6

def FaultKind.list : List FaultKind :=
  [.gateSilent, .payoutMismatch, .payoutSuspense, .floatShortfall, .dispenserFault, .storeVerify,
   .storeCorrupt]

/-- Whether a fault record holds a kind selected in a mask (R167). -/
def locks (r : FaultRecord) (mask : BitVec 8) : Bool :=
  FaultKind.list.any fun k => 0 < (r.get k).count && mask.getLsbD k.index

/-- One occurrence of a kind at a yard time (R163). -/
def FaultEntry.occur (e : FaultEntry) (now : Nat) : FaultEntry :=
  { count := min 255 (e.count + 1),
    times := some (if e.count = 0 then now else (e.times.map (·.1)).getD now, now) }

/-- The four counting states (R86). -/
def LaneState.counting : LaneState → Bool
  | .idle | .entering | .present | .gap => true
  | .off | .configuring | .tuning | .tuneFailed | .settling | .lost => false

/-- Whether a change of lane state raises LANE_STATE (R88). -/
def raisesLaneState (a b : LaneState) : Bool := a ≠ b && !(a.counting && b.counting)

/-- LSTOPn outside STARTING (R109). -/
def lstopRule (p : StopPolicy) (l : LaneState) (openDocket : Bool) : Bool :=
  match l with
  | .configuring | .tuning | .tuneFailed | .settling | .lost =>
    match p with
    | .never => false
    | .onDocket => openDocket
    | .always => true
  | .off | .idle | .entering | .present | .gap => false

/-- LSTOPn of a lane of the running part (R109). -/
def State.lstopOf (s : State) (n : Lane) : Bool :=
  lstopRule (s.settings.lanes.get n).stopPolicy (s.detectors.get n).state (s.openDocket.get n).isSome

/-- The attention line of a port of the running part (R182). -/
def State.attnOf (s : State) (p : Port) : Bool :=
  (s.ports.get p).flags &&& s.settings.eventMask.get p != 0

/-- GL_DE: asserted from the first bit time of the break to the end of the call (R144). -/
def State.glDeOf (s : State) : Bool := s.turn.any fun t => t.phase = .calling

/-- The lines as their rules give them. In STARTING and while RESET_N is held low, LOCKOUT and the
LSTOP lines are asserted and the attention lines released (Table 4-1, R109, R168, R182). Without
supply the levels are a free value (log entry 2). -/
def State.ruledPins (s : State) : Pins :=
  match s.mode with
  | .running =>
    { lstop := ⟨s.lstopOf .l0, s.lstopOf .l1, s.lstopOf .l2, s.lstopOf .l3⟩,
      lockout := s.lockout,
      attn := ⟨s.attnOf .lane, s.attnOf .payout, s.attnOf .office⟩,
      glDe := s.glDeOf }
  | .draining | .scanning =>
    { lstop := .all true, lockout := true, attn := .all false, glDe := s.glDeOf }
  | .resetHeld => { lstop := .all true, lockout := true, attn := .all false, glDe := false }
  | .unpowered => Config.unpoweredPins s.freeCount

/-- Drive every line to the value its rule gives. -/
def State.drivePins (s : State) : State := { s with pins := s.ruledPins }

end Sys2Proof.Machine
end

