-- ==== Sys2Proof/Machine/Ops.lean ====
section
/-! DEFINITION. The operations that the commands and events share: tables of records, results and
events of a port, the commit queue and its programs, fault occurrences and lockout, the float
conditions, the order queue, booking an outcome, and the completion of closing with its settlement. -/
namespace Sys2Proof.Machine

/-! ### Tables of records -/

def tableGet {α : Type} (t : Table α) (k : Nat) : Option α := (t.find? fun e => e.1 == k).map (·.2)

def tablePut {α : Type} : Table α → Nat → α → Table α
  | [], k, a => [(k, a)]
  | (k', a') :: t, k, a =>
    if k < k' then (k, a) :: (k', a') :: t
    else if k = k' then (k, a) :: t
    else (k', a') :: tablePut t k a

def tableDel {α : Type} (t : Table α) (k : Nat) : Table α := t.filter fun e => e.1 != k

/-- The lowest number below `size` that the table does not list (R63). -/
def lowestFree {α : Type} (size : Nat) (t : Table α) : Option Nat :=
  (List.range size).find? fun k => (tableGet t k).isNone

/-- Apply a function to each of the twelve rows. -/
def rowsMap {α β : Type} (v : Vector α 12) (f : α → β) : Vector β 12 :=
  ⟨⟨v.toList.map f⟩, by simp⟩

/-! ### Ports -/

def Timer.start (limit : Nat) : Timer := { limit := limit }

def State.setPort (s : State) (p : Port) (q : PortState) : State := { s with ports := s.ports.set p q }

/-- Raise an event on a port: its flag is set, or stays set (R181). -/
def State.raise (s : State) (p : Port) (e : Event) : State :=
  s.setPort p { s.ports.get p with flags := (s.ports.get p).flags ||| e.bit p }

/-- Clear the flags selected by `bits` on a port. -/
def State.clearFlags (s : State) (p : Port) (bits : BitVec 16) : State :=
  s.setPort p { s.ports.get p with flags := (s.ports.get p).flags &&& ~~~bits }

/-- The port goes to RESULT with these bytes, and its result hold timer starts with the hold time in
force (R176, R179). -/
def State.enterResult (s : State) (p : Port) (bytes : List Byte) : State :=
  s.setPort p { s.ports.get p with
    phase := .result, result := bytes, hold := some (Timer.start s.settings.holdTime) }

/-- The result of a command (Table 10-6). -/
def State.respond (s : State) (p : Port) (c : CommandCode) (rc : ResultCode) (b : Body) : State :=
  s.enterResult p (resultBytes c.byte rc b)

/-- A refusal: its result code and an empty body, every other state as it was (R1). -/
def State.refuse (s : State) (p : Port) (c : CommandCode) (rc : ResultCode) : State := s.respond p c rc []

/-- The port goes to EXECUTING (R176). -/
def State.toExecuting (s : State) (p : Port) : State :=
  s.setPort p { s.ports.get p with phase := .executing }

/-- The result leaves the port, which goes to READY with its hold timer stopped (R178, R179). -/
def State.toReady (s : State) (p : Port) : State :=
  s.setPort p { s.ports.get p with phase := .ready, result := [], hold := none }

/-- The end of a command that waited in EXECUTING (R176). -/
def State.answerWaiting (s : State) (p : Port) (c : CommandCode) (rc : ResultCode) (b : Body) : State :=
  if (s.ports.get p).phase = .executing then s.respond p c rc b else s

/-! ### Lanes -/

def State.setDetector (s : State) (n : Lane) (d : Detector) : State :=
  { s with detectors := s.detectors.set n d }

def State.setLink (s : State) (n : Lane) (l : LaneLink) : State := { s with links := s.links.set n l }

/-- Replace a lane's detector, and raise LANE_STATE where the lane's state changes other than between
counting states (R88). -/
def State.moveLane (s : State) (n : Lane) (d : Detector) : State :=
  if raisesLaneState (s.detectors.get n).state d.state then (s.setDetector n d).raise .lane .laneState
  else s.setDetector n d

/-! ### Dockets, orders and accounts by name -/

/-- The docket that bears a number. -/
def State.docket? (s : State) (num : Nat) : Option Docket := s.dockets.find? fun d => d.number == num

/-- The lane's OPEN or CLOSING docket (R9). -/
def State.laneDocket (s : State) (n : Lane) : Option Docket := (s.openDocket.get n).bind s.docket?

/-- Change the docket that bears a number. -/
def State.updateDocket (s : State) (num : Nat) (f : Docket → Docket) : State :=
  { s with dockets := s.dockets.map fun d => if d.number = num then f d else d }

/-- Change the order of a docket. -/
def State.updateOrder (s : State) (num : Nat) (f : Order → Order) : State :=
  s.updateDocket num fun d => { d with order := d.order.map f }

def State.setOrderState (s : State) (num : Nat) (st : OrderState) : State :=
  s.updateOrder num fun o => { o with state := st }

def State.order? (s : State) (num : Nat) : Option Order := (s.docket? num).bind (·.order)

def State.orderState? (s : State) (num : Nat) : Option OrderState := (s.order? num).map (·.state)

/-- The payout P of a docket's order (Table 2-3). -/
def State.payoutOf (s : State) (num : Nat) : Nat :=
  (((s.docket? num).bind (·.figures)).map (·.payout)).getD 0

/-- The account of a haulier ID, with its record number. -/
def State.account? (s : State) (haulier : Nat) : Option (Nat × Account) :=
  s.accounts.find? fun e => e.2.haulier == haulier

/-- The settlement record working copy of a docket, by its record number. -/
def State.settlementOf (s : State) (num : Nat) : Option Nat :=
  (s.settlements.find? fun e => e.2.docket == num).map (·.1)

/-- Whether a docket's order is in hand: OFFERED or DISPENSING (3, "the order in hand"). -/
def Docket.inHand (d : Docket) : Bool :=
  d.order.any fun o => o.state = .offered || o.state = .dispensing

/-- The docket of the order in hand. -/
def State.inHand? (s : State) : Option Docket := s.dockets.find? Docket.inHand

/-- The number of orders in SUSPENSE (R172). -/
def State.suspenseCount (s : State) : Nat :=
  (s.dockets.filter fun d => d.order.any fun o => o.state = .suspense).length

/-- Whether the part works on what is in flight: running, or draining after SOFT_RESET (R188). Held in
reset and during the scan no limit runs and no program is under way. -/
def State.active (s : State) : Bool := s.mode = .running || s.mode = .draining

/-! ### The commit queue (R64 to R67) -/

def RecordId.isAccount : RecordId → Bool
  | .account _ => true
  | .settlement _ | .float | .fault | .settings => false

/-- The account entries in the commit queue (R65). -/
def State.accountEntries (s : State) : Nat := (s.commitQueue.filter (·.record.isAccount)).length

def State.hasEntry (s : State) (r : RecordId) : Bool := s.commitQueue.any fun e => e.record = r

/-- Whether a record is being programmed. -/
def State.programming (s : State) (r : RecordId) : Bool := s.program.any fun g => g.record = r

/-- The most account entries the commit queue admits (R65). -/
def accountEntryLimit : Nat := 21

/-- Queue a record for commit (R64): merge into its entry, or into its place in the held-account list,
or place a new entry at the tail. An account request that finds 21 account entries goes to the
held-account list (R66); an office edit was refused before it came here (R67). `edit` marks an office
account edit. -/
def State.queueRecord (s : State) (r : RecordId) (edit : Bool := false) : State :=
  if s.hasEntry r then
    { s with commitQueue := s.commitQueue.map fun e =>
        if e.record = r then
          { e with edit := e.edit || edit, changed := e.changed || s.programming r }
        else e }
  else
    match r with
    | .account n =>
      if s.held.contains n then s
      else if accountEntryLimit ≤ s.accountEntries then { s with held := s.held ++ [n] }
      else { s with commitQueue := s.commitQueue ++ [{ record := r, edit := edit }] }
    | .settlement _ | .float | .fault | .settings =>
      { s with commitQueue := s.commitQueue ++ [{ record := r, edit := edit }] }

/-- Whether an office edit of an account record is refused with STORE_BUSY (R67). -/
def State.storeBusy (s : State) (n : Nat) : Bool :=
  !s.hasEntry (.account n) && accountEntryLimit ≤ s.accountEntries

/-- Wait on the first program of a record that begins from now on (R70). -/
def State.wait (s : State) (r : RecordId) (k : WaitKind) : State :=
  { s with waiters := s.waiters ++ [{ record := r, kind := k }] }

/-- The image of a record's working copy (R68). -/
def State.image (s : State) : RecordId → Image
  | .account n => .account (tableGet s.accounts n)
  | .settlement n => .settlement (tableGet s.settlements n)
  | .float => .float s.float
  | .fault => .fault s.faults
  | .settings => .settings s.settings

/-- The time within which an attempt must finish, in ticks (R68). -/
def attemptLimit : Nat := 15

/-- Begin the program of the head entry, where the queue holds one, no program runs, and the part is
neither scanning nor in reset (R64, R73). The head stops being an account-edit entry (R67), and the
waiters on its record now wait on this program (R70). -/
def State.beginProgram (s : State) : State :=
  match s.program, s.commitQueue with
  | none, e :: rest =>
    if s.active then
      { s with
        program := some ⟨e.record, s.image e.record, .first, Timer.start attemptLimit⟩
        commitQueue := { e with edit := false, changed := false } :: rest
        waiters := s.waiters.map fun w => if w.record = e.record then { w with begun := true } else w }
    else s
  | _, _ => s

/-- Write an image with its checksum into a record: valid, or empty for a freed image (R68). -/
def Store.write (m : Store) (r : RecordId) (i : Image) : Store :=
  match r, i with
  | .account n, .account (some a) => { m with accounts := tablePut m.accounts n (.valid a) }
  | .account n, .account none => { m with accounts := tablePut m.accounts n .empty }
  | .settlement n, .settlement (some x) => { m with settlements := tablePut m.settlements n (.valid x) }
  | .settlement n, .settlement none => { m with settlements := tablePut m.settlements n .empty }
  | .float, .float v => { m with float := .valid v }
  | .fault, .fault f => { m with fault := .valid f }
  | .settings, .settings g => { m with settings := .valid g }
  | _, _ => m

/-- Leave a record corrupt (R62). -/
def Store.corrupt (m : Store) (r : RecordId) (idField : Nat) : Store :=
  match r with
  | .account n => { m with accounts := tablePut m.accounts n (.corrupt idField) }
  | .settlement n => { m with settlements := tablePut m.settlements n (.corrupt idField) }
  | .float => { m with float := .corrupt idField }
  | .fault => { m with fault := .corrupt idField }
  | .settings => { m with settings := .corrupt idField }

/-- A residue in the record of a program that was cut off or failed twice: DESIGN CHOICE, a free value of
the three conditions of R68 (R73, log entry 1). -/
def Store.leave (m : Store) (g : Program) : Residue → Store
  | .old => m
  | .image => m.write g.record g.image
  | .corrupt idField => m.corrupt g.record idField

/-- The next residue, a free value, in the record of a program; `narrow` is what a rule makes of it. -/
def State.leaveResidue (s : State) (g : Program) (narrow : Residue → Residue) : State :=
  { s with store := s.store.leave g (narrow (Config.residue s.freeCount)), freeCount := s.freeCount + 1 }

/-- A residue without R68's image: the old contents stand in its place. -/
def withoutImage : Residue → Residue
  | .image => .old
  | .old => .old
  | .corrupt idField => .corrupt idField

/-- The attempt in progress is cut off where it stands: the record keeps its old contents or is corrupt
(R62, R73), since until a program completes the store does not hold its image (R44, R45, R51, R54). DESIGN
CHOICE (log entry 1): which of the two, and that a corrupt record is possible beside those rules. -/
def State.cutProgram (s : State) : State :=
  match s.program with
  | some g => { s.leaveResidue g withoutImage with program := none }
  | none => s

/-- A program whose image its record does not hold after a second failure: the float record's (R71), the
settings record's (R83), and one that sets back to OWED a record that the store holds DISPENSING, as it does
until that program completes (R44, R54). -/
def Store.imageBarred (m : Store) (g : Program) : Bool :=
  match g.record, g.image with
  | .float, _ | .settings, _ => true
  | .settlement n, .settlement (some x) =>
    x.marker = .owed && tableGet m.settlements n = some (.valid { x with marker := .dispensing })
  | _, _ => false

/-- What a program that fails twice may leave: R68's three conditions, but for the image where a rule
bars it. DESIGN CHOICE (log entry 1): those rules go before R68; and for the float record, of which R56 says
after LOAD_FLOAT that the store holds the previous value, R71 goes before R56, so that it may be corrupt. -/
def Store.failureResidue (m : Store) (g : Program) : Residue → Residue :=
  if m.imageBarred g then withoutImage else id

/-- The record that a program sets back to OWED for the order whose hand-over SOFT_RESET ended, with no
later program of it to follow (R45, R69). -/
def State.handBackOf (s : State) (g : Program) : Option SettleRecord :=
  match g.image with
  | .settlement (some x) =>
    if x.marker = .owed ∧ s.handedBack = some x.docket ∧ s.commitQueue.head?.any (!·.changed) then some x
    else none
  | _ => none

/-- What a program that has failed twice leaves in its record (R68). The OWED program of R45 leaves it
marked DISPENSING, so that the order comes back in SUSPENSE: the old contents, where the DISPENSING program
of the hand-over had completed, and where it had not, R45 before R68: DESIGN CHOICE (log entry 1). -/
def State.leaveFailed (s : State) (g : Program) : State :=
  match s.handBackOf g with
  | some x =>
    { s with store := s.store.write g.record (.settlement (some { x with marker := .dispensing })) }
  | none => s.leaveResidue g (s.store.failureResidue g)

/-- The head entry leaves the queue, or moves to the tail if it is marked changed (R69). Where an
account entry leaves, the oldest held account moves in (R66). -/
def State.entryEnds (s : State) : State :=
  match s.commitQueue with
  | [] => s
  | e :: rest =>
    if e.changed then { s with commitQueue := rest ++ [{ e with changed := false }] }
    else match e.record.isAccount, s.held with
      | true, n :: held => { s with commitQueue := rest ++ [{ record := .account n }], held := held }
      | _, _ => { s with commitQueue := rest }

/-! ### Faults and lockout (R162 to R169) -/

/-- Evaluate lockout; a change raises LOCKOUT on the Payout and Office ports (R167, R169). During the
start-up scan lockout waits for step 3 (R189). -/
def State.evalLockout (s : State) : State :=
  let now := locks s.faults s.settings.lockoutMask
  if s.mode = .scanning ∨ now = s.lockout then s
  else (({ s with lockout := now }).raise .payout .lockout).raise .office .lockout

/-- An occurrence of a fault that does not queue the fault record (R72, R163, R164). -/
def State.noteFault (s : State) (k : FaultKind) : State :=
  (({ s with faults := s.faults.set k ((s.faults.get k).occur s.yardTime) }).raise .office .fault).evalLockout

/-- An occurrence of a fault (R163 to R165, R167). -/
def State.recordFault (s : State) (k : FaultKind) : State := (s.noteFault k).queueRecord .fault

/-! ### The float (R55 to R61) -/

/-- The FLOAT_LOW condition after a check (R58). -/
def floatLowAfter (float lowSet lowClear : Nat) (was : Bool) : Bool :=
  if float ≤ lowSet then true else if lowClear ≤ float then false else was

/-- A change of FLOAT_LOW raises it on the Payout and Office ports; the value it has already changes
nothing (R58). -/
def State.setFloatLow (s : State) (b : Bool) : State :=
  if b = s.floatLow then s
  else (({ s with floatLow := b }).raise .payout .floatLow).raise .office .floatLow

/-- The FLOAT_LOW check (R58). -/
def State.checkFloatLow (s : State) : State :=
  s.setFloatLow (floatLowAfter s.float s.settings.floatLowSet s.settings.floatLowClear s.floatLow)

/-- The head of the order queue is a READY order (R40). -/
def State.headReady (s : State) : Bool :=
  s.orderQueue.head?.any fun num => s.orderState? num = some .ready

/-- The short cause of FLOAT_OUT (R59). -/
def State.shortNow (s : State) : Bool :=
  s.headReady && s.orderQueue.head?.any fun num => s.float < s.payoutOf num

/-- A change of the short cause raises FLOAT_OUT; the value it has already changes nothing (R61). -/
def State.setShortCause (s : State) (b : Bool) : State :=
  if b = s.shortCause then s else ({ s with shortCause := b }).raise .payout .floatOut

/-- The check of the short cause; a change raises FLOAT_OUT (R59, R61). -/
def State.checkShort (s : State) : State := s.setShortCause s.shortNow

/-- A change of the empty cause raises FLOAT_OUT; the value it has already changes nothing (R60, R61). -/
def State.setEmptyCause (s : State) (b : Bool) : State :=
  if b = s.emptyCause then s else ({ s with emptyCause := b }).raise .payout .floatOut

/-- The head of the order queue with its order's state. -/
def State.headView (s : State) : Option (Nat × Option OrderState) :=
  s.orderQueue.head?.map fun num => (num, s.orderState? num)

/-- What an event does to the order events once its own work is done: ORDER_READY where the head has
become a READY order (R40), and the check of the short cause where the float, the head, or the head
order's state has changed (R59). -/
def State.orderEvents (before after : State) : State :=
  let s := if after.headReady && !before.headReady then after.raise .payout .orderReady else after
  if before.headView = after.headView ∧ before.float = after.float then s else s.checkShort

/-- The end of an event: the order events, the program that begins at it (R64), and the lines. -/
def State.conclude (before after : State) : State :=
  ((State.orderEvents before after).beginProgram).drivePins

/-! ### Port commands -/

/-- A write transaction taken on a port (R175, R177). Outside READY it is not taken and nothing changes
(R176); the checks of R175 come before the command's own. -/
def State.command (s : State) (p : Port) (c : CommandCode) (params : List Byte)
    (run : State → State) : State :=
  if (s.ports.get p).phase ≠ .ready then s
  else if !c.permitted p then (s.refuse p c .notPermitted).drivePins
  else if params.length ≠ c.paramBytes then (s.refuse p c .invalidLength).drivePins
  else run s

/-- A refusal by one of the command's own checks. -/
def State.refused (s : State) (p : Port) (c : CommandCode) (rc : ResultCode) : State :=
  (s.refuse p c rc).drivePins

/-- A result that leaves everything else as it was: a read. -/
def State.answered (s : State) (p : Port) (c : CommandCode) (b : Body) : State :=
  (s.respond p c .ok b).drivePins

/-! ### The order queue and settlement records -/

/-- Put the marker of a docket's settlement record working copy (R41, R43, R44, R54). -/
def State.setMarker (s : State) (num : Nat) (m : Marker) : State :=
  { s with settlements := s.settlements.map fun e =>
      if e.2.docket = num then (e.1, { e.2 with marker := m }) else e }

/-- Queue the settlement record of a docket. -/
def State.queueSettlement (s : State) (num : Nat) : State :=
  match s.settlementOf num with
  | some r => s.queueRecord (.settlement r)
  | none => s

/-- Set a marker back to OWED and queue it (R43, R44, R45, R54). -/
def State.markOwed (s : State) (num : Nat) : State := (s.setMarker num .owed).queueSettlement num

def State.dequeueOrder (s : State) (num : Nat) : State :=
  { s with orderQueue := s.orderQueue.filter (· ≠ num) }

/-- A docket joins the tail of the finished list, and FINISHED is raised (R6). -/
def State.joinFinished (s : State) (num : Nat) : State :=
  ({ s with finished := s.finished ++ [num] }).raise .office .finished

/-! ### Booking outcomes (R7, R8, R121) -/

/-- The ceiling of the 32-bit tallies and counts. -/
def max32 : Nat := 4294967295

/-- The tallies after taking an outcome, or none where passes is at its ceiling (R8). -/
def Tallies.take (t : Tallies) (o : PassOutcome) : Option Tallies :=
  if max32 ≤ t.passes then none
  else
    let t := { t with passes := t.passes + 1 }
    match o with
    | .classified k =>
      if t.accepted[k] < 9999 then
        some { t with accepted := t.accepted.set k (t.accepted[k] + 1), classified := t.classified + 1 }
      else some { t with overflow := t.overflow + 1 }
    | .foreign =>
      if t.foreign < 9999 then some { t with foreign := t.foreign + 1 }
      else some { t with overflow := t.overflow + 1 }
    | .unresolved =>
      if t.unresolved < 9999 then some { t with unresolved := t.unresolved + 1 }
      else some { t with overflow := t.overflow + 1 }

/-- The stray tally after counting an outcome (R121). -/
def StrayTally.count (t : StrayTally) (o : PassOutcome) : StrayTally :=
  match o with
  | .classified k =>
    if t.classes[k] < 65535 then { t with classes := t.classes.set k (t.classes[k] + 1) }
    else { t with saturated := true }
  | .foreign =>
    if t.foreign < 65535 then { t with foreign := t.foreign + 1 } else { t with saturated := true }
  | .unresolved =>
    if t.unresolved < 65535 then { t with unresolved := t.unresolved + 1 }
    else { t with saturated := true }

/-- Count an outcome into the lane's stray tally and raise STRAY (R121, R122). -/
def State.bookStray (s : State) (n : Lane) (o : PassOutcome) : State :=
  ({ s with strays := s.strays.set n ((s.strays.get n).count o) }).raise .lane .stray

/-- The lane's docket and its tallies after an outcome, where the docket takes it (R7, R8). -/
def State.bookingOf (s : State) (n : Lane) (o : PassOutcome) : Option (Nat × Tallies) :=
  (s.laneDocket n).bind fun d => (d.tallies.bind (·.take o)).map fun t => (d.number, t)

/-- Book an outcome of a lane to its docket or to its stray tally (R7). -/
def State.book (s : State) (n : Lane) (o : PassOutcome) : State :=
  match s.bookingOf n o with
  | some (num, t) => s.updateDocket num fun d => { d with tallies := some t }
  | none => s.bookStray n o

/-! ### Settlement (chapter 2) -/

/-- The net counts c[k] = accepted[k] − rejected[k] (R26). -/
def Tallies.net (t : Tallies) : List Nat := List.zipWith (· - ·) t.accepted.toList t.rejected.toList

/-- The gross G (R27). -/
def grossOf (counts rates : List Nat) : Nat := (List.zipWith (· * ·) counts rates).sum

/-- The eight figures from the gross, the foreign charge, the carry-in, the rounding unit and the cap
(R28 to R31). -/
def figuresOf (g f carry u k : Nat) : Figures :=
  let total := (g - f) + carry
  let cap := (k / u) * u
  let capped := min total cap
  let payout := (capped / u) * u
  { gross := g, foreignCharge := f, uncovered := f - g, carryIn := carry, total := total,
    referred := total - capped, payout := payout, remainder := capped - payout }

/-- The twelve rates in force (R27). -/
def Settings.rates (g : Settings) : Vector Nat 12 := rowsMap g.classes (·.rate)

/-- The carry-in of a haulier: 0 for a walk-in (R29). -/
def State.carryIn (s : State) (haulier : Nat) : Nat :=
  if haulier = 0 then 0 else ((s.account? haulier).map (·.2.carry)).getD 0

/-- The figures of a docket with these tallies, from the inputs of Table 2-1 as they stand (R25). -/
def State.settle (s : State) (haulier : Nat) (t : Tallies) : Figures :=
  figuresOf (grossOf t.net s.settings.rates.toList) (t.foreign * s.settings.foreignFee)
    (s.carryIn haulier) s.settings.roundUnit s.settings.cap

/-- An account after a settlement (R32). -/
def Account.settled (a : Account) (items : Nat) (f : Figures) (now : Nat) : Account :=
  { a with
    carry := f.remainder
    visits := min 65535 (a.visits + 1)
    items := min max32 (a.items + items)
    amount := min max32 (a.amount + f.payout)
    lastSettled := some now }

/-- The account of an account haulier takes the settlement; a walk-in touches none (R32). -/
def State.settleAccount (s : State) (haulier : Nat) (items : Nat) (f : Figures) : State :=
  if haulier = 0 then s
  else match s.account? haulier with
    | some (r, a) => { s with accounts := tablePut s.accounts r (a.settled items f s.yardTime) }
    | none => s

/-- Queue the account record of an account haulier, from settlement (R34, R35, R66). -/
def State.queueAccountOf (s : State) (haulier : Nat) : State :=
  if haulier = 0 then s
  else match s.account? haulier with
    | some (r, _) => s.queueRecord (.account r)
    | none => s

/-- The order of a docket waits on the programs of its settlement record and of its account (R34). -/
def State.waitOrder (s : State) (num : Nat) (settlement : Option Nat) (haulier : Nat) : State :=
  let s := match settlement with
    | some r => s.wait (.settlement r) (.order num)
    | none => s
  if haulier = 0 then s
  else match s.account? haulier with
    | some (r, _) => s.wait (.account r) (.order num)
    | none => s

/-- The hand-off with a payout (R34). -/
def State.handOff (s : State) (d : Docket) (f : Figures) : State :=
  let s := s.updateDocket d.number fun d =>
    { d with state := .awaitingPayout, order := some { state := .pendingCommit } }
  let r := lowestFree 16 s.settlements
  let s := match r with
    | some r =>
      let x : SettleRecord := ⟨d.number, d.lane, d.haulier, d.closedAt.getD 0, f, .owed⟩
      ({ s with settlements := tablePut s.settlements r x }).queueRecord (.settlement r)
    | none => s
  let s := (s.queueAccountOf d.haulier).waitOrder d.number r d.haulier
  { s with orderQueue := s.orderQueue ++ [d.number] }

/-- The hand-off with no payout (R35). -/
def State.handOffNil (s : State) (d : Docket) : State :=
  ((s.updateDocket d.number fun d => { d with state := .nilPayout }).joinFinished d.number).queueAccountOf
    d.haulier

/-- Settlement of a docket whose closing completes (R25 to R36). -/
def State.settleDocket (s : State) (num : Nat) : State :=
  match s.docket? num with
  | none => s
  | some d =>
    let t := d.tallies.getD {}
    let f := s.settle d.haulier t
    let s := s.updateDocket num fun d => { d with rates := some s.settings.rates, figures := some f }
    let s := s.settleAccount d.haulier t.net.sum f
    let s := if 0 < f.referred then s.raise .office .referred else s
    if 0 < f.payout then s.handOff d f else s.handOffNil d

/-- The lane has no open docket and no close grace timer. -/
def State.freeLane (s : State) (n : Lane) : State :=
  { s with openDocket := s.openDocket.set n none, grace := s.grace.set n none }

/-- Closing completes (R19): the reason and the stamp appear, the lane is freed, settlement runs, and
DOCKET_DONE is raised. -/
def State.completeClosing (s : State) (n : Lane) (num : Nat) (why : CloseReason) : State :=
  (((s.updateDocket num fun d => { d with closeReason := some why }).freeLane n).settleDocket num).raise
    .lane .docketDone

/-- The pass or entry that a CLOSING docket of the lane waits on has ended: closing completes with
reason NORMAL (R16, R17). -/
def State.waitOver (s : State) (n : Lane) : State :=
  match s.laneDocket n with
  | some d => if d.state = .closing then s.completeClosing n d.number .normal else s
  | none => s

/-! ### Resolving a pass (R102, R103, R115) -/

/-- Whether a class row matches a pair of peaks (R115). -/
def ClassRow.holds (r : ClassRow) (pI pC : Nat) : Bool :=
  r.enable && r.indLo ≤ pI && pI ≤ r.indHi && r.capLo ≤ pC && pC ≤ r.capHi

/-- The Class Matcher: the first row that matches, or FOREIGN (R115). -/
def classMatch (rows : List ClassRow) (pI pC : Nat) : PassOutcome :=
  match (rows.findIdx? fun r => r.holds pI pC).bind class? with
  | some k => .classified k
  | none => .foreign

/-- The outcome of a pass by its cause (R102). -/
def State.outcomeOf (s : State) (c : Cause) (q : Pass) : PassOutcome :=
  match c with
  | .exit | .split => classMatch s.settings.classes.toList q.peakInd q.peakCap
  | .reseed | .lost | .restart | .tune | .disable => .unresolved

/-- The last outcome record of a resolve (R103). -/
def State.outcomeRecord (s : State) (n : Lane) (c : Cause) (q : Pass) : OutcomeRecord :=
  let o := s.outcomeOf c q
  { outcome := o, cause := c, primary := q.primary.getD .ind, peakInd := q.peakInd,
    peakCap := q.peakCap, dwell := q.dwell, bookedTo := (s.bookingOf n o).map (·.1),
    resolvedAt := s.yardTime }

/-- A pass of a lane resolves: the outcome is booked, the last outcome record replaced, and a CLOSING
docket that waited on the pass completes its closing (R16, R102). -/
def State.resolve (s : State) (n : Lane) (c : Cause) (q : Pass) : State :=
  let r := s.outcomeRecord n c q
  let s := s.book n r.outcome
  (s.setDetector n { s.detectors.get n with lastOutcome := some r }).waitOver n

end Sys2Proof.Machine
end

