-- ==== Sys2Proof/Machine/Clock.lean ====
section
/-! DEFINITION. The yard clock (R192): yard time, its setting, and the millisecond tick that counts the
running limits. -/
namespace Sys2Proof.Machine

/-- The ticks of a second. -/
def ticksPerSecond : Nat := 1000

/-- YARD_SECOND: yard time advances by one, wrapping to 0, and the count toward the next second begins
(R192). Without supply the clock does not run. -/
def execYardSecond (s : State) : Host.Outcome State Fault Refusal :=
  if s.mode = .unpowered then .next s
  else .next { s with yardTime := (s.yardTime + 1) % (max32 + 1), subSecond := 0 }

/-- SET_TIME: yard time becomes the value given and the count toward the next second restarts; no
running limit moves (R192). -/
def execSetTime (p : Port) (params : List Byte) (s : State) : Host.Outcome State Fault Refusal :=
  .next <| s.command p .setTime params fun s =>
    let now := field params 0 4
    ({ s with yardTime := now, subSecond := 0 }).answered p .setTime [fixed (be 4 now)]

/-- One tick on a limit (R192). -/
def Timer.tick (t : Timer) : Timer := { t with elapsed := min t.limit (t.elapsed + 1) }

/-- Whether a limit has elapsed. -/
def timerDue (t : Option Timer) : Bool := t.any fun t => t.limit ≤ t.elapsed

/-- The limits after a tick of the part in service or draining. -/
def State.tickTimers (s : State) : State :=
  if s.active then
    { s with
      grace := s.grace.map fun t => t.map Timer.tick
      dispenseTimer := s.dispenseTimer.map Timer.tick
      ports := s.ports.map fun q => { q with hold := q.hold.map Timer.tick }
      program := s.program.map fun g => { g with timer := g.timer.tick } }
  else s

/-- The events that the clock brings about: the second that is complete and the limits that have
elapsed (log entry 3). -/
def State.dueEvents (s : State) : List Instr :=
  (if ticksPerSecond ≤ s.subSecond then [.yardSecond] else []) ++
  (Lane.list.filter fun n => timerDue (s.grace.get n)).map .closeGraceExpiry ++
  (if timerDue s.dispenseTimer then [.dispenseLimitExpiry] else []) ++
  (Port.list.filter fun p => timerDue (s.ports.get p).hold).map .resultHoldExpiry ++
  (if timerDue (s.program.map (·.timer)) then [.programAttemptTimeout] else [])

/-- One millisecond tick, on an empty queue: the limits and the count toward the next second go on, and
what falls due waits in the queue (R192, log entry 3). -/
def State.tick (s : State) : State :=
  if s.mode = .unpowered then s
  else
    let s := ({ s with subSecond := min ticksPerSecond (s.subSecond + 1) }).tickTimers
    { s with pending := s.dueEvents }

end Sys2Proof.Machine
end

