-- ==== Sys2Proof/Machine/Faults.lean ====
section
/-! DEFINITION. READ_FAULTS and CLEAR_FAULTS (9.5). -/
namespace Sys2Proof.Machine

/-- What READ_FAULTS carries, as it stands (R172). -/
def State.faultReport (s : State) : Body :=
  faultBody s.faults s.settings.lockoutMask s.lockout s.suspenseCount

/-- READ_FAULTS (R172). -/
def execReadFaults (p : Port) (params : List Byte) (s : State) : Host.Outcome State Fault Refusal :=
  .next <| s.command p .readFaults params fun s => s.answered p .readFaults s.faultReport

/-- The fault record emptied, its mask of record kept (R173). -/
def FaultRecord.emptied (r : FaultRecord) : FaultRecord := { maskOfRecord := r.maskOfRecord }

/-- CLEAR_FAULTS (R173). -/
def execClearFaults (p : Port) (params : List Byte) (s : State) : Host.Outcome State Fault Refusal :=
  .next <| s.command p .clearFaults params fun s =>
    if 0 < s.suspenseCount then s.refused p .clearFaults .suspenseOpen
    else
      let t := (({ s with faults := s.faults.emptied }).queueRecord .fault).evalLockout
      State.conclude s (t.respond p .clearFaults .ok s.faultReport)

end Sys2Proof.Machine
end

