-- ==== Sys2Proof/Machine/Detector.lean ====
section
/-! DEFINITION. One processed sample on a lane detector: filter, baselines, deltas and the state
machine of entries, passes and GAPs (5.3 to 5.6), with freezing and compensation (7.2, 7.3), as a
function of the lane's settings, its detector and the raw counts. -/
namespace Sys2Proof.Machine

/-! ### Filter and baselines (R90, R126) -/

/-- A count moved toward a target by 1/2^k of the distance, truncated toward zero (R1, R90, R96,
R126). -/
def moveToward (old target : Nat) (k : Nat) : Nat :=
  ((old : Int) + ((target : Int) - (old : Int)).tdiv (2 ^ k)).toNat

/-- Stage 1: the filtered counts (R90). -/
def filterCounts (alpha : Nat) (old raw : PerChan Nat) : PerChan Nat :=
  ⟨moveToward old.ind raw.ind alpha, moveToward old.cap raw.cap alpha, moveToward old.ref raw.ref alpha⟩

/-- |a − b|. -/
def distance (a b : Nat) : Nat := (a - b) + (b - a)

/-- One step of a baseline in sixteenths toward its filtered count (R126). -/
def stepBaseline (cfg : LaneSettings) (base f : Nat) : Nat :=
  let factor := if distance f (base / 16) < cfg.fastBand then cfg.beta else cfg.betaFast
  moveToward base (16 * f) factor

/-- Stage 2: the baselines that move in the state in which the sample arrives (R126). -/
def stepBaselines (cfg : LaneSettings) (st : LaneState) (base f : PerChan Nat) : PerChan Nat :=
  match st with
  | .settling | .idle =>
    ⟨stepBaseline cfg base.ind f.ind, stepBaseline cfg base.cap f.cap, stepBaseline cfg base.ref f.ref⟩
  | .entering | .present | .gap => { base with ref := stepBaseline cfg base.ref f.ref }
  | .off | .configuring | .tuning | .tuneFailed | .lost => base

/-! ### Deltas (R91, R129) -/

/-- The compensated baseline of a channel, clamped to 0 to 65535 (R129). -/
def compensated (weight frozen refNow refFrozen : Nat) : Nat :=
  let e : Int := (frozen : Int) + ((weight : Int) * ((refNow : Int) - (refFrozen : Int))).tdiv 4096
  min 65535 e.toNat

/-- The effective baselines of IND and CAP at stage 3 (R91): compensated while freeze values are in
use, and the baselines themselves otherwise. -/
def effective (cfg : LaneSettings) (d : Detector) : Nat × Nat :=
  let b := d.baseline.map (· / 16)
  match d.state, d.freeze with
  | .present, some z | .gap, some z =>
    (compensated cfg.refWeight z.ind b.ref z.ref, compensated cfg.refWeight z.cap b.ref z.ref)
  | _, _ => (b.ind, b.cap)

/-- What stage 3 gives stage 4: the signed deltas and the effective baselines. -/
structure Deltas where
  ind : Int
  cap : Int
  baseInd : Nat
  baseCap : Nat
  deriving DecidableEq, Repr

/-- Stage 3: the deltas (R91). -/
def deltasOf (cfg : LaneSettings) (d : Detector) : Deltas :=
  let e := effective cfg d
  { ind := (d.filtered.ind : Int) - (e.1 : Int), cap := (d.filtered.cap : Int) - (e.2 : Int),
    baseInd := e.1, baseCap := e.2 }

/-- The entry condition (R91). -/
def entryCond (cfg : LaneSettings) (x : Deltas) : Bool :=
  decide ((cfg.tInInd : Int) ≤ x.ind) || decide ((cfg.tInCap : Int) ≤ x.cap)

/-- The exit condition (R91). -/
def exitCond (cfg : LaneSettings) (x : Deltas) : Bool :=
  decide (x.ind < (cfg.tOutInd : Int)) && decide (x.cap < (cfg.tOutCap : Int))

/-- The primary channel of an entry: IND where its threshold is met (R92). -/
def primaryOf (cfg : LaneSettings) (x : Deltas) : Chan :=
  if (cfg.tInInd : Int) ≤ x.ind then .ind else .cap

/-- A channel's filtered count, its delta and its entry threshold, for the primary channel of a pass. -/
def Pass.channel (q : Pass) : Chan := q.primary.getD .ind

def primaryCount (q : Pass) (f : PerChan Nat) : Nat := f.get q.channel

def primaryDelta (q : Pass) (x : Deltas) : Int :=
  match q.channel with
  | .cap => x.cap
  | .ind | .ref => x.ind

def primaryThreshold (cfg : LaneSettings) (q : Pass) : Nat :=
  match q.channel with
  | .cap => cfg.tInCap
  | .ind | .ref => cfg.tInInd

/-- The peaks raised to the deltas where these are greater (R93, R95). -/
def Pass.raisePeaks (q : Pass) (x : Deltas) : Pass :=
  { q with peakInd := max q.peakInd x.ind.toNat, peakCap := max q.peakCap x.cap.toNat }

/-! ### What a sample does beside changing the detector -/

/-- What the Docket Table hears of a sample (R93, R102). -/
inductive SampleEvent where
  | nothing
  /-- A pass resolves, with the measurements it resolves with. -/
  | resolved (c : Cause) (q : Pass)
  /-- An entry ends without an outcome. -/
  | discarded
  deriving DecidableEq, Repr

/-- The detector after a sample, what the Docket Table hears, and whether JAM is raised (R97). -/
structure Sampled where
  detector : Detector
  event : SampleEvent := .nothing
  jam : Bool := false
  deriving DecidableEq, Repr

/-- A saturating 16-bit count raised by one (Table 5-2, "Dwell"). -/
def raise16 (n : Nat) : Nat := min 65535 (n + 1)

/-- The jam test: whether the flag becomes set at this sample (R97). -/
def jamNow (cfg : LaneSettings) (flag : Bool) (dwell : Nat) : Bool :=
  !flag && cfg.jamLimit ≠ 0 && cfg.jamLimit ≤ dwell

/-- The exit count after a sample (R98). -/
def exitCountAfter (cfg : LaneSettings) (x : Deltas) (n : Nat) : Nat :=
  if exitCond cfg x then n + 1 else 0

/-- The lane returns to IDLE from PRESENT or GAP: the baselines unfreeze and the measurements are
dropped (R98, R130). -/
def Detector.unfreeze (d : Detector) (x : Deltas) : Detector :=
  { d with
    state := .idle, pass := {}, freeze := none
    baseline := { d.baseline with ind := 16 * x.baseInd, cap := 16 * x.baseCap } }

/-- The measurements and freeze values of a pass that begins from an entry (R94, R128). -/
def Detector.beginPass (cfg : LaneSettings) (d : Detector) (q : Pass) : Detector :=
  { d with
    state := .present
    jam := false
    freeze := some ⟨d.baseline.ind / 16, d.baseline.cap / 16, d.baseline.ref / 16⟩
    pass := { primary := q.primary, peakInd := q.peakInd, peakCap := q.peakCap,
              dwell := cfg.entryLen, average := primaryCount q d.filtered } }

/-! ### Stage 4, state by state -/

/-- An IDLE sample (R92). -/
def sampleIdle (cfg : LaneSettings) (d : Detector) (x : Deltas) : Sampled :=
  if entryCond cfg x then
    let q : Pass := { primary := some (primaryOf cfg x), entryCount := 1,
                      peakInd := x.ind.toNat, peakCap := x.cap.toNat }
    if cfg.entryLen ≤ 1 then { detector := d.beginPass cfg q }
    else { detector := { d with state := .entering, pass := q } }
  else { detector := d }

/-- An ENTERING sample (R93). -/
def sampleEntering (cfg : LaneSettings) (d : Detector) (x : Deltas) : Sampled :=
  if entryCond cfg x then
    let q := { d.pass.raisePeaks x with entryCount := d.pass.entryCount + 1 }
    if cfg.entryLen ≤ q.entryCount then { detector := d.beginPass cfg q }
    else { detector := { d with pass := q } }
  else { detector := { d with state := .idle, pass := {} }, event := .discarded }

/-- Steps 1 to 3 of a PRESENT sample: dwell, peaks, activation average and snapshot (R95, R96). -/
def measurePresent (cfg : LaneSettings) (d : Detector) (x : Deltas) : Pass :=
  let q := { d.pass.raisePeaks x with dwell := raise16 d.pass.dwell }
  let f := primaryCount q d.filtered
  let a := moveToward q.average f cfg.gamma
  let q := { q with average := a }
  match q.snapshot with
  | some _ => q
  | none =>
    if distance f a ≤ cfg.settleBand then
      let run := min cfg.settleLen (q.settleRun + 1)
      if run = cfg.settleLen ∧ (primaryThreshold cfg q : Int) ≤ primaryDelta q x then
        let h := (primaryDelta q x).toNat
        { q with settleRun := 0, snapshot := some h, theta := some (h * cfg.splitRatio / 128) }
      else { q with settleRun := run }
    else { q with settleRun := 0 }

/-- The split condition: a − f_primary > θ (R99). -/
def splitCond (q : Pass) (f : Nat) : Bool := q.theta.any fun theta => f + theta < q.average

/-- The measurements a GAP begins with (R99). -/
def gapPass (q : Pass) (f : Nat) : Pass :=
  { primary := q.primary, dwell := q.dwell, theta := q.theta, fmin := f }

/-- A PRESENT sample (R95). -/
def samplePresent (cfg : LaneSettings) (d : Detector) (x : Deltas) : Sampled :=
  let q := measurePresent cfg d x
  let jam := jamNow cfg d.jam q.dwell
  let q := { q with exitCount := exitCountAfter cfg x q.exitCount }
  let d' := { d with pass := q, jam := d.jam || jam }
  let f := primaryCount q d.filtered
  if exitCond cfg x && cfg.exitLen ≤ q.exitCount then
    { detector := d'.unfreeze x, event := .resolved .exit q, jam := jam }
  else if cfg.splitEnable && d.pass.snapshot.isSome && splitCond q f then
    { detector := { d' with state := .gap, pass := gapPass q f },
      event := .resolved .split q, jam := jam }
  else { detector := d', jam := jam }

/-- The measurements of a pass that rises out of a GAP (R101). -/
def risePass (q : Pass) (x : Deltas) (f : Nat) : Pass :=
  { primary := q.primary, peakInd := x.ind.toNat, peakCap := x.cap.toNat, dwell := 1, average := f }

/-- A GAP sample (R100, R101). -/
def sampleGap (cfg : LaneSettings) (d : Detector) (x : Deltas) : Sampled :=
  let dwell := raise16 d.pass.dwell
  let jam := jamNow cfg d.jam dwell
  let f := primaryCount d.pass d.filtered
  let q := { d.pass with
    dwell := dwell, fmin := min d.pass.fmin f, exitCount := exitCountAfter cfg x d.pass.exitCount }
  let d' := { d with pass := q, jam := d.jam || jam }
  if exitCond cfg x && cfg.exitLen ≤ q.exitCount then { detector := d'.unfreeze x, jam := jam }
  else if q.fmin + q.theta.getD 0 < f then
    { detector := { d' with state := .present, pass := risePass q x f, jam := false }, jam := jam }
  else { detector := d', jam := jam }

/-- Stages 1 and 2 of a processed sample (R90). -/
def Detector.track (cfg : LaneSettings) (d : Detector) (raw : PerChan Nat) : Detector :=
  let f := filterCounts cfg.alpha d.filtered raw
  { d with filtered := f, baseline := stepBaselines cfg d.state d.baseline f }

/-- A sample processed in a counting state: the four stages (R90). -/
def detect (cfg : LaneSettings) (d : Detector) (raw : PerChan Nat) : Sampled :=
  let d' := d.track cfg raw
  let x := deltasOf cfg d'
  match d.state with
  | .idle => sampleIdle cfg d' x
  | .entering => sampleEntering cfg d' x
  | .present => samplePresent cfg d' x
  | .gap => sampleGap cfg d' x
  | .off | .configuring | .tuning | .tuneFailed | .settling | .lost => { detector := d }

/-- A sample processed in SETTLING: stages 1 and 2, counted toward Z (R137). -/
def settleSample (cfg : LaneSettings) (d : Detector) (raw : PerChan Nat) : Detector :=
  let d' := d.track cfg raw
  if cfg.settleSamples ≤ d.settleCount + 1 then { d' with state := .idle, settleCount := 0 }
  else { d' with settleCount := d.settleCount + 1 }

/-- A fresh sample in LOST: the filter, the fresh run, and recovery to SETTLING (R106). -/
def lostSample (cfg : LaneSettings) (d : Detector) (raw : PerChan Nat) : Detector :=
  let f := filterCounts cfg.alpha d.filtered raw
  if cfg.recovery ≤ d.freshRun + 1 then
    { d with filtered := f, state := .settling, freshRun := 0, settleCount := 0,
             baseline := f.map (16 * ·) }
  else { d with filtered := f, freshRun := d.freshRun + 1 }

/-- Drift: a baseline further from its target than the retune band (R138). -/
def drifted (cfg : LaneSettings) (d : Detector) : Bool :=
  cfg.retuneBand < distance (d.baseline.ind / 16) cfg.targets.ind ||
  cfg.retuneBand < distance (d.baseline.cap / 16) cfg.targets.cap

/-- The measurements dropped, the jam flag cleared and the freeze values discarded (R107, R108). -/
def Detector.dropPass (d : Detector) : Detector := { d with pass := {}, jam := false, freeze := none }

/-- The detector entering CONFIGURING (R131, R153). -/
def Detector.configuring (d : Detector) : Detector :=
  { d.dropPass with
    state := .configuring, freshRun := 0, settleCount := 0, tuneAck := false, tuneCount := 0,
    targetsSent := none, tuneFailure := none, driftMark := false }

/-- The detector entering, or restarting, TUNING (R132, R140). -/
def Detector.tuning (d : Detector) : Detector :=
  { d.dropPass with
    state := .tuning, freshRun := 0, settleCount := 0, tuneAck := false, tuneCount := 0,
    targetsSent := none, tuneFailure := none, driftMark := false }

/-- The detector entering OFF (R110, R139). -/
def Detector.off (d : Detector) : Detector :=
  { d.dropPass with state := .off, freshRun := 0, settleCount := 0, driftMark := false }

/-- The detector entering LOST (R105). -/
def Detector.lost (d : Detector) : Detector := { d.dropPass with state := .lost, freshRun := 0 }

/-- The detector entering TUNE_FAILED (R134, R135). -/
def Detector.tuneFailed (d : Detector) (why : TuneFailure) : Detector :=
  { d with state := .tuneFailed, tuneFailure := some why }

end Sys2Proof.Machine
end

