-- ==== Sys2Proof/Machine/Link.lean ====
section
/-! DEFINITION. The gate link: turns and their calls, the rotation, the end of a turn with all that it
brings about on its lane (R155), and the rows LINE_FREE to ANSWER_COMPLETE with the rows that name a
turn's end by what it brings about: GATE_SILENT, TUNE_LIMIT, LOST and JAM. -/
namespace Sys2Proof.Machine

/-! ### Leaving the counting states (R107) -/

/-- What an event that takes a lane out of a counting state, or reseeds it, ends: a pass resolves
UNRESOLVED with the cause given, an entry is discarded, GAP and IDLE end with nothing (R107, R108). -/
def State.endPass (s : State) (n : Lane) (c : Cause) : State :=
  match (s.detectors.get n).state with
  | .present => s.resolve n c (s.detectors.get n).pass
  | .entering => s.waitOver n
  | .off | .configuring | .tuning | .tuneFailed | .settling | .idle | .gap | .lost => s

/-- Put a lane in a state that `f` makes, after ending its pass or entry (R107). -/
def State.leaveTo (s : State) (n : Lane) (c : Cause) (f : Detector → Detector) : State :=
  let s := s.endPass n c
  s.moveLane n (f (s.detectors.get n))

/-- The lane goes to OFF (R110): its miss run, silent run and episode, and last fresh sequence are
cleared too (R152, R154, R157). -/
def State.laneOff (s : State) (n : Lane) : State :=
  let s := s.leaveTo n .disable Detector.off
  s.setLink n { s.links.get n with missRun := 0, silentRun := 0, silentOpen := false, lastSeq := none }

/-! ### Turns (R143, R145, R147, R148) -/

/-- The kind of call by the lane's state when the turn begins (R148). -/
def callKindOf (d : Detector) : CallKind :=
  match d.state with
  | .configuring => .config
  | .tuning => if d.tuneAck then .sample else .tune
  | .off | .tuneFailed | .settling | .idle | .entering | .present | .gap | .lost => .sample

/-- A turn of a lane begins (R143); a TUNE call sends the targets as they stand now (R132, R145). -/
def State.beginTurn (s : State) (n : Lane) : State :=
  let d := s.detectors.get n
  let k := callKindOf d
  let targets := (s.settings.lanes.get n).targets
  let s := if k = .tune then s.setDetector n { d with targetsSent := some targets } else s
  let rate := s.settings.bitRate
  { s with turn := some ⟨n, k, rate, callBytes k n rate targets, .watching, false⟩, rotation := some n }

def State.enabled (s : State) (n : Lane) : Bool := (s.settings.lanes.get n).enable

/-- The lane of the next turn: the lowest enabled lane above the rotation position, or the lowest
enabled lane (R147). -/
def State.nextLane (s : State) : Option Lane :=
  let lanes := Lane.list.filter s.enabled
  let above := lanes.filter fun n => s.rotation.any fun r => laneIndex r < laneIndex n
  above.head? <|> lanes.head?

/-- Begin the next turn, or leave the link idle (R147); none begins in STARTING (R160). -/
def State.nextTurn (s : State) : State :=
  if s.mode = .running then
    match s.nextLane with
    | some n => s.beginTurn n
    | none => s
  else s

/-! ### Deliveries to the detector (R89) -/

/-- The drift check of a sample that leaves the lane in IDLE (R138, R139). -/
def State.checkDrift (s : State) (n : Lane) : State :=
  let d := s.detectors.get n
  if d.state ≠ .idle then s
  else if drifted (s.settings.lanes.get n) d then
    if (s.openDocket.get n).isNone then s.moveLane n d.tuning
    else if d.driftMark then s
    else (s.setDetector n { d with driftMark := true }).raise .lane .drift
  else s.setDetector n { d with driftMark := false }

/-- What the Docket Table does with what it hears of a sample (R16, R17). -/
def State.hear (s : State) (n : Lane) : SampleEvent → State
  | .nothing => s
  | .resolved c q => s.resolve n c q
  | .discarded => s.waitOver n

/-- A sample processed in a counting state, fresh or held (R90, R104). -/
def State.countingSample (s : State) (n : Lane) (raw : PerChan Nat) : State :=
  let r := detect (s.settings.lanes.get n) (s.detectors.get n) raw
  let s := s.setDetector n r.detector
  let s := if r.jam then s.raise .lane .jam else s
  (s.hear n r.event).checkDrift n

/-- A fresh sample delivered to a lane (R89). -/
def State.freshSample (s : State) (n : Lane) (raw : PerChan Nat) : State :=
  let cfg := s.settings.lanes.get n
  let d := { s.detectors.get n with lastRaw := raw }
  match d.state with
  | .settling => s.moveLane n (settleSample cfg d raw)
  | .lost => s.moveLane n (lostSample cfg d raw)
  | .idle | .entering | .present | .gap => (s.setDetector n d).countingSample n raw
  | .off | .configuring | .tuning | .tuneFailed => s

/-- The tune count rises by one, and at 255 the tune fails with cause LIMIT (R133, R134, R136). -/
def State.raiseTuneCount (s : State) (n : Lane) : State :=
  let d := s.detectors.get n
  let d' := { d with tuneCount := min 255 (d.tuneCount + 1) }
  if 255 ≤ d.tuneCount + 1 then
    (s.moveLane n (d'.tuneFailed ⟨.limit, .all false⟩)).raise .lane .tuneError
  else s.setDetector n d'

/-- A miss delivered to a lane, with the miss run as raised (R89, R104 to R106, R133, R134). -/
def State.missDelivered (s : State) (n : Lane) : State :=
  let d := s.detectors.get n
  match d.state with
  | .idle | .entering | .present | .gap =>
    if (s.links.get n).missRun ≤ (s.settings.lanes.get n).holdLimit then s.countingSample n d.lastRaw
    else s.leaveTo n .lost Detector.lost
  | .lost => s.setDetector n { d with freshRun := 0 }
  | .tuning => if d.tuneAck then s.raiseTuneCount n else s
  | .off | .configuring | .tuneFailed | .settling => s

/-! ### Answers (R131, R133, R135, R152, R153) -/

/-- A count within the tune band of its target (R135). -/
def inBand (target band count : Nat) : Bool := target - band ≤ count && count ≤ min 65535 (target + band)

/-- The band check of a TUNED answer (R135). -/
def State.bandCheck (s : State) (n : Lane) (counts : PerChan Nat) : State :=
  let d := s.detectors.get n
  let band := (s.settings.lanes.get n).tuneBand
  let sent := d.targetsSent.getD (.all 0)
  let failed : PerChan Bool :=
    ⟨!inBand sent.ind band counts.ind, !inBand sent.cap band counts.cap, !inBand sent.ref band counts.ref⟩
  if failed.ind || failed.cap || failed.ref then
    (s.moveLane n (d.tuneFailed ⟨.band, failed⟩)).raise .lane .tuneError
  else
    s.moveLane n { d with
      state := .settling, baseline := counts.map (16 * ·), filtered := counts, lastRaw := counts
      settleCount := 0, tuneAck := false, tuneCount := 0, targetsSent := none }

/-- An accepted answer with status FRESH (R153). A lane in OFF, which the drain of SOFT_RESET alone
can leave with a turn in progress, stays there (log entry 6). -/
def State.freshAnswer (s : State) (n : Lane) : State :=
  let s := s.setLink n { s.links.get n with lastSeq := none, missRun := 0 }
  if (s.detectors.get n).state = .off then s else s.leaveTo n .restart Detector.configuring

/-- The states in which a READY answer can deliver a sample (R152). -/
def receives : LaneState → Bool
  | .settling | .idle | .entering | .present | .gap | .lost => true
  | .off | .configuring | .tuning | .tuneFailed => false

/-- Whether an answer to a turn delivers a fresh sample (R152). -/
def State.delivers (s : State) (t : Turn) (st : AnswerStatus) (seq : Nat) : Bool :=
  t.kind = .sample && !t.stale && receives (s.detectors.get t.lane).state && st = .ready &&
    (s.links.get t.lane).lastSeq ≠ some seq

/-- An accepted SAMPLE answer without FRESH, in a turn that is not stale (R152). -/
def State.sampleAnswer (s : State) (t : Turn) (st : AnswerStatus) (seq : Nat) (counts : PerChan Nat) :
    State :=
  let n := t.lane
  if s.delivers t st seq then
    (s.setLink n { s.links.get n with lastSeq := some seq, missRun := 0 }).freshSample n counts
  else if (s.detectors.get n).state = .tuning ∧ (s.detectors.get n).tuneAck then
    if st = .tuned then
      (s.setLink n { s.links.get n with lastSeq := some seq }).bandCheck n counts
    else s.raiseTuneCount n
  else s

/-- An accepted TUNE answer without FRESH (R133). -/
def State.tuneAnswer (s : State) (n : Lane) (st : AnswerStatus) : State :=
  let d := s.detectors.get n
  if d.state ≠ .tuning then s
  else if st = .tuning then s.setDetector n { d with tuneAck := true, tuneCount := 0 }
  else s.raiseTuneCount n

/-- An accepted CONFIG answer without FRESH (R131). -/
def State.configAnswer (s : State) (n : Lane) : State :=
  let d := s.detectors.get n
  if d.state = .configuring then s.moveLane n d.tuning else s

/-- What an outcome does to the lane, by the kind of call; a stale turn applies FRESH alone (R149,
R155 step 5). -/
def State.applyVerdict (s : State) (t : Turn) : Verdict → State
  | .miss _ => if t.stale then s else s.missDelivered t.lane
  | .accepted .fresh _ _ => s.freshAnswer t.lane
  | .accepted st seq counts =>
    if t.stale then s
    else match t.kind with
      | .sample => s.sampleAnswer t st seq counts
      | .config => s.configAnswer t.lane
      | .tune => s.tuneAnswer t.lane st

/-! ### Statistics and the silent run (R156 to R158) -/

/-- A counter of the statistics raised by one (R158). -/
def raise8 (n : Nat) : Nat := min 255 (n + 1)

def LinkStats.raiseMiss (x : LinkStats) : MissKind → LinkStats
  | .echo => { x with echo := raise8 x.echo }
  | .lineStuck => { x with lineStuck := raise8 x.lineStuck }
  | .noAnswer => { x with noAnswer := raise8 x.noAnswer }
  | .answerTimeout => { x with answerTimeout := raise8 x.answerTimeout }
  | .framing => { x with framing := raise8 x.framing }
  | .crc => { x with crc := raise8 x.crc }
  | .address => { x with address := raise8 x.address }

/-- The statistics after an accepted SAMPLE answer without FRESH (R152): a repeated sequence is STALE
and NOT_READY is NOT_READY in every state; TUNING and TUNED count as NOT_READY but for a lane in
TUNING. -/
def LinkStats.raiseSample (x : LinkStats) (st : AnswerStatus) (repeated tuning : Bool) : LinkStats :=
  match st with
  | .ready => if repeated then { x with stale := raise8 x.stale } else x
  | .notReady => { x with notReady := raise8 x.notReady }
  | .tuning | .tuned => if tuning then x else { x with notReady := raise8 x.notReady }
  | .fresh => x

/-- The statistics after a turn (R158). -/
def LinkStats.afterTurn (x : LinkStats) (t : Turn) (st : LaneState) (lastSeq : Option Nat) :
    Verdict → LinkStats
  | .miss k => x.raiseMiss k
  | .accepted .fresh _ _ => { x with fresh := raise8 x.fresh }
  | .accepted a seq _ =>
    match t.kind with
    | .sample => x.raiseSample a (lastSeq = some seq) (st = .tuning)
    | .config | .tune => x

/-- Step 2 of the end of a turn: the statistic (R155, R158). -/
def State.countTurn (s : State) (t : Turn) (v : Verdict) : State :=
  let l := s.links.get t.lane
  s.setLink t.lane
    { l with stats := l.stats.afterTurn t (s.detectors.get t.lane).state l.lastSeq v }

/-- Step 3 of the end of a turn: the silent run, and the opening or the end of a silent episode
(R155 to R157). -/
def State.silence (s : State) (t : Turn) (v : Verdict) : State :=
  let l := s.links.get t.lane
  match v with
  | .accepted _ _ _ => s.setLink t.lane { l with silentRun := 0, silentOpen := false }
  | .miss _ =>
    let run := min 1020 (l.silentRun + 1)
    if s.settings.silentLimit ≤ run ∧ !l.silentOpen then
      let s := s.setLink t.lane { l with silentRun := run, silentOpen := true }
      ({ s with faults := { s.faults with
          silentLanes := s.faults.silentLanes.set t.lane true } }).recordFault .gateSilent
    else s.setLink t.lane { l with silentRun := run }

/-- Step 4 of the end of a turn: a miss raises the miss run; a fresh sample and a FRESH answer set it
to 0 where they are handled (R154). -/
def State.missRunAfter (s : State) (t : Turn) (v : Verdict) : State :=
  match v with
  | .miss _ =>
    let l := s.links.get t.lane
    s.setLink t.lane { l with missRun := min 255 (l.missRun + 1) }
  | .accepted _ _ _ => s

/-- Step 6 of the end of a turn: a LANE_ENABLE off deferred during it (R111). -/
def State.applyDeferredOff (s : State) (n : Lane) : State :=
  if !s.enabled n && (s.detectors.get n).state ≠ .off then s.laneOff n else s

/-- The end of a turn with its outcome (R155). -/
def State.endTurn (s : State) (t : Turn) (v : Verdict) : State :=
  let s := { s with turn := none }
  let s := ((s.countTurn t v).silence t v).missRunAfter t v
  ((s.applyVerdict t v).applyDeferredOff t.lane).nextTurn

/-- The turn that an event ends and its outcome; none where no turn stands where the event can end it
(R143, R144, R150). -/
def State.verdictOf (s : State) (e : TurnEnd) : Option (Turn × Verdict) :=
  s.turn.bind fun t =>
    match t.phase, e with
    | .watching, .lineStuck => some (t, .miss .lineStuck)
    | .calling, .echo => some (t, .miss .echo)
    | .listening, .noAnswer => some (t, .miss .noAnswer)
    | .listening, .answerTimeout => some (t, .miss .answerTimeout)
    | .listening, .complete chars =>
      if chars.length = answerLength t.kind then some (t, judge t chars) else none
    | _, _ => none

/-- The event that ends the turn in progress; with no such turn the event does not arise and nothing
changes (log entry 5). -/
def State.turnEnds (s : State) (e : TurnEnd) : State :=
  match s.verdictOf e with
  | some (t, v) => State.conclude s (s.endTurn t v)
  | none => s

/-- Move the turn in progress from one place to the next. -/
def State.turnMoves (s : State) (a b : TurnPhase) : State :=
  match s.turn with
  | some t =>
    if t.phase = a then ({ s with turn := some { t with phase := b } }).drivePins else s
  | none => s

/-! ### The rows -/

/-- LINE_FREE: the call begins with its break, and GL_DE is asserted (R143, R144). -/
def execLineFree (s : State) : Host.Outcome State Fault Refusal := .next (s.turnMoves .watching .calling)

/-- LINE_STUCK (R143). -/
def execLineStuck (s : State) : Host.Outcome State Fault Refusal := .next (s.turnEnds .lineStuck)

/-- ECHO (R144). -/
def execEcho (s : State) : Host.Outcome State Fault Refusal := .next (s.turnEnds .echo)

/-- CALL_SENT: GL_DE is released and the controller listens (R144, R150). -/
def execCallSent (s : State) : Host.Outcome State Fault Refusal :=
  .next (s.turnMoves .calling .listening)

/-- NO_ANSWER (R150). -/
def execNoAnswer (s : State) : Host.Outcome State Fault Refusal := .next (s.turnEnds .noAnswer)

/-- ANSWER_TIMEOUT (R150). -/
def execAnswerTimeout (s : State) : Host.Outcome State Fault Refusal := .next (s.turnEnds .answerTimeout)

/-- ANSWER_COMPLETE (R150, R151). -/
def execAnswerComplete (chars : List AnswerChar) (s : State) : Host.Outcome State Fault Refusal :=
  .next (s.turnEnds (.complete chars))

/-- The end of a turn where it brings about what a row names, told by a test of the turn's lane; where
it does not, the row's event does not arise (log entries 4 and 5). -/
def State.turnEndsIf (s : State) (e : TurnEnd) (test : State → Turn → Verdict → Bool) : State :=
  match s.verdictOf e with
  | some (t, v) => if test s t v then s.turnEnds e else s
  | none => s

/-- The turn end opens a silent episode (R156). -/
def opensEpisode (s : State) (t : Turn) (v : Verdict) : Bool :=
  !(s.links.get t.lane).silentOpen && ((s.silence t v).links.get t.lane).silentOpen

/-- The turn end takes the lane from a counting state past the hold limit (R105). -/
def losesLane (s : State) (t : Turn) (v : Verdict) : Bool :=
  match v with
  | .miss _ =>
    !t.stale && (s.detectors.get t.lane).state.counting &&
      (s.settings.lanes.get t.lane).holdLimit < ((s.missRunAfter t v).links.get t.lane).missRun
  | .accepted _ _ _ => false

/-- The turn end brings the lane's tune count to its limit (R134). -/
def reachesTuneLimit (s : State) (t : Turn) (v : Verdict) : Bool :=
  let before := s.detectors.get t.lane
  let after := ((s.applyVerdict t v).detectors.get t.lane)
  before.state = .tuning && after.state = .tuneFailed &&
    after.tuneFailure.any fun r => r.cause = .limit

/-- The counts that the turn end makes the lane's detector process in a counting state, fresh or held
(R89, R104). -/
def processedCounts (s : State) (t : Turn) (v : Verdict) : Option (PerChan Nat) :=
  let d := s.detectors.get t.lane
  match v with
  | .miss _ =>
    if !t.stale && d.state.counting && !losesLane s t v then some d.lastRaw else none
  | .accepted st seq counts =>
    if d.state.counting && s.delivers t st seq then some counts else none

/-- The turn end sets the jam flag (R97). -/
def raisesJam (s : State) (t : Turn) (v : Verdict) : Bool :=
  (processedCounts s t v).any fun raw =>
    (detect (s.settings.lanes.get t.lane) (s.detectors.get t.lane) raw).jam

/-- GATE_SILENT (R156). -/
def execGateSilent (e : TurnEnd) (s : State) : Host.Outcome State Fault Refusal :=
  .next (s.turnEndsIf e opensEpisode)

/-- TUNE_LIMIT (R134, R136). -/
def execTuneLimit (e : TurnEnd) (s : State) : Host.Outcome State Fault Refusal :=
  .next (s.turnEndsIf e reachesTuneLimit)

/-- LOST (R105, R107). -/
def execLost (e : TurnEnd) (s : State) : Host.Outcome State Fault Refusal :=
  .next (s.turnEndsIf e losesLane)

/-- JAM (R97). -/
def execJam (e : TurnEnd) (s : State) : Host.Outcome State Fault Refusal :=
  .next (s.turnEndsIf e raisesJam)

end Sys2Proof.Machine
end

