-- ==== Sys2Proof/Machine/Lanes.lean ====
section
/-! DEFINITION. The lane commands: enabling, tuning and reseeding a lane, and reading a lane, its stray
tally and its link statistics (5.9 to 5.12, 6.4, 7.8, 8.8). -/
namespace Sys2Proof.Machine

/-- The lane of the turn in progress, whose call is on the link from the turn's beginning to its end
(R143). -/
def State.onLink (s : State) (n : Lane) : Bool := s.turn.any fun t => t.lane = n

/-! ### LANE_ENABLE (R82, R110, R111) -/

/-- A lane's enable in the settings working copy. -/
def State.setEnable (s : State) (n : Lane) (on : Bool) : State :=
  { s with settings := { s.settings with
      lanes := s.settings.lanes.set n { s.settings.lanes.get n with enable := on } } }

/-- An enable on: a lane in OFF goes to CONFIGURING, and a turn begins where the link is idle (R110,
R147). -/
def State.enableOn (s : State) (n : Lane) : State :=
  let s := s.setEnable n true
  let d := s.detectors.get n
  let s := if d.state = .off then s.moveLane n d.configuring else s
  if s.turn.isNone then s.nextTurn else s

/-- An enable off: the lane goes to OFF, at once or, where its call is on the link, at the end of that
turn (R110, R111). -/
def State.enableOff (s : State) (n : Lane) : State :=
  let s := s.setEnable n false
  if s.onLink n || (s.detectors.get n).state = .off then s else s.laneOff n

/-- LANE_ENABLE (R110, R111). -/
def execLaneEnable (p : Port) (params : List Byte) (s : State) : Host.Outcome State Fault Refusal :=
  .next <| s.command p .laneEnable params fun s =>
    match lane? (field params 0 1), onOff? (field params 1 1) with
    | some n, some on =>
      if !on && (s.openDocket.get n).isSome then s.refused p .laneEnable .laneBusy
      else
        let t := if on then s.enableOn n else s.enableOff n
        State.conclude s (t.respond p .laneEnable .ok
          [fixed (flagByte on ++ be 1 (laneStateCode (t.detectors.get n).state))])
    | _, _ => s.refused p .laneEnable .outOfRange

/-! ### TUNE_LANE and RESEED_LANE (R108, R140, R149) -/

/-- The lane's turn in progress becomes stale (R149). -/
def State.markStale (s : State) (n : Lane) : State :=
  { s with turn := s.turn.map fun t => if t.lane = n then { t with stale := true } else t }

/-- A taken TUNE_LANE: nothing in CONFIGURING, and otherwise the tune starts or starts again (R140). -/
def State.retune (s : State) (n : Lane) : State :=
  if (s.detectors.get n).state = .configuring then s
  else (s.leaveTo n .tune Detector.tuning).markStale n

/-- TUNE_LANE (R140). -/
def execTuneLane (p : Port) (params : List Byte) (s : State) : Host.Outcome State Fault Refusal :=
  .next <| s.command p .tuneLane params fun s =>
    match lane? (field params 0 1) with
    | none => s.refused p .tuneLane .outOfRange
    | some n =>
      if (s.openDocket.get n).isSome then s.refused p .tuneLane .laneBusy
      else if !s.enabled n then s.refused p .tuneLane .wrongState
      else
        let t := s.retune n
        State.conclude s (t.respond p .tuneLane .ok
          [fixed (be 1 (laneStateCode (t.detectors.get n).state))])

/-- A detector after a reseed (R108). -/
def Detector.reseeded (d : Detector) : Detector :=
  { d.dropPass with
    state := .idle
    baseline := { d.baseline with ind := 16 * d.filtered.ind, cap := 16 * d.filtered.cap } }

/-- A taken RESEED_LANE (R108). -/
def State.reseed (s : State) (n : Lane) : State :=
  let s := s.endPass n .reseed
  s.setDetector n (s.detectors.get n).reseeded

/-- RESEED_LANE (R108). -/
def execReseedLane (p : Port) (params : List Byte) (s : State) : Host.Outcome State Fault Refusal :=
  .next <| s.command p .reseedLane params fun s =>
    match lane? (field params 0 1) with
    | none => s.refused p .reseedLane .outOfRange
    | some n =>
      if !(s.detectors.get n).state.counting then s.refused p .reseedLane .wrongState
      else
        let t := s.reseed n
        let b := (t.detectors.get n).baseline
        State.conclude s (t.respond p .reseedLane .ok
          [fixed (be 2 (b.ind / 16) ++ be 2 (b.cap / 16))])

/-! ### READ_LANE (R112) -/

/-- The three channels of a measurement, two bytes each. -/
def chanBytes (v : PerChan Nat) : List Byte := be 2 v.ind ++ be 2 v.cap ++ be 2 v.ref

/-- A snapshot and its θ, one part (R186). -/
def snapshotBytes (q : Pass) : Option (List Byte) :=
  q.snapshot.map fun h => be 2 h ++ be 2 (q.theta.getD 0)

/-- A part that is sent in one lane state only. -/
def inState (d : Detector) (st : LaneState) (bs : List Byte) : Option (List Byte) :=
  if d.state = st then some bs else none

/-- A tune failure record: its cause and its channels (R112, R136, R185). -/
def tuneFailureBytes (r : TuneFailure) : List Byte :=
  be 1 (tuneCauseCode r.cause) ++ be 1 (channelSetCode r.channels)

/-- The body of READ_LANE (R112, R185, R186). -/
def State.laneBody (s : State) (n : Lane) : Body :=
  let d := s.detectors.get n
  let cfg := s.settings.lanes.get n
  let q := d.pass
  [ fixed (be 1 (laneStateCode d.state) ++ flagByte cfg.enable ++ be 1 (stopPolicyCode cfg.stopPolicy) ++
      flagByte (s.pins.lstop.get n) ++ flagByte (s.openDocket.get n).isSome),
    optional ((s.openDocket.get n).map (be 2)),
    fixed (chanBytes d.filtered ++ chanBytes (d.baseline.map (· / 16)) ++ chanBytes cfg.targets ++
      flagByte d.jam),
    optional (inState d .entering
      (be 1 (chanCode q.channel) ++ be 1 q.entryCount ++ be 2 q.peakInd ++ be 2 q.peakCap)),
    optional (inState d .present
      (be 1 (chanCode q.channel) ++ be 2 q.peakInd ++ be 2 q.peakCap ++ be 2 q.dwell ++ be 2 q.average)),
    optional (if d.state = .present then snapshotBytes q else none),
    optional (inState d .gap
      (be 1 (chanCode q.channel) ++ be 2 q.dwell ++ be 2 q.fmin ++ be 2 (q.theta.getD 0))),
    optional (if d.state = .tuneFailed then d.tuneFailure.map tuneFailureBytes else none),
    optional (d.lastOutcome.map outcomeBytes) ]

/-- READ_LANE (R112). -/
def execReadLane (p : Port) (params : List Byte) (s : State) : Host.Outcome State Fault Refusal :=
  .next <| s.command p .readLane params fun s =>
    match lane? (field params 0 1) with
    | none => s.refused p .readLane .outOfRange
    | some n => s.answered p .readLane (s.laneBody n)

/-! ### Stray tallies (R123, R124) -/

/-- READ_STRAY (R123). -/
def execReadStray (p : Port) (params : List Byte) (s : State) : Host.Outcome State Fault Refusal :=
  .next <| s.command p .readStray params fun s =>
    match lane? (field params 0 1) with
    | none => s.refused p .readStray .outOfRange
    | some n => s.answered p .readStray [fixed (strayBytes (s.strays.get n))]

/-- CLEAR_STRAY (R124). -/
def execClearStray (p : Port) (params : List Byte) (s : State) : Host.Outcome State Fault Refusal :=
  .next <| s.command p .clearStray params fun s =>
    match lane? (field params 0 1) with
    | none => s.refused p .clearStray .outOfRange
    | some n =>
      ({ s with strays := s.strays.set n { since := s.yardTime } }).answered p .clearStray
        [fixed (strayBytes (s.strays.get n))]

/-! ### Link statistics (R159) -/

/-- The ten counters and the stamp (R158, R159). -/
def statsBytes (x : LinkStats) : List Byte :=
  be 1 x.echo ++ be 1 x.lineStuck ++ be 1 x.noAnswer ++ be 1 x.answerTimeout ++ be 1 x.framing ++
  be 1 x.crc ++ be 1 x.address ++ be 1 x.stale ++ be 1 x.notReady ++ be 1 x.fresh ++ be 4 x.since

/-- The body of READ_LINK_STATS (R159). -/
def State.statsBody (s : State) (n : Lane) : Body :=
  let l := s.links.get n
  [ fixed (statsBytes l.stats ++ be 1 l.missRun ++ be 2 l.silentRun ++ flagByte l.silentOpen),
    optional (l.lastSeq.map (be 1)),
    fixed (be 3 s.settings.bitRate),
    optional (s.rotation.map fun r => be 1 (laneIndex r)),
    fixed (flagByte (s.onLink n)) ]

/-- READ_LINK_STATS: the counters are read and emptied, and the stamp is set (R159). -/
def execReadLinkStats (p : Port) (params : List Byte) (s : State) : Host.Outcome State Fault Refusal :=
  .next <| s.command p .readLinkStats params fun s =>
    match lane? (field params 0 1) with
    | none => s.refused p .readLinkStats .outOfRange
    | some n =>
      (s.setLink n { s.links.get n with stats := { since := s.yardTime } }).answered p .readLinkStats
        (s.statsBody n)

end Sys2Proof.Machine
end

