-- ==== Sys2Proof/Machine/Dockets.lean ====
section
/-! DEFINITION. The docket commands and the close grace (chapter 1). -/
namespace Sys2Proof.Machine

/-- The docket number after a number, wrapping from 65535 to 1 (R4). -/
def numberAfter (n : Nat) : Nat := if 65535 ≤ n then 1 else n + 1

/-- The first candidate not held by a docket in the table (R4); a table of as many dockets as `fuel`
cannot hold them all. -/
def State.freeNumber (s : State) : Nat → Nat → Nat
  | 0, c => c
  | fuel + 1, c => if (s.docket? c).isSome then s.freeNumber fuel (numberAfter c) else c

/-- Open a docket that passed every check (R4, R9, R11). -/
def State.openNew (s : State) (n : Lane) (haulier : Nat) (num : Nat) : State :=
  let d : Docket := { number := num, lane := n, haulier := haulier, state := .open,
                      openedAt := some s.yardTime, tallies := some {} }
  { s with
    dockets := s.dockets ++ [d]
    openDocket := s.openDocket.set n (some num)
    nextNumber := numberAfter num }

/-- The status check of OPEN_DOCKET on an account (R10 checks 5 and 6). -/
def State.accountRefusal (s : State) (haulier : Nat) : Option ResultCode :=
  if haulier = 0 then none
  else match s.account? haulier with
    | none => some .unknownAccount
    | some (_, a) => if a.status = .active then none else some .accountFrozen

/-- OPEN_DOCKET (R10, R11). -/
def execOpenDocket (p : Port) (params : List Byte) (s : State) : Host.Outcome State Fault Refusal :=
  .next <| s.command p .openDocket params fun s =>
    let haulier := field params 1 3
    match lane? (field params 0 1) with
    | none => s.refused p .openDocket .outOfRange
    | some n =>
      if !(s.settings.lanes.get n).enable || (s.detectors.get n).state ≠ .idle then
        s.refused p .openDocket .laneNotReady
      else if (s.openDocket.get n).isSome then s.refused p .openDocket .laneBusy
      else if 16 ≤ s.dockets.length then s.refused p .openDocket .tableFull
      else match s.accountRefusal haulier with
        | some rc => s.refused p .openDocket rc
        | none =>
          let num := s.freeNumber s.dockets.length s.nextNumber
          (s.openNew n haulier num).answered p .openDocket [fixed (be 2 num)]

/-- The tallies after an ADJUST of class k, or its refusal (R12 checks 4 and 5, R13). -/
def Tallies.adjust (t : Tallies) (k : Fin 12) (add : Bool) (q : Nat) : Except ResultCode Tallies :=
  if add then
    if 9999 < t.accepted[k] + q then .error .outOfRange
    else .ok { t with
      accepted := t.accepted.set k (t.accepted[k] + q), manualAdded := t.manualAdded + q }
  else if t.accepted[k] < t.rejected[k] + q then .error .countShort
  else .ok { t with rejected := t.rejected.set k (t.rejected[k] + q) }

/-- ADJUST's operation: ADD 1, REJECT 2 (R185). -/
def adjustAdds? : Nat → Option Bool
  | 1 => some true
  | 2 => some false
  | _ => none

/-- ADJUST (R12, R13). -/
def execAdjust (p : Port) (params : List Byte) (s : State) : Host.Outcome State Fault Refusal :=
  .next <| s.command p .adjust params fun s =>
    let num := field params 0 2
    let q := field params 4 2
    match class? (field params 2 1), adjustAdds? (field params 3 1) with
    | some k, some add =>
      if q = 0 ∨ 9999 < q then s.refused p .adjust .outOfRange
      else match s.docket? num with
        | none => s.refused p .adjust .noSuchDocket
        | some d =>
          if d.state ≠ .open then s.refused p .adjust .wrongState
          else match (d.tallies.getD {}).adjust k add q with
            | .error rc => s.refused p .adjust rc
            | .ok t =>
              (s.updateDocket num fun d => { d with tallies := some t }).answered p .adjust
                [fixed (be 2 t.accepted[k] ++ be 2 t.rejected[k])]
    | _, _ => s.refused p .adjust .outOfRange

/-- Whether closing waits on the lane's pass in progress (R15). -/
def LaneState.inPass : LaneState → Bool
  | .entering | .present => true
  | .off | .configuring | .tuning | .tuneFailed | .settling | .idle | .gap | .lost => false

/-- The docket of a lane becomes CLOSING, stamped; it waits under its close grace, or completes at once
(R15). -/
def State.close (s : State) (n : Lane) (num : Nat) : State :=
  let waits := (s.detectors.get n).state.inPass
  let s := s.updateDocket num fun d => { d with state := .closing, closedAt := some s.yardTime }
  if waits then
    { s with grace := s.grace.set n (some (Timer.start (1000 * s.settings.closeGrace))) }
  else s.completeClosing n num .normal

/-- CLOSE_DOCKET (R14, R15). -/
def execCloseDocket (p : Port) (params : List Byte) (s : State) : Host.Outcome State Fault Refusal :=
  .next <| s.command p .closeDocket params fun s =>
    match lane? (field params 0 1) with
    | none => s.refused p .closeDocket .outOfRange
    | some n =>
      match s.laneDocket n with
      | none => s.refused p .closeDocket .noSuchDocket
      | some d =>
        if d.state = .closing then s.refused p .closeDocket .wrongState
        else State.conclude s ((s.close n d.number).respond p .closeDocket .ok
          [fixed (be 2 d.number ++ flagByte (s.detectors.get n).state.inPass)])

/-- Whether a docket holds its lane: OPEN or CLOSING (Table 1-3). -/
def DocketState.holdsLane : DocketState → Bool
  | .open | .closing => true
  | .awaitingPayout | .paid | .nilPayout | .voided => false

/-- Whether a docket stands in the finished list: PAID, NIL_PAYOUT or VOIDED (R6). -/
def DocketState.finished : DocketState → Bool
  | .paid | .nilPayout | .voided => true
  | .open | .closing | .awaitingPayout => false

/-- VOID_DOCKET (R20). -/
def execVoidDocket (p : Port) (params : List Byte) (s : State) : Host.Outcome State Fault Refusal :=
  .next <| s.command p .voidDocket params fun s =>
    let num := field params 0 2
    match s.docket? num with
    | none => s.refused p .voidDocket .noSuchDocket
    | some d =>
      if !d.state.holdsLane then s.refused p .voidDocket .wrongState
      else
        let t := (s.updateDocket num fun d => { d with state := .voided, closedAt := none }).freeLane d.lane
        (t.joinFinished num).answered p .voidDocket [fixed (be 2 num)]

/-- READ_DOCKET (R21). -/
def execReadDocket (p : Port) (params : List Byte) (s : State) : Host.Outcome State Fault Refusal :=
  .next <| s.command p .readDocket params fun s =>
    match s.docket? (field params 0 2) with
    | none => s.refused p .readDocket .noSuchDocket
    | some d => s.answered p .readDocket (docketBody d)

/-- NEXT_FINISHED (R22). -/
def execNextFinished (p : Port) (params : List Byte) (s : State) : Host.Outcome State Fault Refusal :=
  .next <| s.command p .nextFinished params fun s =>
    match s.finished.head?.bind s.docket? with
    | none => s.refused p .nextFinished .listEmpty
    | some d => s.answered p .nextFinished (docketBody d)

/-- RELEASE_DOCKET: the entry leaves the finished list and the slot becomes free (R22). -/
def execReleaseDocket (p : Port) (params : List Byte) (s : State) : Host.Outcome State Fault Refusal :=
  .next <| s.command p .releaseDocket params fun s =>
    let num := field params 0 2
    match s.docket? num with
    | none => s.refused p .releaseDocket .noSuchDocket
    | some d =>
      if !d.state.finished then s.refused p .releaseDocket .wrongState
      else
        ({ s with
          finished := s.finished.filter (· ≠ num)
          dockets := s.dockets.filter fun d => d.number ≠ num }).answered p .releaseDocket []

/-- CLOSE_GRACE_EXPIRY: the docket books one UNRESOLVED outcome and its closing completes with reason
GRACE_EXPIRED; the lane's detector is not told (R18). -/
def execCloseGraceExpiry (n : Lane) (s : State) : Host.Outcome State Fault Refusal :=
  match s.grace.get n, s.laneDocket n with
  | some _, some d =>
    if s.active ∧ d.state = .closing then
      .next (State.conclude s ((s.book n .unresolved).completeClosing n d.number .graceExpired))
    else .next s
  | _, _ => .next s

end Sys2Proof.Machine
end

