-- ==== Sys2Proof/Machine/Ports.lean ====
section
/-! DEFINITION. The ports: what a read transaction returns, writes that are not taken, results consumed
and discarded, and the event commands (10.2 to 10.4). -/
namespace Sys2Proof.Machine

/-! ### Which transactions a port takes up (R174, R176, R177, R180) -/

/-- The general call address of the bus, which every port ignores (R174). -/
def generalCall : BitVec 7 := 0

/-- A port acknowledges its own address and no other; in STARTING, with RESET_N held low among it, it
acknowledges none (R174, R180). -/
def State.acknowledges (s : State) (p : Port) (addr : BitVec 7) : Bool :=
  addr ≠ generalCall && addr = s.address && (s.ports.get p).phase ≠ .starting

/-- A transaction that a port has acknowledged at its address byte: the phase the port stood in at that
byte, and whether a reset has come since, which cuts the transaction off (R176, R178, R180). The bus holds
it, not the part (log entry 27). -/
structure Transaction where
  port : Port
  began : Phase
  cut : Bool := false
  deriving DecidableEq, Repr

/-- The transaction that an address byte opens; none where the port does not acknowledge it (R174). -/
def State.opens (s : State) (p : Port) (addr : BitVec 7) : Option Transaction :=
  if s.acknowledges p addr then some { port := p, began := (s.ports.get p).phase } else none

/-- An open transaction after a step of the part that leads to `t`: every reset takes every port to
STARTING, and so cuts it off where it stands (R180). -/
def Transaction.through (x : Transaction) (t : State) : Transaction :=
  { x with cut := x.cut || (t.ports.get x.port).phase = .starting }

/-- The most data bytes of a write that a port acknowledges (R177). -/
def dataByteLimit : Nat := 16

/-- Whether data byte k of a write is acknowledged: only where the write began in READY and no reset has
cut it off, and not the 17th or any later byte. A write that began in EXECUTING or RESULT has none of its
bytes acknowledged, whatever the phase becomes during it (R176, R177, R180). -/
def Transaction.acknowledgesData (x : Transaction) (k : Nat) : Bool :=
  !x.cut && x.began = .ready && k < dataByteLimit

/-- The row that a write with these data bytes is when it ends, by STOP or by a repeated START: taken at
its STOP where it began in READY, ignored without a data byte or at a repeated START, and discarded where
it began in EXECUTING or RESULT or was cut off (R176, R177, R180). A port in READY leaves it only by its
own command or a reset, so it is still there at the STOP of a write that began there. -/
def Transaction.writeRow (x : Transaction) (data : List Byte) (stop : Bool) : Instr :=
  if data.isEmpty then .writeIgnored x.port data
  else if x.cut ∨ x.began ≠ .ready then .writeDiscarded x.port data
  else if stop then decodeWrite x.port data
  else .writeIgnored x.port data

/-! ### What a master reads (R178, Table 10-5) -/

/-- The phase field of the status byte (Table 10-5); a port in STARTING acknowledges no address. -/
def phaseCode : Phase → Nat
  | .starting => 0
  | .ready => 1
  | .executing => 2
  | .result => 3

/-- The status byte of a port (Table 10-5). -/
def State.statusByte (s : State) (p : Port) : Byte :=
  let q := s.ports.get p
  let units := if q.phase = .result then (q.result.length + 7) / 8 else 0
  BitVec.ofNat 8 (64 * phaseCode q.phase + (if s.pins.attn.get p then 32 else 0) + units)

/-- Whether the rest of a read reads EEh, its status byte among it: a reset has cut the read off (R180),
or it began in RESULT and the result has been discarded or consumed since (R178, R179). Where the hold
timer expires between the address byte and the status byte, R179's "from then on" goes before R178's
first byte: DESIGN CHOICE (log entry 32). -/
def State.readOver (s : State) (x : Transaction) : Bool :=
  x.cut || (x.began = .result && (s.ports.get x.port).phase ≠ .result)

/-- Byte k of a read: the status byte, then the result from its first byte where the read began in RESULT,
and EEh past the result's end, in a read that began before the port entered RESULT, and in one that is
over (R178 to R180). -/
def State.readByte (s : State) (x : Transaction) (k : Nat) : Byte :=
  if s.readOver x then 0xEE
  else match k with
    | 0 => s.statusByte x.port
    | k + 1 => if x.began = .result then (s.ports.get x.port).result.getD k 0xEE else 0xEE

/-- The row that a read is once its byte k has been transferred: RESULT_CONSUMED at the last result byte
of a read that began in RESULT, and none before it. A read that began before the port entered RESULT is no
row: it goes on reading EEh and does not consume the result (R178). -/
def State.readRow (s : State) (x : Transaction) (k : Nat) : Option Instr :=
  if !s.readOver x ∧ x.began = .result ∧ k = (s.ports.get x.port).result.length
  then some (.resultConsumed x.port) else none

/-! ### Results -/

/-- The result waiting at a port is an accepted TAKE_ORDER (R42). -/
def PortState.holdsTake (q : PortState) : Bool :=
  q.phase = .result && q.result.take 2 == [CommandCode.takeOrder.byte, ResultCode.ok.byte]

/-- The number of a DISPENSING order whose dispense timer has not started (R44). -/
def State.unstarted? (s : State) : Option Nat :=
  if s.dispenseTimer.isSome then none
  else (s.dockets.find? fun d => d.order.any fun o => o.state = .dispensing).map (·.number)

/-- An order returns to READY at the head of the queue, its marker set back to OWED and queued (R43,
R44, R54). -/
def State.returnOrder (s : State) (num : Nat) : State :=
  let s := s.setOrderState num .ready
  ({ s with orderQueue := num :: s.orderQueue.filter (· ≠ num) }).markOwed num

/-- RESULT_CONSUMED: the port goes to READY with its hold timer stopped, and a TAKE_ORDER result starts
its dispense timer with the dispense limit in force (R42, R46, R178). Which reads are this event is
`State.readRow`. -/
def execResultConsumed (p : Port) (s : State) : Host.Outcome State Fault Refusal :=
  if (s.ports.get p).phase = .result then
    let timer := if (s.ports.get p).holdsTake ∧ s.unstarted?.isSome
      then some (Timer.start (1000 * s.settings.dispenseLimit)) else s.dispenseTimer
    .next (({ s with dispenseTimer := timer }).toReady p).drivePins
  else .next s

/-- RESULT_HOLD_EXPIRY: the result is discarded, RESULT_LOST is raised, and a TAKE_ORDER result returns
its order to the head of the queue (R44, R179). -/
def execResultHoldExpiry (p : Port) (s : State) : Host.Outcome State Fault Refusal :=
  if (s.ports.get p).phase = .result then
    let t := (s.toReady p).raise p .resultLost
    match (s.ports.get p).holdsTake, s.unstarted? with
    | true, some num => .next (State.conclude s (t.returnOrder num))
    | _, _ => .next t.drivePins
  else .next s

/-! ### Writes that are not commands -/

/-- INVALID_COMMAND: the header echoes the code as received (R175). -/
def execInvalidCommand (p : Port) (code : Byte) (_params : List Byte) (s : State) :
    Host.Outcome State Fault Refusal :=
  if (s.ports.get p).phase = .ready then
    .next (s.enterResult p (resultBytes code .invalidCommand [])).drivePins
  else .next s

/-- WRITE_DISCARDED: nothing in the part changes (R176). -/
def execWriteDiscarded (_p : Port) (_data : List Byte) (s : State) : Host.Outcome State Fault Refusal :=
  .next s

/-- WRITE_IGNORED: a write without a data byte, or ended by a repeated START, has no effect (R177). -/
def execWriteIgnored (_p : Port) (_data : List Byte) (s : State) : Host.Outcome State Fault Refusal :=
  .next s

/-! ### Event commands -/

/-- READ_EVENTS: the flags as they stood and the mask in force; every flag but RESET is cleared
(R183). -/
def execReadEvents (p : Port) (params : List Byte) (s : State) : Host.Outcome State Fault Refusal :=
  .next <| s.command p .readEvents params fun s =>
    (s.clearFlags p (~~~ Event.bit p .reset)).answered p .readEvents
      [fixed (be 2 (s.ports.get p).flags.toNat ++ be 2 (s.settings.eventMask.get p).toNat)]

/-- ACK_RESET: the port's RESET flag is cleared (R184). -/
def execAckReset (p : Port) (params : List Byte) (s : State) : Host.Outcome State Fault Refusal :=
  .next <| s.command p .ackReset params fun s =>
    (s.clearFlags p (Event.bit p .reset)).answered p .ackReset []

end Sys2Proof.Machine
end

