-- ==== Sys2Proof/Machine/Orders.lean ====
section
/-! DEFINITION. The order queue and the float (chapter 3). -/
namespace Sys2Proof.Machine

/-- The refusal of TAKE_ORDER, by the first check of R41 that fails. -/
def State.takeRefusal (s : State) : Option ResultCode :=
  if s.lockout then some .locked
  else if s.inHand?.isSome then some .busyDispensing
  else match s.orderQueue.head? with
    | none => some .noneReady
    | some num =>
      if s.orderState? num ≠ some .ready then some .pending
      else if s.emptyCause then some .dispenserEmpty
      else if s.float < s.payoutOf num then some .floatShort
      else none

/-- The head order becomes OFFERED, its marker DISPENSING in the working copy and queued, and the port
waits on the record's next program (R41). -/
def State.offer (s : State) (p : Port) (num : Nat) : State :=
  let s := ((s.setOrderState num .offered).setMarker num .dispensing).queueSettlement num
  let s := match s.settlementOf num with
    | some r => s.wait (.settlement r) (.take num)
    | none => s
  s.toExecuting p

/-- TAKE_ORDER (R41). -/
def execTakeOrder (p : Port) (params : List Byte) (s : State) : Host.Outcome State Fault Refusal :=
  .next <| s.command p .takeOrder params fun s =>
    match s.takeRefusal, s.orderQueue.head? with
    | none, some num => State.conclude s (s.offer p num)
    | some rc, _ => s.refused p .takeOrder rc
    | none, none => s.refused p .takeOrder .noneReady

/-- The order in hand goes to SUSPENSE (R46). -/
def State.suspend (s : State) (num : Nat) : State :=
  let s := (s.setOrderState num .suspense).dequeueOrder num
  let s := ({ s with dispenseTimer := none }).recordFault .payoutSuspense
  (s.raise .payout .suspense).raise .office .suspense

/-- DISPENSE_LIMIT_EXPIRY (R46). -/
def execDispenseLimitExpiry (s : State) : Host.Outcome State Fault Refusal :=
  match s.dispenseTimer, s.inHand? with
  | some _, some d =>
    if s.active ∧ s.orderState? d.number = some .dispensing then
      .next (State.conclude s (s.suspend d.number))
    else .next s
  | _, _ => .next s

/-! ### Confirmation (R48 to R53) -/

/-- The largest dispensed or paid amount (R48, R53). -/
def amountLimit : Nat := 16777215

/-- The float is lowered by an amount, to 0 with FLOAT_SHORTFALL where it is too small (R50). -/
def State.lowerFloat (s : State) (amount : Nat) : State :=
  let s := if s.float < amount then ({ s with float := 0 }).recordFault .floatShortfall
    else { s with float := s.float - amount }
  s.checkFloatLow

/-- The order field after a confirmation or a resolution with an amount (R49 steps 1 and 2, R53). -/
def Order.confirmed (o : Order) (payout amount : Nat) : Order :=
  { state := .paid, dispensed := some amount, late := o.late || o.state = .suspense,
    mismatch := o.mismatch || amount ≠ payout }

/-- The settlement record of a docket is freed in the working copies and queued, with the float record
behind it (R49 step 5). -/
def State.freeSettlement (s : State) (num : Nat) : State :=
  let s := match s.settlementOf num with
    | some r => ({ s with settlements := tableDel s.settlements r }).queueRecord (.settlement r)
    | none => s
  s.queueRecord .float

/-- The effects of a confirmation of an order, steps 1 to 5 of R49. -/
def State.pay (s : State) (num amount : Nat) : State :=
  let payout := s.payoutOf num
  let s := if s.orderState? num = some .dispensing then { s with dispenseTimer := none } else s
  let s := if amount ≠ payout then s.recordFault .payoutMismatch else s
  let s := s.lowerFloat amount
  let s := s.updateDocket num fun d =>
    { d with state := .paid, order := d.order.map (·.confirmed payout amount) }
  ((s.dequeueOrder num).joinFinished num).freeSettlement num

/-- The port waits on the program of the settlement record freed (R51). -/
def State.waitFreed (s : State) (p : Port) (record : Option Nat) (k : WaitKind) : State :=
  let s := match record with
    | some r => s.wait (.settlement r) k
    | none => s
  s.toExecuting p

/-- CONFIRM_PAYOUT (R48 to R52). -/
def execConfirmPayout (p : Port) (params : List Byte) (s : State) : Host.Outcome State Fault Refusal :=
  .next <| s.command p .confirmPayout params fun s =>
    let num := field params 0 2
    let amount := field params 2 4
    if amountLimit < amount then s.refused p .confirmPayout .outOfRange
    else if (s.docket? num).isNone then s.refused p .confirmPayout .noSuchDocket
    else
      match s.orderState? num with
      | some .dispensing =>
        let t := s.pay num amount
        State.conclude s (t.waitFreed p (s.settlementOf num) (.confirm num false t.float))
      | some .suspense =>
        let t := s.pay num amount
        State.conclude s (t.waitFreed p (s.settlementOf num) (.confirm num true t.float))
      | _ => s.refused p .confirmPayout .wrongState

/-- The paid amount field of a RESOLVE_SUSPENSE frame: NOT_PAID is FFFFFFFFh (R185). -/
def paidField (params : List Byte) : Option Nat :=
  if field params 2 4 = max32 then none else some (field params 2 4)

/-- RESOLVE_SUSPENSE with a paid amount or with NOT_PAID, as its frame says (R53, R54, R185). -/
def State.resolveFrame (s : State) (p : Port) (params : List Byte) : State :=
  s.command p .resolveSuspense params fun s =>
    let num := field params 0 2
    let paid := paidField params
    if paid.any fun a => amountLimit < a then s.refused p .resolveSuspense .outOfRange
    else if (s.docket? num).isNone then s.refused p .resolveSuspense .noSuchDocket
    else if s.orderState? num ≠ some .suspense then s.refused p .resolveSuspense .wrongState
    else
      match paid with
      | some amount =>
        let t := s.pay num amount
        State.conclude s (t.waitFreed p (s.settlementOf num) (.resolve num t.float))
      | none =>
        State.conclude s ((s.returnOrder num).respond p .resolveSuspense .ok [fixed (be 2 num)])

/-- RESOLVE_SUSPENSE with a paid amount (R53). -/
def execResolveSuspense (p : Port) (params : List Byte) (s : State) :
    Host.Outcome State Fault Refusal := .next (s.resolveFrame p params)

/-- RESOLVE_SUSPENSE with NOT_PAID (R54). -/
def execResolveSuspenseNotPaid (p : Port) (params : List Byte) (s : State) :
    Host.Outcome State Fault Refusal := .next (s.resolveFrame p params)

/-! ### The float (R56, R57, R60) -/

/-- LOAD_FLOAT (R56). -/
def execLoadFloat (p : Port) (params : List Byte) (s : State) : Host.Outcome State Fault Refusal :=
  .next <| s.command p .loadFloat params fun s =>
    let amount := field params 0 4
    if amount = 0 ∨ max32 < s.float + amount then s.refused p .loadFloat .outOfRange
    else
      let float := s.float + amount
      let t := (({ s with float := float }).queueRecord .float).checkFloatLow
      State.conclude s ((t.wait .float (.loadFloat float)).toExecuting p)

/-- READ_FLOAT (R57). "The docket number of the order in hand, or none" is one optional part, absent where
no order is in hand: DESIGN CHOICE, since R57 and R186 do not say whether none is an absent part or a number
of 0 (log entry 34). -/
def execReadFloat (p : Port) (params : List Byte) (s : State) : Host.Outcome State Fault Refusal :=
  .next <| s.command p .readFloat params fun s =>
    s.answered p .readFloat
      [ fixed (be 4 s.float ++ flagByte s.floatLow ++ flagByte s.shortCause ++ flagByte s.emptyCause ++
          be 4 s.settings.floatLowSet ++ be 4 s.settings.floatLowClear),
        optional (s.inHand?.map fun d => be 2 d.number) ]

/-- REPORT_DISPENSER: EMPTY 1, READY 2, FAULT 3 (R60, R185). -/
def execReportDispenser (p : Port) (params : List Byte) (s : State) : Host.Outcome State Fault Refusal :=
  .next <| s.command p .reportDispenser params fun s =>
    match field params 0 1 with
    | 1 => State.conclude s ((s.setEmptyCause true).respond p .reportDispenser .ok [])
    | 2 => State.conclude s ((s.setEmptyCause false).respond p .reportDispenser .ok [])
    | 3 => State.conclude s ((s.recordFault .dispenserFault).respond p .reportDispenser .ok [])
    | _ => s.refused p .reportDispenser .outOfRange

end Sys2Proof.Machine
end

