-- ==== Sys2Proof/Machine/Store.lean ====
section
/-! DEFINITION. The end of a program and its waiters, the account commands, STORE_SETTINGS and
READ_STORE (chapter 4). -/
namespace Sys2Proof.Machine

/-! ### What a waiter receives (Table 4-3) -/

/-- One commit of a PENDING_COMMIT order has ended; with none left to wait on, the order becomes READY
(R34). -/
def State.commitDone (s : State) (num : Nat) : State :=
  if s.waiters.any fun w => w.kind = .order num then s
  else if s.orderState? num = some .pendingCommit then s.setOrderState num .ready
  else s

/-- The body of an accepted TAKE_ORDER (Table 10-8). -/
def State.takeBody (s : State) (num : Nat) : Body :=
  match s.docket? num with
  | some d =>
    [fixed (be 2 num ++ be 3 d.haulier ++ be 1 (laneIndex d.lane) ++ be 3 (s.payoutOf num))]
  | none => []

/-- The hand-over of a TAKE_ORDER ends with its marker program (R42, R43). -/
def State.takeEnds (s : State) (num : Nat) (ok : Bool) : State :=
  if ok then
    let s := s.setOrderState num .dispensing
    s.answerWaiting .payout .takeOrder .ok (s.takeBody num)
  else (s.returnOrder num).answerWaiting .payout .takeOrder .storeFailed [fixed (be 2 num)]

/-- The result code of a confirmation or resolution, by the order's state before it and the end of the
program (R51). -/
def confirmCode (late ok : Bool) : ResultCode :=
  match late, ok with
  | false, true => .ok
  | false, false => .okUnstored
  | true, true => .late
  | true, false => .lateUnstored

/-- A waiter receives the outcome of the program it waited on (Table 4-3). -/
def State.waiterEnds (ok : Bool) (s : State) (w : Waiter) : State :=
  match w.kind with
  | .order num => s.commitDone num
  | .take num => s.takeEnds num ok
  | .confirm num late float =>
    s.answerWaiting .payout .confirmPayout (confirmCode late ok) [fixed (be 2 num ++ be 4 float)]
  | .resolve num float =>
    s.answerWaiting .office .resolveSuspense (confirmCode true ok) [fixed (be 2 num ++ be 4 float)]
  | .loadFloat float =>
    s.answerWaiting .office .loadFloat (if ok then .ok else .okUnstored) [fixed (be 4 float)]
  | .accountEdit c => s.answerWaiting .office c (if ok then .ok else .storeFailed) []
  | .storeSettings => s.answerWaiting .office .storeSettings (if ok then .ok else .storeFailed) []

/-- The waiters on a record whose program has begun receive its outcome (R70). -/
def State.waitersEnd (s : State) (r : RecordId) (ok : Bool) : State :=
  let ends := fun w : Waiter => w.begun && w.record = r
  (s.waiters.filter ends).foldl (State.waiterEnds ok)
    { s with waiters := s.waiters.filter fun w => !ends w }

/-! ### The end of a program (R68 to R72) -/

/-- The image is in the record and verified (R68, R70). -/
def State.programCompletes (s : State) (g : Program) : State :=
  let s := { s with program := none, store := s.store.write g.record g.image }
  s.entryEnds.waitersEnd g.record true

/-- An ACTIVE account whose program failed twice becomes FROZEN, and ACCOUNT_FROZEN is raised (R71). -/
def State.freeze (s : State) : RecordId → State
  | .account n =>
    match tableGet s.accounts n with
    | some a =>
      if a.status = .active then
        ({ s with accounts := tablePut s.accounts n { a with status := .frozen } }).raise .office
          .accountFrozen
      else s
    | none => s
  | .settlement _ | .float | .fault | .settings => s

/-- STORE_VERIFY, which does not queue the fault record where its own program failed (R71, R72). -/
def State.verifyFault (s : State) (r : RecordId) : State :=
  if r = .fault then s.noteFault .storeVerify else s.recordFault .storeVerify

/-- The program has failed twice (R68, R71, R72): the fault, the entry's end, the waiters, and an account
frozen. What the record is left holding is `State.leaveFailed`. -/
def State.programFails (s : State) (g : Program) : State :=
  let s := ({ s with program := none }).leaveFailed g
  (((s.verifyFault g.record).entryEnds).waitersEnd g.record false).freeze g.record

/-- An attempt fails: the first is followed at once by the second, with the same image (R68). -/
def State.attemptFails (s : State) (g : Program) : State :=
  match g.attempt with
  | .first => { s with program := some { g with attempt := .second, timer := Timer.start attemptLimit } }
  | .second => State.conclude s (s.programFails g)

/-- PROGRAM_ATTEMPT_END: the attempt succeeds where the read-back equals the image (R68). -/
def execProgramAttemptEnd (equal : Bool) (s : State) : Host.Outcome State Fault Refusal :=
  match s.program with
  | some g => .next (if equal then State.conclude s (s.programCompletes g) else s.attemptFails g)
  | none => .next s

/-- PROGRAM_ATTEMPT_TIMEOUT: an attempt not finished 15 ms after it began has failed (R68). -/
def execProgramAttemptTimeout (s : State) : Host.Outcome State Fault Refusal :=
  match s.program with
  | some g => .next (s.attemptFails g)
  | none => .next s

/-! ### Accounts (4.5) -/

/-- The largest haulier ID (R75, Table 4-5). -/
def haulierLimit : Nat := 16777215

/-- Queue an account record for an office edit, and wait on its program (R67, R70, R75 to R77). -/
def State.editAccount (s : State) (p : Port) (n : Nat) (c : CommandCode) : State :=
  ((s.queueRecord (.account n) true).wait (.account n) (.accountEdit c)).toExecuting p

/-- ACCOUNT_ADD (R75). A haulier field has three bytes, so no ID is above 16,777,215. -/
def execAccountAdd (p : Port) (params : List Byte) (s : State) : Host.Outcome State Fault Refusal :=
  .next <| s.command p .accountAdd params fun s =>
    let id := field params 0 3
    if id = 0 ∨ haulierLimit < id then s.refused p .accountAdd .outOfRange
    else if (s.account? id).isSome then s.refused p .accountAdd .duplicate
    else match lowestFree 256 s.accounts with
      | none => s.refused p .accountAdd .tableFull
      | some n =>
        if s.storeBusy n then s.refused p .accountAdd .storeBusy
        else
          let t := { s with accounts := tablePut s.accounts n { haulier := id } }
          State.conclude s (t.editAccount p n .accountAdd)

/-- Whether a docket of a haulier is OPEN, CLOSING or AWAITING_PAYOUT (R76). -/
def State.haulierBusy (s : State) (id : Nat) : Bool :=
  s.dockets.any fun d =>
    d.haulier = id && (d.state = .open || d.state = .closing || d.state = .awaitingPayout)

/-- ACCOUNT_REMOVE (R76). -/
def execAccountRemove (p : Port) (params : List Byte) (s : State) : Host.Outcome State Fault Refusal :=
  .next <| s.command p .accountRemove params fun s =>
    let id := field params 0 3
    if id = 0 ∨ haulierLimit < id then s.refused p .accountRemove .outOfRange
    else match s.account? id with
      | none => s.refused p .accountRemove .unknownAccount
      | some (n, _) =>
        if s.haulierBusy id then s.refused p .accountRemove .wrongState
        else if s.storeBusy n then s.refused p .accountRemove .storeBusy
        else
          let t := { s with accounts := tableDel s.accounts n }
          State.conclude s (t.editAccount p n .accountRemove)

/-- ACCOUNT_REWRITE (R77). -/
def execAccountRewrite (p : Port) (params : List Byte) (s : State) : Host.Outcome State Fault Refusal :=
  .next <| s.command p .accountRewrite params fun s =>
    let id := field params 0 3
    let carry := field params 3 1
    if id = 0 ∨ haulierLimit < id ∨ 99 < carry then s.refused p .accountRewrite .outOfRange
    else match s.account? id with
      | none => s.refused p .accountRewrite .unknownAccount
      | some (n, a) =>
        if s.storeBusy n then s.refused p .accountRewrite .storeBusy
        else
          let t := { s with
            accounts := tablePut s.accounts n { a with carry := carry, status := .active } }
          State.conclude s (t.editAccount p n .accountRewrite)

/-- Where an account's record stands on its way to the store (R78). -/
def State.commitState (s : State) (n : Nat) : CommitState :=
  if s.programming (.account n) then .programming
  else if s.hasEntry (.account n) then .waiting
  else if s.held.contains n then .held
  else .none

/-- ACCOUNT_READ (R78). -/
def execAccountRead (p : Port) (params : List Byte) (s : State) : Host.Outcome State Fault Refusal :=
  .next <| s.command p .accountRead params fun s =>
    let id := field params 0 3
    if id = 0 ∨ haulierLimit < id then s.refused p .accountRead .outOfRange
    else match s.account? id with
      | none => s.refused p .accountRead .unknownAccount
      | some (n, a) => s.answered p .accountRead (accountBody a (s.commitState n))

/-! ### The store as a whole (R83, R85) -/

/-- STORE_SETTINGS: always taken; the settings record is queued and the port waits on its program
(R83). -/
def execStoreSettings (p : Port) (params : List Byte) (s : State) : Host.Outcome State Fault Refusal :=
  .next <| s.command p .storeSettings params fun s =>
    State.conclude s (((s.queueRecord .settings).wait .settings .storeSettings).toExecuting p)

/-- The docket number that names a settlement record's image; none where the image is a freed record. -/
def Program.docket? (g : Program) : Option Nat :=
  match g.image with
  | .settlement (some x) => some x.docket
  | .settlement none | .account _ | .float _ | .fault _ | .settings _ => none

/-- The haulier ID that names an account record's image; none where the image is an empty record. -/
def Program.haulier? (g : Program) : Option Nat :=
  match g.image with
  | .account (some a) => some a.haulier
  | .account none | .settlement _ | .float _ | .fault _ | .settings _ => none

/-- The program in progress is marked changed (R64): the mark stands on the head entry. -/
def State.headChanged (s : State) : Bool := s.commitQueue.head?.any (·.changed)

/-- The body of READ_STORE (R85). -/
def State.storeBody (s : State) : Body :=
  [ fixed (be 1 s.commitQueue.length ++ be 1 s.accountEntries ++
      be 1 (s.commitQueue.filter (·.edit)).length ++ be 2 s.held.length),
    optional (s.program.map fun g => be 1 (recordKindCode g.record)),
    optional ((s.program.bind (·.docket?)).map (be 2)),
    optional ((s.program.bind (·.haulier?)).map (be 3)),
    fixed ((s.program.map fun g => be 1 (attemptCode g.attempt) ++ flagByte s.headChanged).getD []) ]

/-- READ_STORE (R85). -/
def execReadStore (p : Port) (params : List Byte) (s : State) : Host.Outcome State Fault Refusal :=
  .next <| s.command p .readStore params fun s => s.answered p .readStore s.storeBody

end Sys2Proof.Machine
end

