-- ==== Sys2Proof/Machine/Reset.lean ====
section
/-! DEFINITION. Reset, power loss and start-up (chapter 11, R73, R160, R180). -/
namespace Sys2Proof.Machine

/-! ### The start-up scan (R190, R191) -/

/-- The fault record: loaded, or emptied, with STORE_CORRUPT where it is corrupt (R166, R190). -/
def State.scanFault (s : State) : State :=
  match s.store.fault with
  | .valid r => { s with faults := r }
  | .blank | .empty => { s with faults := {} }
  | .corrupt _ => ({ s with faults := {} }).recordFault .storeCorrupt

/-- The settings record: loaded, or every default with SETTINGS_DEFAULT (R84, R190). -/
def State.scanSettings (s : State) : State :=
  match s.store.settings with
  | .valid g => { s with settings := g }
  | .blank | .empty => ({ s with settings := {} }).raise .office .settingsDefault
  | .corrupt _ =>
    (({ s with settings := {} }).raise .office .settingsDefault).recordFault .storeCorrupt

/-- The float record. For SOFT_RESET the kept float stands, and a blank or corrupt record is queued
(R55, R190). -/
def State.scanFloat (s : State) (soft : Bool) : State :=
  match s.store.float with
  | .valid v => if soft then s else { s with float := v }
  | .blank | .empty => if soft then s.queueRecord .float else { s with float := 0 }
  | .corrupt _ =>
    let s := if soft then s else { s with float := 0 }
    (s.recordFault .storeCorrupt).queueRecord .float

/-- A corrupt account record whose haulier ID field reads as given: a CORRUPT account where the ID is
one and not loaded already, and freed otherwise; its record is queued (R190). -/
def State.scanCorruptAccount (s : State) (n id : Nat) : State :=
  let s := if 1 ≤ id ∧ id ≤ haulierLimit ∧ (s.account? id).isNone
    then { s with accounts := tablePut s.accounts n { haulier := id, status := .corrupt } }
    else s
  (s.queueRecord (.account n)).recordFault .storeCorrupt

/-- One account record. A valid record whose ID repeats one loaded already is treated as corrupt
(R190). -/
def State.scanAccount (s : State) (e : Nat × Cell Account) : State :=
  match e.2 with
  | .valid a =>
    if (s.account? a.haulier).isNone then { s with accounts := tablePut s.accounts e.1 a }
    else s.scanCorruptAccount e.1 a.haulier
  | .blank | .empty => s
  | .corrupt id => s.scanCorruptAccount e.1 id

/-- The docket restored from a settlement record (R23, R191). -/
def SettleRecord.restore (x : SettleRecord) : Docket :=
  { number := x.docket, lane := x.lane, haulier := x.haulier, state := .awaitingPayout,
    closedAt := some x.closedAt, figures := some x.figures, restored := true,
    order := some { state := match x.marker with
                              | .owed => .ready
                              | .dispensing => .suspense } }

/-- One settlement record (R190, R191). -/
def State.scanSettlement (s : State) (e : Nat × Cell SettleRecord) : State :=
  match e.2 with
  | .valid x =>
    if (s.docket? x.docket).isNone then
      let s := { s with
        settlements := tablePut s.settlements e.1 x
        dockets := s.dockets ++ [x.restore] }
      match x.marker with
      | .owed => s
      | .dispensing => (s.raise .payout .suspense).raise .office .suspense
    else (s.queueRecord (.settlement e.1)).recordFault .storeCorrupt
  | .blank | .empty => s
  | .corrupt _ => (s.recordFault .storeCorrupt).queueRecord (.settlement e.1)

/-- The scan, in the order of Table 11-2, over working copies that stand empty (R190). -/
def State.scan (s : State) (soft : Bool) : State :=
  let s := ((s.scanFault).scanSettings).scanFloat soft
  s.store.settlements.foldl State.scanSettlement (s.store.accounts.foldl State.scanAccount s)

/-! ### Power-on reset and RESET_N (R180, R188) -/

/-- The address of all three ports, by the ADDR strap (R174). -/
def addressOf (strap : Bool) : BitVec 7 := if strap then 0x3D else 0x3C

/-- Everything discarded but the store, with the strap read; the queue of commands that wait and the levels
of the input pins are not the part's (R174, R188, R189 step 1). -/
def State.cleared (s : State) : State :=
  { pending := s.pending, addrStrap := s.addrStrap, resetLow := s.resetLow
    address := addressOf s.addrStrap, store := s.store, freeCount := s.freeCount, ports := .all {} }

/-- The event that begins STARTING at power-on reset and at the release of RESET_N, with the scan of
the store (R188 to R191). -/
def State.powerUp (s : State) : State := ((s.cutProgram.cleared).scan false).drivePins

/-- A power-on reset with RESET_N held low: everything but the store is discarded, and the part is held,
its lines at their levels for a RESET_N that is low, until the pin is released (R109, R160, R168, R174,
R182). -/
def State.powerUpHeld (s : State) : State :=
  ({ s.cutProgram.cleared with mode := .resetHeld }).drivePins

/-- POWER_ON_RESET (R73, R188). With RESET_N held low the part is held, and STARTING begins at the release of
the pin: DESIGN CHOICE, since R188 begins STARTING at the power-on reset and, for RESET_N, at the release,
and does not say which holds where both are at work (log entry 33). -/
def execPowerOnReset (s : State) : Host.Outcome State Fault Refusal :=
  .next (if s.resetLow then s.powerUpHeld else s.powerUp)

/-- A port as a reset leaves it until its flags are cleared: in STARTING, with no result (R180). -/
def PortState.inReset (q : PortState) : PortState :=
  { q with phase := .starting, result := [], hold := none }

/-- RESET_N_ASSERTED: the program and the turn in progress are cut off and the commit queue and the
held-account list are emptied at once; the part is held until the pin is released (R64, R66, R73,
R160, R168, R174, R180). Without supply only the level of the pin changes (log entry 33). -/
def execResetNAsserted (s : State) : Host.Outcome State Fault Refusal :=
  if s.mode = .unpowered then .next { s with resetLow := true }
  else
    .next ({ s.cutProgram with
      resetLow := true, mode := .resetHeld, turn := none, commitQueue := [], held := [], waiters := []
      ports := s.ports.map PortState.inReset }).drivePins

/-- RESET_N_RELEASED: STARTING begins at the release of the pin (R188); without supply, or where the pin
was not held, only its level changes (log entries 5 and 33). -/
def execResetNReleased (s : State) : Host.Outcome State Fault Refusal :=
  let t := { s with resetLow := false }
  .next (if s.mode = .resetHeld then t.powerUp else t)

/-- POWER_LOSS: the attempt is cut off where it stands, and all that is not in the store is lost
(R73). Without supply the lines are at no level the manual gives (log entry 2). -/
def execPowerLoss (s : State) : Host.Outcome State Fault Refusal :=
  if s.mode = .unpowered then .next s
  else
    let t := s.cutProgram
    .next ({ t.cleared with mode := .unpowered, freeCount := t.freeCount + 1 }).drivePins

/-! ### SOFT_RESET (R45, R73, R180, R188) -/

/-- End the hand-over of an order whose result has not been consumed (R44, R45): an OFFERED order's
marker goes back to OWED; a DISPENSING order whose timer has not started is returned. Which order it was
is kept for the drain, in which its OWED program may fail twice. -/
def State.endHandOver (s : State) : State :=
  let s := { s with handedBack := none }
  match s.inHand? with
  | some d =>
    match s.orderState? d.number, s.unstarted? with
    | some .offered, _ => { s.markOwed d.number with handedBack := some d.number }
    | _, some num => { s.returnOrder num with handedBack := some num }
    | _, none => s
  | none => s

/-- The waiters that are orders, which go on waiting when the ports do not. -/
def State.dropPortWaiters (s : State) : State :=
  { s with waiters := s.waiters.filter fun w =>
      match w.kind with
      | .order _ => true
      | .take _ | .confirm _ _ _ | .resolve _ _ | .loadFloat _ | .accountEdit _ | .storeSettings => false }

/-- SOFT_RESET: the hand-over ends, the ports go to STARTING with RESET alone set, and the commit queue
drains (R73, R180, R181, R188). -/
def execSoftReset (p : Port) (params : List Byte) (s : State) : Host.Outcome State Fault Refusal :=
  .next <| s.command p .softReset params fun s =>
    let t := State.conclude s s.endHandOver.dropPortWaiters
    ({ t with mode := .draining, address := addressOf t.addrStrap, ports := .all {} }).drivePins

/-- The drain is over: nothing queued, held or being programmed (R73, R188). -/
def State.drained (s : State) : Bool :=
  s.commitQueue.isEmpty && s.held.isEmpty && s.program.isNone

/-- The part at the event that ends the drain: the timers stop, the tallies, statistics, dockets and
queue are emptied, every lane is in OFF, and every working copy but the float is discarded; yard time,
the ports' flags and a turn still on the link are kept (R188, R192). -/
def State.drainedOut (s : State) : State :=
  { pending := s.pending, addrStrap := s.addrStrap, resetLow := s.resetLow, address := s.address,
    yardTime := s.yardTime,
    subSecond := s.subSecond, ports := s.ports, store := s.store, freeCount := s.freeCount,
    float := s.float, turn := s.turn }

/-- Every lane goes to OFF, and LANE_STATE is raised where one was not there (R88, R188; log
entry 31). -/
def State.lanesToOff (s : State) : State := Lane.list.foldl (fun s n => s.moveLane n {}) s

/-- FLOAT_LOW and both causes of FLOAT_OUT start clear, and each that was set raises its event (R58 to
R61; log entry 11). -/
def State.floatToClear (s : State) : State :=
  ((s.setFloatLow false).setEmptyCause false).setShortCause false

/-- SOFT_RESET_DRAIN_END: the lanes go to OFF, the float conditions clear, and the start-up sequence
begins at its scan (R58 to R61, R88, R188). -/
def execSoftResetDrainEnd (s : State) : Host.Outcome State Fault Refusal :=
  if s.mode = .draining ∧ s.drained then .next (s.lanesToOff.floatToClear.drainedOut.scan true).drivePins
  else .next s

/-! ### The end of STARTING (R189 steps 3 to 5) -/

/-- Whether a restored order goes before another: by closed-at time, ties to the lower number (R191). -/
def Docket.before (a b : Docket) : Bool :=
  let ta := a.closedAt.getD 0
  let tb := b.closedAt.getD 0
  ta < tb || (ta = tb && a.number ≤ b.number)

def insertDocket (a : Docket) : List Docket → List Docket
  | [] => [a]
  | b :: rest => if a.before b then a :: b :: rest else b :: insertDocket a rest

/-- The order queue that the restored READY orders make (R191). -/
def State.restoredQueue (s : State) : List Nat :=
  ((s.dockets.filter fun d => d.order.any fun o => o.state = .ready).foldr insertDocket []).map
    (·.number)

/-- The next-number counter after a reset (R4). -/
def State.restoredCounter (s : State) : Nat :=
  match s.dockets.map (·.number) with
  | [] => 1
  | n :: rest => numberAfter (rest.foldl max n)

/-- The order queue, the counter, lockout and the float conditions (R4, R191, R189 step 3). Lockout
raises no event (R189); a change of the short cause raises FLOAT_OUT (R59, R61; log entry 11). -/
def State.startMoney (s : State) : State :=
  let s := { s with orderQueue := s.restoredQueue, nextNumber := s.restoredCounter,
                    lockout := locks s.faults s.settings.lockoutMask }
  let s := (s.checkFloatLow.setEmptyCause false).checkShort
  if s.headReady then s.raise .payout .orderReady else s

/-- STARTING ends: the ports go to READY, and the stray tallies and the link start from this event
(R189 step 4, R120, R158, Table 8-6). -/
def State.openPorts (s : State) : State :=
  { s with
    mode := .running
    ports := s.ports.map fun q => { q with phase := .ready }
    strays := .all { since := s.yardTime }
    links := .all { stats := { since := s.yardTime } }
    turn := none
    rotation := none }

/-- An enabled lane goes to CONFIGURING (R131, R189 step 5). -/
def State.startLane (s : State) (n : Lane) : State :=
  if s.enabled n then s.moveLane n (s.detectors.get n).configuring else s

/-- The lanes start, and the rotation with them (R189 step 5). -/
def State.startLanes (s : State) : State := (Lane.list.foldl State.startLane s).nextTurn

/-- SCAN_COMPLETE: the end of STARTING (R189). -/
def execScanComplete (s : State) : Host.Outcome State Fault Refusal :=
  if s.mode = .scanning then
    .next ((((s.startMoney).openPorts).startLanes).beginProgram).drivePins
  else .next s

end Sys2Proof.Machine
end

