-- ==== Sys2Proof/Machine/Settings.lean ====
section
/-! DEFINITION. The settings commands (4.6): SET_CLASS, READ_CLASS, SET_PARAM and SET_LANE. -/
namespace Sys2Proof.Machine

/-! ### The class table (R79, R80, R114, R119) -/

/-- The largest rate (R80). -/
def rateLimit : Nat := 60000

/-- The row that a SET_CLASS frame writes: an upper bound below its lower bound is clamped up to it
(R80). -/
def classRowOf (params : List Byte) (enable : Bool) : ClassRow :=
  { enable := enable
    indLo := field params 2 2
    indHi := max (field params 4 2) (field params 2 2)
    capLo := field params 6 2
    capHi := max (field params 8 2) (field params 6 2)
    rate := field params 10 2 }

/-- SET_CLASS (R79, R80). A bound has two bytes, so none is above 65535. -/
def execSetClass (p : Port) (params : List Byte) (s : State) : Host.Outcome State Fault Refusal :=
  .next <| s.command p .setClass params fun s =>
    match class? (field params 0 1), onOff? (field params 1 1) with
    | some k, some on =>
      let row := classRowOf params on
      if rateLimit < row.rate then s.refused p .setClass .outOfRange
      else
        ({ s with settings := { s.settings with classes := s.settings.classes.set k row } }).answered p
          .setClass [fixed (classRowBytes row)]
    | _, _ => s.refused p .setClass .outOfRange

/-- READ_CLASS (R119). -/
def execReadClass (p : Port) (params : List Byte) (s : State) : Host.Outcome State Fault Refusal :=
  .next <| s.command p .readClass params fun s =>
    match class? (field params 0 1) with
    | some k => s.answered p .readClass [fixed (classRowBytes s.settings.classes[k])]
    | none => s.refused p .readClass .outOfRange

/-! ### SET_PARAM (R79, R81, Tables 4-6 and 10-9) -/

/-- A value within a range, both ends included. -/
def within (lo hi v : Nat) : Option Nat := if lo ≤ v ∧ v ≤ hi then some v else none

/-- A value of a list. -/
def oneOf (vs : List Nat) (v : Nat) : Option Nat := if v ∈ vs then some v else none

/-- The settings after SET_PARAM of an identifier other than the lockout mask, with the value kept; none
where the identifier or the value is out of range. The float levels are clamped against each other
(R58, R79). -/
def Settings.setParam (g : Settings) (id v : Nat) : Option (Settings × Nat) :=
  match id with
  | 1 => (within 1 60 v).map fun v => ({ g with closeGrace := v }, v)
  | 2 => (within 0 5000 v).map fun v => ({ g with foreignFee := v }, v)
  | 3 => (oneOf [1, 2, 5, 10, 20, 50, 100] v).map fun v => ({ g with roundUnit := v }, v)
  | 4 => (within 100 16777215 v).map fun v => ({ g with cap := v }, v)
  | 5 => (within 10 600 v).map fun v => ({ g with dispenseLimit := v }, v)
  | 6 => some ({ g with floatLowSet := min v g.floatLowClear }, min v g.floatLowClear)
  | 7 => some ({ g with floatLowClear := max v g.floatLowSet }, max v g.floatLowSet)
  | 8 => (oneOf [19200, 38400, 57600] v).map fun v => ({ g with bitRate := v }, v)
  | 9 => (within 32 1020 v).map fun v => ({ g with silentLimit := v }, v)
  | 10 => (within 100 5000 v).map fun v => ({ g with holdTime := v }, v)
  | 12 => (within 0 (eventBits .lane) v).map fun v =>
      ({ g with eventMask := g.eventMask.set .lane (BitVec.ofNat 16 v) }, v)
  | 13 => (within 0 (eventBits .payout) v).map fun v =>
      ({ g with eventMask := g.eventMask.set .payout (BitVec.ofNat 16 v) }, v)
  | 14 => (within 0 (eventBits .office) v).map fun v =>
      ({ g with eventMask := g.eventMask.set .office (BitVec.ofNat 16 v) }, v)
  | _ => none

/-- The bits of the seven fault kinds in a lockout mask (R171, R185). -/
def faultKindBits : Nat := 0x7F

/-- SET_PARAM of the lockout mask: the mask in force and the mask of record take the value, lockout is
evaluated, and the fault record is queued (R171). -/
def State.setLockoutMask (s : State) (m : BitVec 8) : State :=
  (({ s with
      settings := { s.settings with lockoutMask := m }
      faults := { s.faults with maskOfRecord := m } }).evalLockout).queueRecord .fault

/-- SET_PARAM: identifier 11 is the lockout mask; identifiers 6 and 7 are the float levels, each write
of which runs the FLOAT_LOW check (R58, R79, R81, R171). The setting is written before the port enters
RESULT, so a write of identifier 10, the result hold time, times its own result too: DESIGN CHOICE, since no
rule orders the two at that event (R179, log entry 35). -/
def execSetParam (p : Port) (params : List Byte) (s : State) : Host.Outcome State Fault Refusal :=
  .next <| s.command p .setParam params fun s =>
    let id := field params 0 1
    let v := field params 1 4
    if id = 11 then
      if faultKindBits < v then s.refused p .setParam .outOfRange
      else State.conclude s
        ((s.setLockoutMask (BitVec.ofNat 8 v)).respond p .setParam .ok [fixed (be 4 v)])
    else match s.settings.setParam id v with
      | some (g, kept) =>
        let t := { s with settings := g }
        let t := if id = 6 ∨ id = 7 then t.checkFloatLow else t
        t.answered p .setParam [fixed (be 4 kept)]
      | none => s.refused p .setParam .outOfRange

/-! ### SET_LANE (R79, R81, Tables 4-7 and 10-9) -/

/-- The lane settings after SET_LANE of an identifier, with the value kept; none where the identifier
or the value is out of range. Exit and entry thresholds, and β and β_fast, are clamped against each
other (R79). -/
def LaneSettings.setLane (g : LaneSettings) (id v : Nat) : Option (LaneSettings × Nat) :=
  match id with
  | 1 => (within 0 3 v).map fun v => ({ g with alpha := v }, v)
  | 2 => (within 1 65535 v).map fun v =>
      ({ g with tInInd := max v g.tOutInd }, max v g.tOutInd)
  | 3 => (within 1 65535 v).map fun v =>
      ({ g with tInCap := max v g.tOutCap }, max v g.tOutCap)
  | 4 => some ({ g with tOutInd := min v g.tInInd }, min v g.tInInd)
  | 5 => some ({ g with tOutCap := min v g.tInCap }, min v g.tInCap)
  | 6 => (within 1 8 v).map fun v => ({ g with entryLen := v }, v)
  | 7 => (within 1 8 v).map fun v => ({ g with exitLen := v }, v)
  | 8 => (within 1 4 v).map fun v => ({ g with gamma := v }, v)
  | 9 => (within 0 65535 v).map fun v => ({ g with settleBand := v }, v)
  | 10 => (within 1 32 v).map fun v => ({ g with settleLen := v }, v)
  | 11 => (onOff? v).map fun on => ({ g with splitEnable := on }, v)
  | 12 => (within 1 127 v).map fun v => ({ g with splitRatio := v }, v)
  | 13 => (if v = 0 then some 0 else within 16 65535 v).map fun v => ({ g with jamLimit := v }, v)
  | 14 => (within 0 7 v).map fun v => ({ g with holdLimit := v }, v)
  | 15 => (within 1 16 v).map fun v => ({ g with recovery := v }, v)
  | 16 => (stopPolicy? v).map fun q => ({ g with stopPolicy := q }, v)
  | 17 => (within 2 10 v).map fun v => ({ g with beta := max v g.betaFast }, max v g.betaFast)
  | 18 => (within 1 65535 v).map fun v => ({ g with betaFast := min v g.beta }, min v g.beta)
  | 19 => (within 0 65535 v).map fun v => ({ g with fastBand := v }, v)
  | 20 => (within 0 8191 v).map fun v => ({ g with refWeight := v }, v)
  | 21 => (within 1 255 v).map fun v => ({ g with settleSamples := v }, v)
  | 22 => (within 0 65535 v).map fun v => ({ g with targets := { g.targets with ind := v } }, v)
  | 23 => (within 0 65535 v).map fun v => ({ g with targets := { g.targets with cap := v } }, v)
  | 24 => (within 0 65535 v).map fun v => ({ g with targets := { g.targets with ref := v } }, v)
  | 25 => (within 0 65535 v).map fun v => ({ g with tuneBand := v }, v)
  | 26 => (within 0 65535 v).map fun v => ({ g with retuneBand := v }, v)
  | _ => none

/-- Replace one lane's settings. -/
def State.setLaneSettings (s : State) (n : Lane) (g : LaneSettings) : State :=
  { s with settings := { s.settings with lanes := s.settings.lanes.set n g } }

/-- SET_LANE: the LSTOP line follows a change of the stop policy at once (R79, R81, R109, R113). -/
def execSetLane (p : Port) (params : List Byte) (s : State) : Host.Outcome State Fault Refusal :=
  .next <| s.command p .setLane params fun s =>
    match lane? (field params 0 1) with
    | none => s.refused p .setLane .outOfRange
    | some n =>
      match (s.settings.lanes.get n).setLane (field params 1 1) (field params 2 2) with
      | some (g, kept) => (s.setLaneSettings n g).answered p .setLane [fixed (be 2 kept)]
      | none => s.refused p .setLane .outOfRange

end Sys2Proof.Machine
end

