-- ==== Sys2Proof/Machine/Dispatch.lean ====
section
/-! DEFINITION. The meaning of every row of the opcode table: one arm and one call for each. -/
namespace Sys2Proof.Machine

def exec (i : Instr) (s : State) : Host.Outcome State Fault Refusal :=
  match i with
  | .powerOnReset => Sys2Proof.Machine.execPowerOnReset s
  | .resetNAsserted => Sys2Proof.Machine.execResetNAsserted s
  | .resetNReleased => Sys2Proof.Machine.execResetNReleased s
  | .softReset port params => Sys2Proof.Machine.execSoftReset port params s
  | .softResetDrainEnd => Sys2Proof.Machine.execSoftResetDrainEnd s
  | .yardSecond => Sys2Proof.Machine.execYardSecond s
  | .setTime port params => Sys2Proof.Machine.execSetTime port params s
  | .invalidCommand port code params => Sys2Proof.Machine.execInvalidCommand port code params s
  | .writeDiscarded port data => Sys2Proof.Machine.execWriteDiscarded port data s
  | .writeIgnored port data => Sys2Proof.Machine.execWriteIgnored port data s
  | .resultConsumed port => Sys2Proof.Machine.execResultConsumed port s
  | .resultHoldExpiry port => Sys2Proof.Machine.execResultHoldExpiry port s
  | .openDocket port params => Sys2Proof.Machine.execOpenDocket port params s
  | .adjust port params => Sys2Proof.Machine.execAdjust port params s
  | .closeDocket port params => Sys2Proof.Machine.execCloseDocket port params s
  | .voidDocket port params => Sys2Proof.Machine.execVoidDocket port params s
  | .readDocket port params => Sys2Proof.Machine.execReadDocket port params s
  | .nextFinished port params => Sys2Proof.Machine.execNextFinished port params s
  | .releaseDocket port params => Sys2Proof.Machine.execReleaseDocket port params s
  | .closeGraceExpiry lane => Sys2Proof.Machine.execCloseGraceExpiry lane s
  | .takeOrder port params => Sys2Proof.Machine.execTakeOrder port params s
  | .dispenseLimitExpiry => Sys2Proof.Machine.execDispenseLimitExpiry s
  | .confirmPayout port params => Sys2Proof.Machine.execConfirmPayout port params s
  | .resolveSuspense port params => Sys2Proof.Machine.execResolveSuspense port params s
  | .resolveSuspenseNotPaid port params => Sys2Proof.Machine.execResolveSuspenseNotPaid port params s
  | .loadFloat port params => Sys2Proof.Machine.execLoadFloat port params s
  | .readFloat port params => Sys2Proof.Machine.execReadFloat port params s
  | .reportDispenser port params => Sys2Proof.Machine.execReportDispenser port params s
  | .programAttemptEnd equal => Sys2Proof.Machine.execProgramAttemptEnd equal s
  | .programAttemptTimeout => Sys2Proof.Machine.execProgramAttemptTimeout s
  | .accountAdd port params => Sys2Proof.Machine.execAccountAdd port params s
  | .accountRemove port params => Sys2Proof.Machine.execAccountRemove port params s
  | .accountRewrite port params => Sys2Proof.Machine.execAccountRewrite port params s
  | .accountRead port params => Sys2Proof.Machine.execAccountRead port params s
  | .readStore port params => Sys2Proof.Machine.execReadStore port params s
  | .setClass port params => Sys2Proof.Machine.execSetClass port params s
  | .setParam port params => Sys2Proof.Machine.execSetParam port params s
  | .setLane port params => Sys2Proof.Machine.execSetLane port params s
  | .storeSettings port params => Sys2Proof.Machine.execStoreSettings port params s
  | .readClass port params => Sys2Proof.Machine.execReadClass port params s
  | .laneEnable port params => Sys2Proof.Machine.execLaneEnable port params s
  | .tuneLane port params => Sys2Proof.Machine.execTuneLane port params s
  | .reseedLane port params => Sys2Proof.Machine.execReseedLane port params s
  | .readLane port params => Sys2Proof.Machine.execReadLane port params s
  | .readStray port params => Sys2Proof.Machine.execReadStray port params s
  | .clearStray port params => Sys2Proof.Machine.execClearStray port params s
  | .readLinkStats port params => Sys2Proof.Machine.execReadLinkStats port params s
  | .readFaults port params => Sys2Proof.Machine.execReadFaults port params s
  | .clearFaults port params => Sys2Proof.Machine.execClearFaults port params s
  | .readEvents port params => Sys2Proof.Machine.execReadEvents port params s
  | .ackReset port params => Sys2Proof.Machine.execAckReset port params s
  | .lineFree => Sys2Proof.Machine.execLineFree s
  | .lineStuck => Sys2Proof.Machine.execLineStuck s
  | .echo => Sys2Proof.Machine.execEcho s
  | .callSent => Sys2Proof.Machine.execCallSent s
  | .noAnswer => Sys2Proof.Machine.execNoAnswer s
  | .answerTimeout => Sys2Proof.Machine.execAnswerTimeout s
  | .answerComplete chars => Sys2Proof.Machine.execAnswerComplete chars s
  | .gateSilent turnEnd => Sys2Proof.Machine.execGateSilent turnEnd s
  | .tuneLimit turnEnd => Sys2Proof.Machine.execTuneLimit turnEnd s
  | .lost turnEnd => Sys2Proof.Machine.execLost turnEnd s
  | .jam turnEnd => Sys2Proof.Machine.execJam turnEnd s
  | .powerLoss => Sys2Proof.Machine.execPowerLoss s
  | .scanComplete => Sys2Proof.Machine.execScanComplete s

end Sys2Proof.Machine
end

