-- ==== Sys2Proof/Machine/Step.lean ====
section
/-! DEFINITION. One step of the part: the event at the front of the queue, or, with none waiting, one
tick of the yard clock. -/
namespace Sys2Proof.Machine

/-- Take the command or event at the front of the queue and run it with the queue's rest. With none
waiting, one millisecond tick passes in place of idling (R192, log entry 3). -/
def step (s : State) : Host.Outcome State Fault Refusal :=
  match s.pending with
  | [] => .next s.tick
  | c :: rest => exec c { s with pending := rest }

/-- The state with the command that a word spells at the front of the queue. No row of the opcode table
has bits, so no word spells one. -/
def State.withFetchWord (s : State) (nbits w : Nat) : State :=
  match decodeTableWord nbits w with
  | some c => { s with pending := c :: s.pending }
  | none => s

end Sys2Proof.Machine
end

