-- ==== Sys2Proof/Safety.lean ====
section
/-! DEFINITION. The words in which claims about the part are stated: what it means for a command to be
taken, what a result leaves, what stays as it was, and the invariants of the part. -/
namespace Sys2Proof.Machine

/-! ### Commands and results -/

/-- A write of a command is taken and passes the three checks of R175. -/
abbrev State.Takes (s : State) (p : Port) (c : CommandCode) (params : List Byte) : Prop :=
  (s.ports.get p).phase = .ready ∧ c.permitted p = true ∧ params.length = c.paramBytes

/-- The state in which a port shows a result, its hold timer just started (R176, R178, R179). -/
def State.showing (s : State) (p : Port) (bytes : List Byte) : State :=
  let q : PortState :=
    { phase := .result, result := bytes, hold := some { limit := s.settings.holdTime },
      flags := (s.ports.get p).flags }
  { s with ports := s.ports.set p q }

/-- The port stands in RESULT with these bytes. -/
abbrev State.Shows (s : State) (p : Port) (bytes : List Byte) : Prop :=
  (s.ports.get p).phase = .result ∧ (s.ports.get p).result = bytes ∧
  (s.ports.get p).hold = some { limit := s.settings.holdTime }

/-- An event's flag is set on a port. -/
abbrev State.Flagged (s : State) (p : Port) (e : Event) : Prop :=
  (s.ports.get p).flags &&& e.bit p = e.bit p

/-- A waiter of a kind stands on a record. -/
abbrev State.WaitsFor (s : State) (r : RecordId) (k : WaitKind) : Prop :=
  ∃ w ∈ s.waiters, w.record = r ∧ w.kind = k

/-- A record stands in the commit queue or in the held-account list. -/
abbrev State.Queued (s : State) (r : RecordId) : Prop :=
  s.hasEntry r = true ∨ ∃ n ∈ s.held, r = .account n

/-! ### What stays as it was -/

/-- The mode, the input pins, the clock, the queue of commands, the order that SOFT_RESET handed back and the
counter of free values. -/
abbrev SameClock (s t : State) : Prop :=
  t.pending = s.pending ∧ t.mode = s.mode ∧ t.addrStrap = s.addrStrap ∧ t.resetLow = s.resetLow ∧
  t.address = s.address ∧ t.yardTime = s.yardTime ∧ t.subSecond = s.subSecond ∧ t.handedBack = s.handedBack ∧
  t.freeCount = s.freeCount

/-- The detectors, the link and the stray tallies. -/
abbrev SameLanes (s t : State) : Prop :=
  t.detectors = s.detectors ∧ t.links = s.links ∧ t.rotation = s.rotation ∧ t.turn = s.turn ∧
  t.strays = s.strays

/-- The docket table with all that names its dockets. -/
abbrev SameDockets (s t : State) : Prop :=
  t.dockets = s.dockets ∧ t.finished = s.finished ∧ t.nextNumber = s.nextNumber ∧
  t.openDocket = s.openDocket ∧ t.grace = s.grace

/-- The order queue and the dispense timer. -/
abbrev SameOrders (s t : State) : Prop :=
  t.orderQueue = s.orderQueue ∧ t.dispenseTimer = s.dispenseTimer

/-- The float and its conditions. -/
abbrev SameFloat (s t : State) : Prop :=
  t.float = s.float ∧ t.floatLow = s.floatLow ∧ t.shortCause = s.shortCause ∧
  t.emptyCause = s.emptyCause

/-- The account and settlement record working copies. -/
abbrev SameRecords (s t : State) : Prop := t.accounts = s.accounts ∧ t.settlements = s.settlements

/-- The fault record and lockout. -/
abbrev SameFaults (s t : State) : Prop := t.faults = s.faults ∧ t.lockout = s.lockout

/-- The non-volatile memory, the commit queue, the program and the waiters. -/
abbrev SameStore (s t : State) : Prop :=
  t.store = s.store ∧ t.commitQueue = s.commitQueue ∧ t.held = s.held ∧ t.program = s.program ∧
  t.waiters = s.waiters

/-- The ports but one, with their flags. -/
abbrev SameOtherPorts (s t : State) (p : Port) : Prop := ∀ q, q ≠ p → t.ports.get q = s.ports.get q

/-- The phase, result and result hold timer of every port but one. -/
abbrev SameOtherPhases (s t : State) (p : Port) : Prop :=
  ∀ q, q ≠ p → (t.ports.get q).phase = (s.ports.get q).phase ∧
    (t.ports.get q).result = (s.ports.get q).result ∧ (t.ports.get q).hold = (s.ports.get q).hold

/-- The phase, result and result hold timer of every port. -/
abbrev SamePhases (s t : State) : Prop :=
  ∀ q, (t.ports.get q).phase = (s.ports.get q).phase ∧
    (t.ports.get q).result = (s.ports.get q).result ∧ (t.ports.get q).hold = (s.ports.get q).hold

/-- All but the ports and the lines. -/
abbrev SamePart (s t : State) : Prop :=
  SameClock s t ∧ SameLanes s t ∧ SameDockets s t ∧ SameOrders s t ∧ SameFloat s t ∧ SameRecords s t ∧
  SameFaults s t ∧ SameStore s t ∧ t.settings = s.settings

/-- What an event that begins no program leaves of the store: the memory, the held-account list, and
every entry of the commit queue. -/
abbrev QueueKept (s t : State) : Prop :=
  t.store = s.store ∧ t.held = s.held ∧ ∀ r, s.hasEntry r = true → t.hasEntry r = true

/-- Every held or queued account request stays known, and nothing queued is lost: what an event that may
queue an account record leaves of the store. -/
abbrev RequestsKept (s t : State) : Prop :=
  t.store = s.store ∧ (∀ r, s.hasEntry r = true → t.hasEntry r = true) ∧ ∀ n ∈ s.held, n ∈ t.held

/-- The dockets but one, by their numbers. -/
abbrev SameOtherDockets (s t : State) (num : Nat) : Prop := ∀ m, m ≠ num → t.docket? m = s.docket? m

/-- A change of lockout has raised LOCKOUT on the Payout and Office ports, and lockout is what the fault
record and the mask give (R167, R169). -/
abbrev LockoutFollows (s t : State) : Prop :=
  t.lockout = locks t.faults t.settings.lockoutMask ∧
  (t.lockout ≠ s.lockout → t.Flagged .payout .lockout ∧ t.Flagged .office .lockout)

/-- The FLOAT_LOW condition follows the float (R58), and a change of it raised FLOAT_LOW on the Payout
and Office ports. -/
abbrev FloatLowFollows (s t : State) : Prop :=
  (t.float ≤ s.settings.floatLowSet → t.floatLow = true) ∧
  (s.settings.floatLowSet < t.float → s.settings.floatLowClear ≤ t.float → t.floatLow = false) ∧
  (s.settings.floatLowSet < t.float → t.float < s.settings.floatLowClear → t.floatLow = s.floatLow) ∧
  (t.floatLow ≠ s.floatLow → t.Flagged .payout .floatLow ∧ t.Flagged .office .floatLow)

/-! ### What the money events leave -/

/-- Closing of docket `d` of lane `n` has completed with tallies `tl`, closed at `c`, for reason `why`
(R19, R32 to R36): `t` is the state after. -/
structure State.Closed (s t : State) (n : Lane) (d : Docket) (tl : Tallies) (c : Nat)
    (why : CloseReason) : Prop where
  docket : t.docket? d.number = some { d with
    closedAt := some c, closeReason := some why, tallies := some tl, rates := some s.settings.rates,
    figures := some (s.settle d.haulier tl)
    state := if 0 < (s.settle d.haulier tl).payout then .awaitingPayout else .nilPayout
    order := if 0 < (s.settle d.haulier tl).payout then some { state := .pendingCommit } else none }
  others : SameOtherDockets s t d.number
  lane : t.openDocket = s.openDocket.set n none ∧ t.grace = s.grace.set n none
  walkIn : d.haulier = 0 → t.accounts = s.accounts
  account : ∀ r a, d.haulier ≠ 0 → s.account? d.haulier = some (r, a) →
    tableGet t.accounts r =
      some (a.settled tl.net.sum (s.settle d.haulier tl) s.yardTime) ∧
    (∀ k, k ≠ r → tableGet t.accounts k = tableGet s.accounts k) ∧ t.Queued (.account r)
  owed : 0 < (s.settle d.haulier tl).payout →
    t.orderQueue = s.orderQueue ++ [d.number] ∧ t.finished = s.finished ∧
    ∃ r < 16, tableGet s.settlements r = none ∧ (∀ k < r, tableGet s.settlements k ≠ none) ∧
      tableGet t.settlements r =
        some ⟨d.number, d.lane, d.haulier, c, s.settle d.haulier tl, .owed⟩ ∧
      (∀ k, k ≠ r → tableGet t.settlements k = tableGet s.settlements k) ∧
      t.Queued (.settlement r) ∧ t.WaitsFor (.settlement r) (.order d.number) ∧
      ∀ k a, d.haulier ≠ 0 → s.account? d.haulier = some (k, a) →
        t.WaitsFor (.account k) (.order d.number)
  nil : (s.settle d.haulier tl).payout = 0 →
    t.orderQueue = s.orderQueue ∧ t.settlements = s.settlements ∧
    t.finished = s.finished ++ [d.number] ∧ t.Flagged .office .finished
  referred : 0 < (s.settle d.haulier tl).referred → t.Flagged .office .referred
  done : t.Flagged .lane .docketDone
  kept : SameClock s t ∧ t.nextNumber = s.nextNumber ∧ t.dispenseTimer = s.dispenseTimer ∧
    t.float = s.float ∧ t.floatLow = s.floatLow ∧ t.emptyCause = s.emptyCause ∧ SameFaults s t ∧
    RequestsKept s t ∧ t.settings = s.settings

/-- The fault record after a confirmation of `amount` for an order of `payout` (R49, R50). -/
def State.faultsPaid (s : State) (payout amount : Nat) : FaultRecord :=
  let f := if amount ≠ payout
    then s.faults.set .payoutMismatch ((s.faults.get .payoutMismatch).occur s.yardTime) else s.faults
  if s.float < amount then f.set .floatShortfall ((f.get .floatShortfall).occur s.yardTime) else f

/-- The order of docket `d`, with order field `o`, settlement record `r` and payout `P`, has been paid
with `amount`, and port `p` waits (R40, R49, R50, R53, R59, R61): `t` is the state after. -/
structure State.Paid (s t : State) (p : Port) (d : Docket) (o : Order) (r amount : Nat)
    (k : WaitKind) : Prop where
  head : s.headReady = false → t.headReady = true → t.Flagged .payout .orderReady
  short : t.shortCause = t.shortNow ∧ (t.shortCause ≠ s.shortCause → t.Flagged .payout .floatOut)
  docket : t.docket? d.number = some { d with
    state := .paid
    order := some { state := .paid, dispensed := some amount,
                    late := o.late || o.state = .suspense,
                    mismatch := o.mismatch || amount ≠ s.payoutOf d.number } }
  others : SameOtherDockets s t d.number
  finished : t.finished = s.finished ++ [d.number] ∧ t.Flagged .office .finished
  queue : t.orderQueue = s.orderQueue.filter (· ≠ d.number)
  timer : t.dispenseTimer = if o.state = .dispensing then none else s.dispenseTimer
  float : t.float = s.float - amount ∧ FloatLowFollows s t
  faults : t.faults = s.faultsPaid (s.payoutOf d.number) amount ∧ LockoutFollows s t ∧
    (t.faults ≠ s.faults → t.hasEntry .fault = true ∧ t.Flagged .office .fault)
  record : t.settlements = tableDel s.settlements r ∧ t.accounts = s.accounts ∧
    t.hasEntry (.settlement r) = true ∧ t.hasEntry .float = true ∧ t.WaitsFor (.settlement r) k
  behind : s.hasEntry .float = false →
    ∃ a b, t.commitQueue.map (·.record) = a ++ .settlement r :: b ++ [.float]
  port : (t.ports.get p).phase = .executing ∧ (t.ports.get p).result = [] ∧ SameOtherPhases s t p
  kept : SameClock s t ∧ SameLanes s t ∧ t.nextNumber = s.nextNumber ∧ t.openDocket = s.openDocket ∧
    t.grace = s.grace ∧ t.emptyCause = s.emptyCause ∧ QueueKept s t ∧ t.settings = s.settings

/-- The order of a docket has gone back to READY at the head of the queue, its marker OWED and its
settlement record queued (R43, R44, R54): `t` is the state after. -/
structure State.Returned (s t : State) (num r : Nat) : Prop where
  order : t.docket? num =
    (s.docket? num).map fun d => { d with order := d.order.map fun o => { o with state := .ready } }
  others : SameOtherDockets s t num
  queue : t.orderQueue = num :: s.orderQueue.filter (· ≠ num)
  record : tableGet t.settlements r =
      (tableGet s.settlements r).map (fun x => { x with marker := .owed }) ∧
    (∀ k, k ≠ r → tableGet t.settlements k = tableGet s.settlements k) ∧
    t.hasEntry (.settlement r) = true
  ready : s.headReady = false → t.Flagged .payout .orderReady

/-- The port on which a waiter's command waits. -/
def WaitKind.port : WaitKind → Option Port
  | .order _ => none
  | .take _ | .confirm _ _ _ => some .payout
  | .resolve _ _ | .loadFloat _ | .accountEdit _ | .storeSettings => some .office

/-- The result of a waiting command at the end of its program (Table 4-3, R42, R43, R51, R53, R56, R75
to R77, R83). -/
def State.waiterResult (s : State) (k : WaitKind) (ok : Bool) : List Byte :=
  match k with
  | .order _ => []
  | .take num =>
    if ok then
      [0x30, 0, 9, 0] ++ be 2 num ++ be 3 (((s.docket? num).map (·.haulier)).getD 0) ++
        be 1 (((s.docket? num).map fun d => laneIndex d.lane).getD 0) ++ be 3 (s.payoutOf num)
    else [0x30, 0x28, 2, 0] ++ be 2 num
  | .confirm num late float =>
    [0x31, (if late then 2 else 0) + (if ok then 0 else 1), 6, 0] ++ be 2 num ++ be 4 float
  | .resolve num float => [0x32, if ok then 2 else 3, 6, 0] ++ be 2 num ++ be 4 float
  | .loadFloat float => [0x34, if ok then 0 else 1, 4, 0] ++ be 4 float
  | .accountEdit c => [c.byte, if ok then 0 else 0x28, 0, 0]
  | .storeSettings => [0x53, if ok then 0 else 0x28, 0, 0]

/-- An office edit of account record `n` by command `c` has been taken, whatever the account became:
`t` is the state after (R67, R70, R75 to R77). -/
structure State.Edited (s t : State) (n : Nat) (c : CommandCode) : Prop where
  others : ∀ k, k ≠ n → tableGet t.accounts k = tableGet s.accounts k
  queued : t.hasEntry (.account n) = true
  waits : t.WaitsFor (.account n) (.accountEdit c)
  port : (t.ports.get .office).phase = .executing
  flags : (t.ports.get .office).flags = (s.ports.get .office).flags
  kept : SameOtherPorts s t .office ∧ QueueKept s t ∧ SameClock s t ∧ SameLanes s t ∧
    SameDockets s t ∧ SameOrders s t ∧ SameFloat s t ∧ t.settlements = s.settlements ∧
    SameFaults s t ∧ t.settings = s.settings

/-- What a settings command leaves beside the settings, the float conditions, the ports and the
lines. -/
abbrev State.ButSettings (s t : State) : Prop :=
  SameClock s t ∧ SameLanes s t ∧ SameDockets s t ∧ SameOrders s t ∧ SameRecords s t ∧
  SameFaults s t ∧ SameStore s t

/-- The fault record or its mask has changed by an office command, and nothing else but what follows
from it (R165, R167, R169): `s` is the state before. -/
abbrev State.FaultsChanged (t s : State) : Prop :=
  LockoutFollows s t ∧ t.hasEntry .fault = true ∧ QueueKept s t ∧ SameOtherPhases s t .office ∧
  SameClock s t ∧ SameLanes s t ∧ SameDockets s t ∧ SameOrders s t ∧ SameFloat s t ∧ SameRecords s t

/-! ### What the lane and link events leave -/

/-- Detectors that differ at most in the targets sent, which a turn that begins sets (R132). -/
abbrev SameButTargets (a b : Detector) : Prop :=
  { a with targetsSent := none } = { b with targetsSent := none }

/-- A lane above the rotation position (R147). -/
abbrev State.Above (s : State) (l : Lane) : Prop :=
  (s.rotation.any fun r => laneIndex r < laneIndex l) = true

/-- The lane that R147 gives the next turn: the lowest enabled lane above the rotation position, or, with
none above it, the lowest enabled lane. -/
abbrev State.NextInRotation (s : State) (m : Lane) : Prop :=
  s.enabled m = true ∧ ∀ l, s.enabled l = true →
    (s.Above m → s.Above l → laneIndex m ≤ laneIndex l) ∧
    (¬ s.Above m → ¬ s.Above l ∧ laneIndex m ≤ laneIndex l)

/-- A turn has just begun: its kind, rate and call are fixed by the state and the settings as they
stand, and a TUNE call's targets are the targets sent (R132, R142, R143, R145, R148). -/
abbrev State.Begun (t : State) (x : Turn) : Prop :=
  x.phase = .watching ∧ x.stale = false ∧ x.bitRate = t.settings.bitRate ∧ t.rotation = some x.lane ∧
  x.call = callBytes x.kind x.lane x.bitRate (t.settings.lanes.get x.lane).targets ∧
  (x.kind = .config ↔ (t.detectors.get x.lane).state = .configuring) ∧
  (x.kind = .tune ↔
    (t.detectors.get x.lane).state = .tuning ∧ (t.detectors.get x.lane).tuneAck = false) ∧
  (x.kind = .tune →
    (t.detectors.get x.lane).targetsSent = some (t.settings.lanes.get x.lane).targets)

/-- What a lane command leaves beside the lanes and the settings. -/
abbrev State.ButLanes (s t : State) : Prop :=
  SameOtherPorts s t .lane ∧ SameClock s t ∧ SameDockets s t ∧ SameOrders s t ∧ SameFloat s t ∧
  SameRecords s t ∧ SameFaults s t ∧ SameStore s t

/-- A lane without an open docket has left its state by a command: a pass resolved UNRESOLVED with the
cause given into the stray tally, and the measurements and the jam flag are gone (R107). -/
abbrev State.LeftToStray (s t : State) (n : Lane) (c : Cause) : Prop :=
  (t.detectors.get n).pass = {} ∧ (t.detectors.get n).jam = false ∧
  (t.detectors.get n).freeze = none ∧ (t.detectors.get n).baseline = (s.detectors.get n).baseline ∧
  (t.detectors.get n).filtered = (s.detectors.get n).filtered ∧
  (∀ m, m ≠ n → t.detectors.get m = s.detectors.get m) ∧
  ((s.detectors.get n).state = .present →
    t.strays = s.strays.set n ((s.strays.get n).count .unresolved) ∧ t.Flagged .lane .stray ∧
    (t.detectors.get n).lastOutcome = some ⟨.unresolved, c, (s.detectors.get n).pass.channel,
      (s.detectors.get n).pass.peakInd, (s.detectors.get n).pass.peakCap,
      (s.detectors.get n).pass.dwell, none, s.yardTime⟩) ∧
  ((s.detectors.get n).state ≠ .present →
    t.strays = s.strays ∧ (t.detectors.get n).lastOutcome = (s.detectors.get n).lastOutcome)

/-- The end of a turn of lane `n` does not take the lane to OFF: the lane is enabled, or in OFF since the
drain of SOFT_RESET ended (R111, log entry 6). -/
abbrev State.StaysAtTurnEnd (s : State) (n : Lane) : Prop :=
  s.enabled n = true ∨ ((s.detectors.get n).state = .off ∧ s.mode ≠ .running)

/-- The next turn after a turn of an enabled lane: it begins at once for the lane of R147 in service, and
no turn begins while the part drains (R147, R160). -/
abbrev State.TurnFollows (s t : State) : Prop :=
  (s.mode = .running → ∃ x, t.turn = some x ∧ t.Begun x ∧ s.NextInRotation x.lane) ∧
  (s.mode ≠ .running → t.turn = none)

/-- What the end of a turn of lane `n` leaves of the rest of the part (R155): of the dockets only the
lane's own may have changed, and where the lane keeps its open docket no closing has completed, so the
finished list, the orders, the accounts and the settlement records are as they were. -/
abbrev State.TurnKept (s t : State) (n : Lane) : Prop :=
  (∀ m, m ≠ n → SameButTargets (s.detectors.get m) (t.detectors.get m) ∧
    t.links.get m = s.links.get m ∧ t.strays.get m = s.strays.get m ∧
    t.openDocket.get m = s.openDocket.get m ∧ t.grace.get m = s.grace.get m) ∧
  (∀ num, s.openDocket.get n ≠ some num → t.docket? num = s.docket? num) ∧
  (t.openDocket.get n = s.openDocket.get n → t.grace.get n = s.grace.get n ∧
    t.finished = s.finished ∧ t.orderQueue = s.orderQueue ∧ SameRecords s t) ∧
  SameClock s t ∧ SamePhases s t ∧ t.nextNumber = s.nextNumber ∧ t.dispenseTimer = s.dispenseTimer ∧
  t.float = s.float ∧ t.floatLow = s.floatLow ∧ t.emptyCause = s.emptyCause ∧ RequestsKept s t ∧
  t.settings = s.settings

/-- Nothing was booked on lane `n` and no closing completed: its stray tally, its last outcome record
and every docket are as they were. -/
abbrev State.NothingBooked (s t : State) (n : Lane) : Prop :=
  t.strays.get n = s.strays.get n ∧
  (t.detectors.get n).lastOutcome = (s.detectors.get n).lastOutcome ∧
  (∀ num, t.docket? num = s.docket? num) ∧ t.openDocket = s.openDocket ∧ t.grace = s.grace

/-- Closing of docket `d` of lane `n` has completed with tallies `tl`, with reason NORMAL, at an event
that may record a fault of its own besides (R16, R17, R155). -/
abbrev State.ClosedBesides (s t : State) (n : Lane) (d : Docket) (tl : Tallies) : Prop :=
  ∀ c, d.closedAt = some c → (d.haulier = 0 ∨ (s.account? d.haulier).isSome = true) →
    State.Closed { s with faults := t.faults, lockout := t.lockout } t n d tl c .normal

/-- Outcome `o` of a pass of lane `n` has gone to the lane's docket where it has one that takes it, and
to its stray tally otherwise, and a CLOSING docket that waited has completed its closing (R7, R8, R16,
R121, R122): `t` is the state after, `b` what the outcome is booked to. -/
structure State.BookedTo (s t : State) (n : Lane) (o : PassOutcome) (b : Option Nat) : Prop where
  stray : s.laneDocket n = none → b = none ∧ t.strays.get n = (s.strays.get n).count o ∧
    t.Flagged .lane .stray ∧ (∀ num, t.docket? num = s.docket? num) ∧
    t.openDocket = s.openDocket ∧ t.grace = s.grace
  taken : ∀ d tl u, s.laneDocket n = some d → d.tallies = some tl → tl.take o = some u →
    b = some d.number ∧ t.strays.get n = s.strays.get n ∧
    (d.state = .open → t.docket? d.number = some { d with tallies := some u } ∧
      SameOtherDockets s t d.number ∧ t.openDocket = s.openDocket ∧ t.grace = s.grace) ∧
    (d.state = .closing → s.ClosedBesides t n d u)
  full : ∀ d tl, s.laneDocket n = some d → d.tallies = some tl → tl.take o = none →
    b = none ∧ t.strays.get n = (s.strays.get n).count o ∧ t.Flagged .lane .stray ∧
    (d.state = .open → (∀ num, t.docket? num = s.docket? num) ∧ t.openDocket = s.openDocket ∧
      t.grace = s.grace) ∧
    (d.state = .closing → s.ClosedBesides t n d tl)

/-- The last outcome record of a pass with measurements `q` that has resolved (R103). -/
abbrev Pass.outcomeAt (q : Pass) (o : PassOutcome) (c : Cause) (b : Option Nat) (now : Nat) :
    OutcomeRecord :=
  ⟨o, c, q.channel, q.peakInd, q.peakCap, q.dwell, b, now⟩

/-- A pass of lane `n` with measurements `q` has resolved with outcome `o` and cause `c` (R102, R103):
`t` is the state after. -/
abbrev State.Resolved (s t : State) (n : Lane) (q : Pass) (o : PassOutcome) (c : Cause) : Prop :=
  ∃ b, (t.detectors.get n).lastOutcome = some (q.outcomeAt o c b s.yardTime) ∧ s.BookedTo t n o b

/-- An entry of lane `n` has ended without an outcome: no tally changes, and a CLOSING docket that waited
on it has completed its closing (R17, R93). -/
abbrev State.Discarded (s t : State) (n : Lane) : Prop :=
  t.strays.get n = s.strays.get n ∧
  (t.detectors.get n).lastOutcome = (s.detectors.get n).lastOutcome ∧
  ((∀ d, s.laneDocket n = some d → d.state ≠ .closing) → s.NothingBooked t n) ∧
  ∀ d tl, s.laneDocket n = some d → d.state = .closing → d.tallies = some tl →
    s.ClosedBesides t n d tl

/-- What an event that takes a lane out of the counting states ends: a pass resolves UNRESOLVED, an
entry is discarded, and GAP, IDLE and the states that do not count end with nothing (R107). -/
abbrev State.PassEnded (s t : State) (n : Lane) (c : Cause) : Prop :=
  ((s.detectors.get n).state = .present →
    s.Resolved t n (s.detectors.get n).pass .unresolved c) ∧
  ((s.detectors.get n).state = .entering → s.Discarded t n) ∧
  ((s.detectors.get n).state ≠ .present → (s.detectors.get n).state ≠ .entering →
    s.NothingBooked t n)

/-- The Docket Table has done its part for what a sample brought (R16, R17, R93, R102). -/
abbrev State.Heard (s t : State) (n : Lane) (e : SampleEvent) : Prop :=
  (e = .nothing → s.NothingBooked t n) ∧ (e = .discarded → s.Discarded t n) ∧
  ∀ c q, e = .resolved c q →
    s.Resolved t n q (classMatch s.settings.classes.toList q.peakInd q.peakCap) c

/-- Drift: a baseline of IND or CAP further from its target than the retune band (R138). -/
abbrev Drifts (cfg : LaneSettings) (base : PerChan Nat) : Prop :=
  cfg.retuneBand < (((base.ind / 16 : Nat) : Int) - (cfg.targets.ind : Int)).natAbs ∨
  cfg.retuneBand < (((base.cap / 16 : Nat) : Int) - (cfg.targets.cap : Int)).natAbs

/-- The split test: split enabled, the snapshot taken at an earlier sample, and the average above the
filtered count by more than θ (R99). -/
abbrev SplitHolds (cfg : LaneSettings) (d : Detector) (average f : Nat) : Prop :=
  cfg.splitEnable = true ∧ d.pass.snapshot.isSome = true ∧
  ∃ theta, d.pass.theta = some theta ∧ f + theta < average

/-- A detector with the last outcome record of another, which what the sample brought decides. -/
abbrev Detector.withOutcomeOf (d e : Detector) : Detector := { d with lastOutcome := e.lastOutcome }

/-- A sample with counts `raw`, fresh or held, has been processed on lane `n` in a counting state (R90,
R97, R104, R138, R139): the detector is what the four stages leave, `r`, and a sample that leaves the
lane in IDLE is checked for drift once its outcome is booked. -/
structure State.Processed (s t : State) (n : Lane) (raw : PerChan Nat) (r : Sampled) : Prop where
  stages : r = detect (s.settings.lanes.get n) { s.detectors.get n with lastRaw := raw } raw
  heard : s.Heard t n r.event
  jam : r.jam = true → t.Flagged .lane .jam
  busy : r.detector.state ≠ .idle →
    SameButTargets (r.detector.withOutcomeOf (t.detectors.get n)) (t.detectors.get n)
  steady : r.detector.state = .idle → ¬ Drifts (s.settings.lanes.get n) r.detector.baseline →
    SameButTargets { r.detector.withOutcomeOf (t.detectors.get n) with driftMark := false }
      (t.detectors.get n)
  retunes : r.detector.state = .idle → Drifts (s.settings.lanes.get n) r.detector.baseline →
    t.openDocket.get n = none →
    SameButTargets { r.detector.withOutcomeOf (t.detectors.get n) with
      state := .tuning, pass := {}, jam := false, freeze := none, freshRun := 0, settleCount := 0
      tuneAck := false, tuneCount := 0, tuneFailure := none, driftMark := false } (t.detectors.get n) ∧
    t.Flagged .lane .laneState
  defers : r.detector.state = .idle → Drifts (s.settings.lanes.get n) r.detector.baseline →
    t.openDocket.get n ≠ none →
    SameButTargets { r.detector.withOutcomeOf (t.detectors.get n) with driftMark := true }
      (t.detectors.get n) ∧
    ((s.detectors.get n).driftMark = false → t.Flagged .lane .drift)

/-- Turn `x` of an enabled lane has ended with miss `k`: `t` is the state after (R89, R104 to R107,
R134, R154 to R156, R158). -/
structure State.Missed (s t : State) (x : Turn) (k : MissKind) : Prop where
  stats : (t.links.get x.lane).stats = (s.links.get x.lane).stats.raiseMiss k
  runs : (t.links.get x.lane).silentRun = min 1020 ((s.links.get x.lane).silentRun + 1) ∧
    (t.links.get x.lane).missRun = min 255 ((s.links.get x.lane).missRun + 1) ∧
    (t.links.get x.lane).lastSeq = (s.links.get x.lane).lastSeq
  opens : (s.links.get x.lane).silentOpen = false →
    s.settings.silentLimit ≤ min 1020 ((s.links.get x.lane).silentRun + 1) →
    (t.links.get x.lane).silentOpen = true ∧
    t.faults = ({ s.faults with silentLanes := s.faults.silentLanes.set x.lane true }).set .gateSilent
      ((s.faults.get .gateSilent).occur s.yardTime) ∧
    t.hasEntry .fault = true ∧ t.Flagged .office .fault
  stays : ((s.links.get x.lane).silentOpen = true ∨
      min 1020 ((s.links.get x.lane).silentRun + 1) < s.settings.silentLimit) →
    (t.links.get x.lane).silentOpen = (s.links.get x.lane).silentOpen ∧ SameFaults s t
  lost : x.stale = false → (s.detectors.get x.lane).state.counting = true →
    (s.settings.lanes.get x.lane).holdLimit < min 255 ((s.links.get x.lane).missRun + 1) →
    (t.detectors.get x.lane).state = .lost ∧ (t.detectors.get x.lane).freshRun = 0 ∧
    (t.detectors.get x.lane).pass = {} ∧ (t.detectors.get x.lane).freeze = none ∧
    (t.detectors.get x.lane).jam = false ∧
    (t.detectors.get x.lane).baseline = (s.detectors.get x.lane).baseline ∧
    t.Flagged .lane .laneState ∧ s.PassEnded t x.lane .lost
  held : x.stale = false → (s.detectors.get x.lane).state.counting = true →
    min 255 ((s.links.get x.lane).missRun + 1) ≤ (s.settings.lanes.get x.lane).holdLimit →
    (t.detectors.get x.lane).filtered = filterCounts (s.settings.lanes.get x.lane).alpha
      (s.detectors.get x.lane).filtered (s.detectors.get x.lane).lastRaw ∧
    (t.detectors.get x.lane).lastRaw = (s.detectors.get x.lane).lastRaw ∧
    ∃ r, s.Processed t x.lane (s.detectors.get x.lane).lastRaw r
  breaks : x.stale = false → (s.detectors.get x.lane).state = .lost →
    SameButTargets { s.detectors.get x.lane with freshRun := 0 } (t.detectors.get x.lane)
  tuning : x.stale = false → (s.detectors.get x.lane).state = .tuning →
    (s.detectors.get x.lane).tuneAck = true →
    (t.detectors.get x.lane).tuneCount = min 255 ((s.detectors.get x.lane).tuneCount + 1) ∧
    ((t.detectors.get x.lane).state = .tuneFailed ↔ 254 ≤ (s.detectors.get x.lane).tuneCount)
  nothing : (x.stale = true ∨ (s.detectors.get x.lane).state = .configuring ∨
      (s.detectors.get x.lane).state = .tuneFailed ∨ (s.detectors.get x.lane).state = .settling ∨
      ((s.detectors.get x.lane).state = .tuning ∧ (s.detectors.get x.lane).tuneAck = false)) →
    SameButTargets (s.detectors.get x.lane) (t.detectors.get x.lane)
  idle : x.stale = true ∨ (s.detectors.get x.lane).state.counting = false → s.NothingBooked t x.lane
  next : s.TurnFollows t
  kept : s.TurnKept t x.lane

/-- Turn `x` of an enabled lane has ended with an accepted answer: `t` is the state after (R106, R107,
R131, R133, R135, R137, R149, R152, R153, R157). -/
structure State.Answered (s t : State) (x : Turn) (st : AnswerStatus) (seq : Nat)
    (counts : PerChan Nat) : Prop where
  silence : (t.links.get x.lane).silentRun = 0 ∧ (t.links.get x.lane).silentOpen = false ∧
    SameFaults s t
  fresh : st = .fresh → (t.links.get x.lane).missRun = 0 ∧ (t.links.get x.lane).lastSeq = none ∧
    (t.links.get x.lane).stats.fresh = min 255 ((s.links.get x.lane).stats.fresh + 1) ∧
    ((s.detectors.get x.lane).state ≠ .off → (t.detectors.get x.lane).state = .configuring ∧
      SameButTargets { (s.detectors.get x.lane).withOutcomeOf (t.detectors.get x.lane) with
        state := .configuring, pass := {}, jam := false, freeze := none, freshRun := 0
        settleCount := 0, tuneAck := false, tuneCount := 0, tuneFailure := none, driftMark := false }
        (t.detectors.get x.lane) ∧
      ((s.detectors.get x.lane).state ≠ .configuring → t.Flagged .lane .laneState) ∧
      s.PassEnded t x.lane .restart) ∧
    ((s.detectors.get x.lane).state = .off → s.NothingBooked t x.lane ∧
      SameButTargets (s.detectors.get x.lane) (t.detectors.get x.lane))
  sample : st = .ready → x.stale = false → x.kind = .sample →
    (s.links.get x.lane).lastSeq ≠ some seq →
    (s.detectors.get x.lane).state.counting = true ∨ (s.detectors.get x.lane).state = .settling ∨
      (s.detectors.get x.lane).state = .lost →
    (t.links.get x.lane).missRun = 0 ∧ (t.links.get x.lane).lastSeq = some seq ∧
    (t.links.get x.lane).stats = (s.links.get x.lane).stats ∧
    (t.detectors.get x.lane).lastRaw = counts ∧
    (t.detectors.get x.lane).filtered = filterCounts (s.settings.lanes.get x.lane).alpha
      (s.detectors.get x.lane).filtered counts
  counted : st = .ready → x.stale = false → x.kind = .sample →
    (s.links.get x.lane).lastSeq ≠ some seq → (s.detectors.get x.lane).state.counting = true →
    ∃ r, s.Processed t x.lane counts r
  settles : st = .ready → x.stale = false → x.kind = .sample →
    (s.links.get x.lane).lastSeq ≠ some seq → (s.detectors.get x.lane).state = .settling →
    ∃ f, f = filterCounts (s.settings.lanes.get x.lane).alpha (s.detectors.get x.lane).filtered
        counts ∧
      SameButTargets { s.detectors.get x.lane with
        lastRaw := counts, filtered := f
        baseline := ⟨stepBaseline (s.settings.lanes.get x.lane) (s.detectors.get x.lane).baseline.ind
            f.ind,
          stepBaseline (s.settings.lanes.get x.lane) (s.detectors.get x.lane).baseline.cap f.cap,
          stepBaseline (s.settings.lanes.get x.lane) (s.detectors.get x.lane).baseline.ref f.ref⟩
        state := (t.detectors.get x.lane).state
        settleCount := (t.detectors.get x.lane).settleCount } (t.detectors.get x.lane) ∧
      ((s.detectors.get x.lane).settleCount + 1 < (s.settings.lanes.get x.lane).settleSamples →
        (t.detectors.get x.lane).state = .settling ∧
        (t.detectors.get x.lane).settleCount = (s.detectors.get x.lane).settleCount + 1) ∧
      ((s.settings.lanes.get x.lane).settleSamples ≤ (s.detectors.get x.lane).settleCount + 1 →
        (t.detectors.get x.lane).state = .idle ∧ (t.detectors.get x.lane).settleCount = 0 ∧
        t.Flagged .lane .laneState)
  recovers : st = .ready → x.stale = false → x.kind = .sample →
    (s.links.get x.lane).lastSeq ≠ some seq → (s.detectors.get x.lane).state = .lost →
    ∃ f, f = filterCounts (s.settings.lanes.get x.lane).alpha (s.detectors.get x.lane).filtered
        counts ∧
      ((s.detectors.get x.lane).freshRun + 1 < (s.settings.lanes.get x.lane).recovery →
        SameButTargets { s.detectors.get x.lane with
          lastRaw := counts, filtered := f
          freshRun := (s.detectors.get x.lane).freshRun + 1 } (t.detectors.get x.lane)) ∧
      ((s.settings.lanes.get x.lane).recovery ≤ (s.detectors.get x.lane).freshRun + 1 →
        SameButTargets { s.detectors.get x.lane with
          lastRaw := counts, filtered := f, state := .settling, freshRun := 0, settleCount := 0
          baseline := f.map (16 * ·) } (t.detectors.get x.lane) ∧ t.Flagged .lane .laneState)
  unbooked : st ≠ .fresh → (s.detectors.get x.lane).state.counting = false ∨ x.kind ≠ .sample →
    s.NothingBooked t x.lane
  noSample : x.stale = false → x.kind = .sample →
    (s.detectors.get x.lane).state ≠ .tuning →
    (st = .ready ∧ (s.links.get x.lane).lastSeq = some seq ∨ st = .notReady ∨ st = .tuning ∨
      st = .tuned) →
    s.NothingBooked t x.lane ∧
    SameButTargets (s.detectors.get x.lane) (t.detectors.get x.lane) ∧
    (t.links.get x.lane).missRun = (s.links.get x.lane).missRun ∧
    (t.links.get x.lane).lastSeq = (s.links.get x.lane).lastSeq ∧
    (t.links.get x.lane).stats = (if st = .ready
      then { (s.links.get x.lane).stats with stale := min 255 ((s.links.get x.lane).stats.stale + 1) }
      else { (s.links.get x.lane).stats with
        notReady := min 255 ((s.links.get x.lane).stats.notReady + 1) })
  config : x.stale = false → x.kind = .config → st ≠ .fresh →
    (s.detectors.get x.lane).state = .configuring →
    (t.detectors.get x.lane).state = .tuning ∧ (t.detectors.get x.lane).tuneAck = false ∧
    (t.detectors.get x.lane).tuneCount = 0 ∧ t.Flagged .lane .laneState
  acknowledged : x.stale = false → x.kind = .tune → st = .tuning →
    (s.detectors.get x.lane).state = .tuning →
    (t.detectors.get x.lane).state = .tuning ∧ (t.detectors.get x.lane).tuneAck = true ∧
    (t.detectors.get x.lane).tuneCount = 0
  trims : x.stale = false → (s.detectors.get x.lane).state = .tuning →
    (x.kind = .sample ∧ (s.detectors.get x.lane).tuneAck = true ∧ st ≠ .tuned ∧ st ≠ .fresh) ∨
      (x.kind = .tune ∧ st ≠ .tuning ∧ st ≠ .fresh) →
    (t.detectors.get x.lane).tuneCount = min 255 ((s.detectors.get x.lane).tuneCount + 1) ∧
    ((t.detectors.get x.lane).state = .tuneFailed ↔ 254 ≤ (s.detectors.get x.lane).tuneCount)
  band : x.stale = false → x.kind = .sample → (s.detectors.get x.lane).state = .tuning →
    (s.detectors.get x.lane).tuneAck = true → st = .tuned → ∀ sent,
    (s.detectors.get x.lane).targetsSent = some sent →
    (t.links.get x.lane).lastSeq = some seq ∧
    ((∀ c, inBand (sent.get c) (s.settings.lanes.get x.lane).tuneBand (counts.get c) = true) →
      (t.detectors.get x.lane).state = .settling ∧ (t.detectors.get x.lane).settleCount = 0 ∧
      (t.detectors.get x.lane).baseline = counts.map (16 * ·) ∧
      (t.detectors.get x.lane).filtered = counts ∧ (t.detectors.get x.lane).lastRaw = counts) ∧
    ((∃ c, inBand (sent.get c) (s.settings.lanes.get x.lane).tuneBand (counts.get c) = false) →
      (t.detectors.get x.lane).state = .tuneFailed ∧ t.Flagged .lane .tuneError ∧
      (t.detectors.get x.lane).baseline = (s.detectors.get x.lane).baseline ∧
      ∃ failed : PerChan Bool, (t.detectors.get x.lane).tuneFailure = some ⟨.band, failed⟩ ∧
        ∀ c, failed.get c =
          !inBand (sent.get c) (s.settings.lanes.get x.lane).tuneBand (counts.get c))
  stale : x.stale = true → st ≠ .fresh → s.NothingBooked t x.lane ∧
    SameButTargets (s.detectors.get x.lane) (t.detectors.get x.lane) ∧
    (t.links.get x.lane).missRun = (s.links.get x.lane).missRun ∧
    (t.links.get x.lane).lastSeq = (s.links.get x.lane).lastSeq
  next : s.TurnFollows t
  kept : s.TurnKept t x.lane

/-! ### The end of a turn during which the lane's enable went off (R111) -/

/-- The next turn after a turn of a lane that is not enabled: for the lane of R147 where any is enabled,
and otherwise the link is idle (R147, R160). -/
abbrev State.TurnFollowsOff (s t : State) : Prop :=
  (s.mode = .running → (∃ m, s.enabled m = true) →
    ∃ y, t.turn = some y ∧ t.Begun y ∧ s.NextInRotation y.lane) ∧
  (s.mode ≠ .running ∨ (∀ m, s.enabled m = false) → t.turn = none ∧ t.rotation = s.rotation)

/-- The end of a turn of lane `n` takes it to OFF: its enable went off during the turn, which an open
docket rules out (R110, R111). -/
abbrev State.EndsInOff (s : State) (n : Lane) : Prop :=
  s.enabled n = false ∧ (s.detectors.get n).state ≠ .off ∧ s.openDocket.get n = none

/-- Turn `x` of a lane without an open docket, whose enable went off during it, has ended: the delivery
came first, with the statistics and the silent run, and the lane is in OFF (R107, R110, R111, R152,
R154, R155): `t` is the state after. -/
structure State.TurnedOff (s t : State) (x : Turn) (v : Verdict) : Prop where
  off : (t.detectors.get x.lane).state = .off ∧ (t.detectors.get x.lane).pass = {} ∧
    (t.detectors.get x.lane).jam = false ∧ (t.detectors.get x.lane).freeze = none ∧
    (t.detectors.get x.lane).freshRun = 0 ∧ (t.detectors.get x.lane).settleCount = 0 ∧
    (t.detectors.get x.lane).driftMark = false ∧ t.Flagged .lane .laneState
  link : (t.links.get x.lane).missRun = 0 ∧ (t.links.get x.lane).silentRun = 0 ∧
    (t.links.get x.lane).silentOpen = false ∧ (t.links.get x.lane).lastSeq = none
  missed : ∀ k, v = .miss k →
    (t.links.get x.lane).stats = (s.links.get x.lane).stats.raiseMiss k ∧
    ((s.links.get x.lane).silentOpen = false →
      s.settings.silentLimit ≤ min 1020 ((s.links.get x.lane).silentRun + 1) →
      t.faults = ({ s.faults with silentLanes := s.faults.silentLanes.set x.lane true }).set
        .gateSilent ((s.faults.get .gateSilent).occur s.yardTime) ∧
      t.hasEntry .fault = true ∧ t.Flagged .office .fault) ∧
    ((s.links.get x.lane).silentOpen = true ∨
        min 1020 ((s.links.get x.lane).silentRun + 1) < s.settings.silentLimit → SameFaults s t)
  answered : ∀ st seq counts, v = .accepted st seq counts → SameFaults s t
  /-- A delivery that processes no sample and restarts nothing: the pass it left ends with DISABLE. -/
  plain : (∃ k, v = .miss k ∧ (x.stale = true ∨
        (s.detectors.get x.lane).state.counting = false)) ∨
      (∃ st seq counts, v = .accepted st seq counts ∧ st ≠ .fresh ∧
        (x.stale = true ∨ x.kind ≠ .sample ∨ st ≠ .ready ∨
          (s.links.get x.lane).lastSeq = some seq ∨ (s.detectors.get x.lane).state.counting = false)) →
    s.PassEnded t x.lane .disable
  /-- A miss past the hold limit took the lane to LOST first. -/
  lost : (∃ k, v = .miss k) → x.stale = false → (s.detectors.get x.lane).state.counting = true →
    (s.settings.lanes.get x.lane).holdLimit < min 255 ((s.links.get x.lane).missRun + 1) →
    s.PassEnded t x.lane .lost
  /-- A FRESH answer took the lane to CONFIGURING first. -/
  fresh : (∃ seq counts, v = .accepted .fresh seq counts) → s.PassEnded t x.lane .restart
  /-- A sample, held or fresh, was processed first: what it brought went to stray, and a pass that it
  left in progress after it. -/
  sampled : ∀ raw,
    ((∃ k, v = .miss k) ∧ raw = (s.detectors.get x.lane).lastRaw ∧
      min 255 ((s.links.get x.lane).missRun + 1) ≤ (s.settings.lanes.get x.lane).holdLimit) ∨
      (∃ seq, v = .accepted .ready seq raw ∧ x.kind = .sample ∧
        (s.links.get x.lane).lastSeq ≠ some seq) →
    x.stale = false → (s.detectors.get x.lane).state.counting = true →
    ∃ r, r = detect (s.settings.lanes.get x.lane)
        { s.detectors.get x.lane with lastRaw := raw } raw ∧
      (t.detectors.get x.lane).filtered = r.detector.filtered ∧
      (r.jam = true → t.Flagged .lane .jam) ∧
      (∀ c q, r.event = .resolved c q → r.detector.state ≠ .present ∧
        s.Resolved t x.lane q (classMatch s.settings.classes.toList q.peakInd q.peakCap) c) ∧
      ((∀ c q, r.event ≠ .resolved c q) → r.detector.state = .present →
        s.Resolved t x.lane r.detector.pass .unresolved .disable) ∧
      ((∀ c q, r.event ≠ .resolved c q) → r.detector.state ≠ .present →
        s.NothingBooked t x.lane)
  next : s.TurnFollowsOff t
  kept : s.TurnKept t x.lane

/-! ### What the resets leave -/

/-- A haulier ID is borne by an account that a lower-numbered record gave (R190). -/
abbrev State.LoadedBelow (t : State) (n id : Nat) : Prop :=
  ∃ e ∈ t.accounts, e.1 < n ∧ e.2.haulier = id

/-- A docket number is that of a settlement record loaded from a lower-numbered record (R191). -/
abbrev State.RestoredBelow (t : State) (r num : Nat) : Prop :=
  ∃ e ∈ t.settlements, e.1 < r ∧ e.2.docket = num

/-- An account or settlement record was freed by the scan: no working copy, its empty record queued. -/
abbrev State.Freed {α : Type} (t : State) (r : RecordId) (w : Option α) : Prop :=
  w = none ∧ t.Queued r

/-- A record that fails its checksum (R62). -/
def Cell.isCorrupt {α : Type} : Cell α → Bool
  | .corrupt _ => true
  | .blank | .empty | .valid _ => false

/-- What a valid record holds, or what stands in its place. -/
def Cell.validOr {α : Type} (default : α) : Cell α → α
  | .valid a => a
  | .blank | .empty | .corrupt _ => default

/-- How many records the scan treated as corrupt: an account or settlement record is queued by the scan
for that alone (R190, R191). -/
def State.corruptCount (t : State) : Nat :=
  (if t.store.fault.isCorrupt then 1 else 0) + (if t.store.settings.isCorrupt then 1 else 0) +
  (if t.store.float.isCorrupt then 1 else 0) +
  ((List.range 256).filter fun n => decide (t.Queued (.account n))).length +
  ((List.range 16).filter fun r => decide (t.Queued (.settlement r))).length

/-- The scan of the store has been done, `kept` the float that SOFT_RESET keeps (R166, R190, R191, Table
11-2): `t` is the state after. -/
structure State.Scanned (t : State) (kept : Option Nat) : Prop where
  faults : t.faults = (t.store.fault.validOr {}).set .storeCorrupt
    ((fun e => e.occur t.yardTime)^[t.corruptCount] ((t.store.fault.validOr {}).get .storeCorrupt))
  recorded : t.hasEntry .fault = decide (0 < t.corruptCount) ∧
    (0 < t.corruptCount → t.Flagged .office .fault)
  settings : t.settings = t.store.settings.validOr {} ∧ t.hasEntry .settings = false ∧
    ((∀ g, t.store.settings ≠ .valid g) → t.Flagged .office .settingsDefault)
  float : t.float = kept.getD (t.store.float.validOr 0) ∧
    (t.hasEntry .float = true ↔ t.store.float.isCorrupt = true ∨
      kept.isSome = true ∧ ∀ v, t.store.float ≠ .valid v)
  account : ∀ n a, tableGet t.store.accounts n = some (.valid a) →
    (¬ t.LoadedBelow n a.haulier →
      tableGet t.accounts n = some a ∧ ¬ t.Queued (.account n)) ∧
    (t.LoadedBelow n a.haulier → t.Freed (.account n) (tableGet t.accounts n))
  corruptAccount : ∀ n id, tableGet t.store.accounts n = some (.corrupt id) →
    (1 ≤ id → id ≤ 16777215 → ¬ t.LoadedBelow n id →
      tableGet t.accounts n = some {
        haulier := id, status := .corrupt, carry := 0
        visits := 0, items := 0, amount := 0, lastSettled := none } ∧ t.Queued (.account n)) ∧
    (id = 0 ∨ 16777215 < id ∨ t.LoadedBelow n id →
      t.Freed (.account n) (tableGet t.accounts n))
  emptyAccount : ∀ n < 256, tableGet t.store.accounts n = none ∨
      tableGet t.store.accounts n = some .empty →
    tableGet t.accounts n = none ∧ ¬ t.Queued (.account n)
  settlement : ∀ r x, tableGet t.store.settlements r = some (.valid x) →
    (¬ t.RestoredBelow r x.docket →
      tableGet t.settlements r = some x ∧ t.hasEntry (.settlement r) = false ∧
      t.docket? x.docket = some x.restore ∧
      (x.marker = .dispensing → t.Flagged .payout .suspense ∧ t.Flagged .office .suspense)) ∧
    (t.RestoredBelow r x.docket → t.Freed (.settlement r) (tableGet t.settlements r))
  corruptSettlement : ∀ r id, tableGet t.store.settlements r = some (.corrupt id) →
    t.Freed (.settlement r) (tableGet t.settlements r)
  emptySettlement : ∀ r < 16, tableGet t.store.settlements r = none ∨
      tableGet t.store.settlements r = some .empty →
    tableGet t.settlements r = none ∧ t.hasEntry (.settlement r) = false
  dockets : ∀ d ∈ t.dockets, ∃ e ∈ t.settlements, d = e.2.restore

/-- What a program cut off leaves of the store: the store as it was, its record with the old contents, or
that record corrupt (R62, R73), and its image never (R44, R45, R51, R54). -/
abbrev State.CutOff (s t : State) : Prop :=
  (s.program = none → t.store = s.store) ∧
  ∀ g, s.program = some g → t.store = s.store ∨ ∃ idField, t.store = s.store.corrupt g.record idField

/-- STARTING has begun at power-on reset or at the release of RESET_N, with the store scanned: `t` is the
state after (R55, R174, R181, R188, R189). -/
structure State.PoweredUp (s t : State) : Prop where
  starting : t.mode = .scanning ∧ t.yardTime = 0 ∧ t.subSecond = 0 ∧ t.program = none ∧
    t.turn = none ∧ t.rotation = none ∧ t.waiters = []
  lanes : t.detectors = .all {} ∧ t.links = .all {} ∧ t.strays = .all {}
  dockets : t.finished = [] ∧ t.openDocket = .all none ∧ t.grace = .all none ∧ t.orderQueue = [] ∧
    t.dispenseTimer = none ∧ t.handedBack = none ∧
    ∀ d ∈ t.dockets, d.restored = true ∧ d.state = .awaitingPayout ∧ d.tallies = none
  ports : ∀ p, (t.ports.get p).phase = .starting ∧ (t.ports.get p).result = [] ∧
    (t.ports.get p).hold = none ∧ t.Flagged p .reset
  lines : t.pins = { lstop := .all true, lockout := true, attn := .all false, glDe := false }
  conditions : t.lockout = false ∧ t.floatLow = false ∧ t.shortCause = false ∧ t.emptyCause = false
  store : s.CutOff t
  float : t.float = t.store.float.validOr 0
  settings : t.settings = t.store.settings.validOr {}
  kept : t.pending = s.pending ∧ t.addrStrap = s.addrStrap ∧ t.resetLow = false ∧
    t.address = if s.addrStrap then 0x3D else 0x3C

/-- A power-on reset has come with RESET_N held low: everything but the store is discarded, yard time is 0,
and the part is held with its ports inactive and its lines at the levels of a RESET_N held low (R55, R109,
R160, R168, R174, R182, R188): `t` is the state after. -/
structure State.Held (s t : State) : Prop where
  held : t.mode = .resetHeld ∧ t.yardTime = 0 ∧ t.subSecond = 0 ∧ t.program = none ∧
    t.turn = none ∧ t.rotation = none ∧ t.waiters = [] ∧ t.commitQueue = [] ∧ t.held = []
  lanes : t.detectors = .all {} ∧ t.links = .all {} ∧ t.strays = .all {}
  dockets : t.dockets = [] ∧ t.finished = [] ∧ t.openDocket = .all none ∧ t.grace = .all none ∧
    t.orderQueue = [] ∧ t.dispenseTimer = none ∧ t.handedBack = none
  records : t.accounts = [] ∧ t.settlements = [] ∧ t.float = 0 ∧ t.faults = {} ∧ t.settings = {}
  ports : ∀ p, (t.ports.get p).phase = .starting ∧ (t.ports.get p).result = [] ∧
    (t.ports.get p).hold = none
  lines : t.pins = { lstop := .all true, lockout := true, attn := .all false, glDe := false }
  conditions : t.lockout = false ∧ t.floatLow = false ∧ t.shortCause = false ∧ t.emptyCause = false
  store : s.CutOff t
  kept : t.pending = s.pending ∧ t.addrStrap = s.addrStrap ∧ t.resetLow = true

/-- A store without a corrupt record, whose valid accounts bear distinct haulier IDs and whose valid
settlement records bear distinct docket numbers. -/
abbrev Store.Intact (m : Store) : Prop :=
  (∀ n c, tableGet m.accounts n = some c → ∀ i, c ≠ .corrupt i) ∧
  (∀ n c, tableGet m.settlements n = some c → ∀ i, c ≠ .corrupt i) ∧
  (∀ i, m.float ≠ .corrupt i) ∧ (∀ i, m.fault ≠ .corrupt i) ∧ (∀ i, m.settings ≠ .corrupt i) ∧
  (∀ n k a b, tableGet m.accounts n = some (.valid a) → tableGet m.accounts k = some (.valid b) →
    a.haulier = b.haulier → n = k) ∧
  ∀ n k a b, tableGet m.settlements n = some (.valid a) → tableGet m.settlements k = some (.valid b) →
    a.docket = b.docket → n = k

/-! ### Invariants -/

/-- Every line is at the level its rule gives (R109, R144, R168, R182). -/
abbrev State.PinsRuled (s : State) : Prop := s.pins = s.ruledPins

/-- A port's phase, result and hold timer go together; it is in STARTING exactly while the part is not
running (R176, R179, R189). -/
abbrev PortState.Fits (q : PortState) (running : Bool) : Prop :=
  (q.phase = .starting ↔ running = false) ∧ (q.hold.isSome = true ↔ q.phase = .result) ∧
  (q.result ≠ [] ↔ q.phase = .result)

abbrev State.PortsFit (s : State) : Prop :=
  (s.ports.get .lane).Fits (s.mode = .running) ∧ (s.ports.get .payout).Fits (s.mode = .running) ∧
  (s.ports.get .office).Fits (s.mode = .running)

/-- Outside the scan, lockout is on exactly while the fault record holds a kind of the mask in force
(R167). -/
abbrev State.LockoutFits (s : State) : Prop :=
  s.active = true → s.lockout = locks s.faults s.settings.lockoutMask

/-- A record of Table 4-1. -/
def RecordId.legal : RecordId → Bool
  | .account n => n < 256
  | .settlement n => n < 16
  | .float | .fault | .settings => true

/-- Strictly rising numbers: the one form of a table. -/
abbrev Table.Rising {α : Type} (t : Table α) : Prop := (t.map (·.1)).Pairwise (· < ·)

/-- Every number of a table below a bound. -/
abbrev Table.Below {α : Type} (t : Table α) (bound : Nat) : Prop := ∀ e ∈ t, e.1 < bound

/-- Whether a cell may be listed: a record not listed is blank. -/
def Cell.listed {α : Type} : Cell α → Bool
  | .blank => false
  | .empty | .valid _ | .corrupt _ => true

/-- No cell of a table is one that an unlisted number reads as. -/
abbrev Table.NoBlank {α : Type} (t : Table (Cell α)) : Prop := ∀ e ∈ t, e.2.listed = true

/-- The store in its one form: its tables rising, within Table 4-1, with nothing blank listed. -/
abbrev Store.Fits (m : Store) : Prop :=
  Table.Rising m.accounts ∧ Table.Below m.accounts 256 ∧ Table.NoBlank m.accounts ∧
  Table.Rising m.settlements ∧ Table.Below m.settlements 16 ∧ Table.NoBlank m.settlements

/-- The working copies of accounts and settlement records in their one form, with the haulier IDs and
the docket numbers of each distinct (R63, R74). -/
abbrev State.TablesFit (s : State) : Prop :=
  s.store.Fits ∧
  Table.Rising s.accounts ∧ Table.Below s.accounts 256 ∧ (s.accounts.map (·.2.haulier)).Nodup ∧
  Table.Rising s.settlements ∧ Table.Below s.settlements 16 ∧ (s.settlements.map (·.2.docket)).Nodup

/-- The commit queue and the held-account list (R64 to R66): no record twice, at most 21 account
entries, held accounts only behind a full 21, the program that of the head, and a program in progress
whenever the part is in service or draining and an entry stands in the queue. -/
abbrev State.QueueFits (s : State) : Prop :=
  (s.commitQueue.map (·.record)).Nodup ∧ (∀ e ∈ s.commitQueue, e.record.legal = true) ∧
  s.accountEntries ≤ accountEntryLimit ∧ s.held.Nodup ∧
  (∀ n ∈ s.held, n < 256 ∧ s.hasEntry (.account n) = false) ∧
  (s.held ≠ [] → s.accountEntries = accountEntryLimit) ∧
  (s.program.isSome = true → s.active = true ∧
    s.program.map (·.record) = s.commitQueue.head?.map (·.record)) ∧
  (s.active = true → s.commitQueue ≠ [] → s.program.isSome = true)

/-- A part with supply is held exactly while RESET_N is low (Table 4-1 of 00_scope.md, R168, R188). -/
abbrev State.ResetFits (s : State) : Prop :=
  s.mode ≠ .unpowered → (s.resetLow = true ↔ s.mode = .resetHeld)

/-- In service and draining, the short cause of FLOAT_OUT is what its rule gives (R59). -/
abbrev State.ShortFits (s : State) : Prop := s.active = true → s.shortCause = s.shortNow

/-- The order field by the docket's state (R2, R5). -/
def Docket.fits (d : Docket) : Bool :=
  match d.state with
  | .open | .closing | .nilPayout | .voided => d.order.isNone
  | .awaitingPayout => d.order.any fun o => o.state ≠ .paid
  | .paid => d.order.any fun o => o.state = .paid

/-- The docket table (R3), each docket's order field (R5), the lanes' open dockets (R9) and the
finished list (R6). -/
abbrev State.DocketsFit (s : State) : Prop :=
  s.dockets.length ≤ 16 ∧ (s.dockets.map (·.number)).Nodup ∧ (∀ d ∈ s.dockets, d.fits = true) ∧
  (∀ d ∈ s.dockets, d.state.holdsLane = true → s.openDocket.get d.lane = some d.number) ∧
  (∀ n ∈ Lane.list, ∀ num ∈ (s.openDocket.get n).toList,
    ∃ d ∈ s.dockets, d.number = num ∧ d.lane = n ∧ d.state.holdsLane = true) ∧
  s.finished.Nodup ∧ (∀ d ∈ s.dockets, d.state.finished = true → d.number ∈ s.finished) ∧
  (∀ num ∈ s.finished, ∃ d ∈ s.dockets, d.number = num ∧ d.state.finished = true)

/-- Whether a docket's order belongs in the order queue (R39). -/
def Docket.queued (d : Docket) : Bool :=
  d.state = .awaitingPayout && d.order.any fun o => o.state ≠ .suspense

/-- Whether a waiter is a TAKE_ORDER. -/
def Waiter.isTake (w : Waiter) : Bool :=
  match w.kind with
  | .take _ => true
  | .order _ | .confirm _ _ _ | .resolve _ _ | .loadFloat _ | .accountEdit _ | .storeSettings => false

/-- Whether a waiting TAKE_ORDER waits for an OFFERED order. -/
def State.takeFits (s : State) (w : Waiter) : Bool :=
  match w.kind with
  | .take num => s.orderState? num = some .offered
  | .order _ | .confirm _ _ _ | .resolve _ _ | .loadFloat _ | .accountEdit _ | .storeSettings => true

/-- The order queue (R39): exactly the AWAITING_PAYOUT dockets whose order is not in SUSPENSE, each
once; at most one order in hand (R41); a TAKE_ORDER that waits, waits for an OFFERED order. In the scan
the dockets are the restored ones, and the queue is not built yet (R191). -/
abbrev State.OrdersFit (s : State) : Prop :=
  (s.dockets.filter Docket.inHand).length ≤ 1 ∧ (s.waiters.filter Waiter.isTake).length ≤ 1 ∧
  (∀ w ∈ s.waiters, s.takeFits w = true) ∧
  (s.active = true →
    s.orderQueue.Nodup ∧ (∀ d ∈ s.dockets, d.queued = true → d.number ∈ s.orderQueue) ∧
    (∀ num ∈ s.orderQueue, ∃ d ∈ s.dockets, d.number = num ∧ d.queued = true)) ∧
  (s.mode = .scanning → ∀ d ∈ s.dockets, d.state = .awaitingPayout ∧
    d.order.any (fun o => o.state = .ready ∨ o.state = .suspense) = true)

/-- Every AWAITING_PAYOUT docket holds one settlement record working copy, and no other docket holds
any (R34, R49). -/
abbrev State.SettlementsFit (s : State) : Prop :=
  (∀ e ∈ s.settlements, ∃ d ∈ s.dockets, d.number = e.2.docket ∧ d.state = .awaitingPayout) ∧
  (∀ d ∈ s.dockets, d.state = .awaitingPayout → ∃ e ∈ s.settlements, e.2.docket = d.number)

/-- The tallies of a docket (R8, R13): rejected[k] ≤ accepted[k] ≤ 9999 for every class, and the two
identities of R8. -/
abbrev Tallies.Fits (tl : Tallies) : Prop :=
  (∀ k : Fin 12, tl.rejected[k] ≤ tl.accepted[k] ∧ tl.accepted[k] ≤ 9999) ∧
  tl.passes = tl.classified + tl.foreign + tl.unresolved + tl.overflow ∧
  tl.accepted.toList.sum = tl.classified + tl.manualAdded

/-- The settlement identity of the figures (R33): P + m + R = T = N + carry-in, and U is what the
foreign charge takes beyond the gross. -/
abbrev Figures.Fits (f : Figures) : Prop :=
  f.payout + f.remainder + f.referred = f.total ∧
  f.total = f.gross - f.foreignCharge + f.carryIn ∧ f.uncovered = f.foreignCharge - f.gross

/-- The figures of a settlement record, where a cell holds one. -/
def Cell.figures? : Cell SettleRecord → Option Figures
  | .valid x => some x.figures
  | .blank | .empty | .corrupt _ => none

/-- The figures of an image, where it is of a settlement record. -/
def Image.figures? : Image → Option Figures
  | .settlement r => r.map (·.figures)
  | .account _ | .float _ | .fault _ | .settings _ => none

/-- Every docket's tallies and figures fit, and the figures of every settlement record, in the store, in
its working copy and in a program's image (R8, R13, R33). -/
abbrev State.CountsFit (s : State) : Prop :=
  (∀ d ∈ s.dockets, ∀ tl ∈ d.tallies, tl.Fits) ∧ (∀ d ∈ s.dockets, ∀ f ∈ d.figures, f.Fits) ∧
  (∀ e ∈ s.settlements, e.2.figures.Fits) ∧
  (∀ e ∈ s.store.settlements, ∀ f ∈ e.2.figures?, f.Fits) ∧
  (∀ g ∈ s.program, ∀ f ∈ g.image.figures?, f.Fits)

/-- All the invariants together; each of them is kept by every step from a state that has all. -/
structure State.Fits (s : State) : Prop where
  ports : s.PortsFit
  lockout : s.LockoutFits
  tables : s.TablesFit
  queue : s.QueueFits
  dockets : s.DocketsFit
  orders : s.OrdersFit
  settlements : s.SettlementsFit
  short : s.ShortFits
  reset : s.ResetFits

end Sys2Proof.Machine
end

