-- ==== Sys2Proof/WellFormed.lean ====
section
/-! DEFINITION. Which terms of `Instr` are events of their row. -/
namespace Sys2Proof

/-- An answer has 10 characters after a SAMPLE call and 3 after a CONFIG or TUNE call (R150). -/
def TurnEnd.wf : TurnEnd → Bool
  | .complete chars => chars.length == 10 || chars.length == 3
  | .lineStuck | .echo | .noAnswer | .answerTimeout => true

/-- A term is well formed when it is an event of its row: an INVALID_COMMAND carries a code outside
Table 10-4 (R175); RESOLVE_SUSPENSE and its NOT_PAID row are told apart by the paid amount field
(R185); a discarded write carries a data byte (R176); an answer has the characters of its call
(R150). Every other term is well formed: a frame of any length is a write (R177). -/
def Instr.wf : Instr → Bool
  | .invalidCommand _ b _ => (CommandCode.ofByte b).isNone
  | .resolveSuspense _ ps => !spellsNotPaid ps
  | .resolveSuspenseNotPaid _ ps => spellsNotPaid ps
  | .writeDiscarded _ data => !data.isEmpty
  | .answerComplete chars => (TurnEnd.complete chars).wf
  | .gateSilent e | .tuneLimit e | .lost e | .jam e => e.wf
  | .powerOnReset | .resetNAsserted | .resetNReleased | .softReset _ _ | .softResetDrainEnd
  | .yardSecond | .setTime _ _ | .writeIgnored _ _ | .resultConsumed _ | .resultHoldExpiry _
  | .openDocket _ _ | .adjust _ _ | .closeDocket _ _ | .voidDocket _ _ | .readDocket _ _
  | .nextFinished _ _ | .releaseDocket _ _ | .closeGraceExpiry _ | .takeOrder _ _
  | .dispenseLimitExpiry | .confirmPayout _ _ | .loadFloat _ _ | .readFloat _ _
  | .reportDispenser _ _ | .programAttemptEnd _ | .programAttemptTimeout | .accountAdd _ _
  | .accountRemove _ _ | .accountRewrite _ _ | .accountRead _ _ | .readStore _ _ | .setClass _ _
  | .setParam _ _ | .setLane _ _ | .storeSettings _ _ | .readClass _ _ | .laneEnable _ _
  | .tuneLane _ _ | .reseedLane _ _ | .readLane _ _ | .readStray _ _ | .clearStray _ _
  | .readLinkStats _ _ | .readFaults _ _ | .clearFaults _ _ | .readEvents _ _ | .ackReset _ _
  | .lineFree | .lineStuck | .echo | .callSent | .noAnswer | .answerTimeout | .powerLoss
  | .scanComplete => true

end Sys2Proof
end

