-- ==== Sys2Proof/Certificates/Slice0/Obligations.lean ====
section
/-! DEFINITION. What is claimed about the part, for the provers. -/
section
open Sys2Proof Sys2Proof.Machine

/-! ### The machine -/

/-- With a command or event at the front of the queue, a step is `exec` of it on the state with the
queue's rest. The queue is the model's own (log entry 28). -/
def Obligations.StepRunsTheFrontCommand : Prop :=
  ∀ (c : Instr) (rest : List Instr) (s : State),
    step { s with pending := c :: rest } = exec c { s with pending := rest }

/-- With nothing waiting, one millisecond passes: the count toward the next second and the limits of a
part in service go on, what falls due waits in the queue, and nothing else changes. That a tick takes
the place of idling is the model's choice (log entry 3). -/
def Obligations.EmptyQueueTicks : Prop :=
  ∀ s : State, s.pending = [] →
    (s.mode = .unpowered → step s = .next s) ∧
    (s.mode ≠ .unpowered → ∃ t, step s = .next t ∧
      t.subSecond = min 1000 (s.subSecond + 1) ∧ t.pending = t.dueEvents ∧
      (s.active = true →
        (∀ n, t.grace.get n = (s.grace.get n).map Timer.tick) ∧
        t.dispenseTimer = s.dispenseTimer.map Timer.tick ∧
        (∀ p, t.ports.get p = { s.ports.get p with hold := (s.ports.get p).hold.map Timer.tick }) ∧
        t.program = s.program.map fun g => { g with timer := g.timer.tick }) ∧
      (s.active = false →
        t.grace = s.grace ∧ t.dispenseTimer = s.dispenseTimer ∧ t.ports = s.ports ∧
        t.program = s.program) ∧
      t.mode = s.mode ∧ t.yardTime = s.yardTime ∧ t.addrStrap = s.addrStrap ∧
      t.resetLow = s.resetLow ∧ t.address = s.address ∧
      t.nextNumber = s.nextNumber ∧ t.freeCount = s.freeCount ∧ t.handedBack = s.handedBack ∧
      SameLanes s t ∧ t.dockets = s.dockets ∧
      t.finished = s.finished ∧ t.openDocket = s.openDocket ∧ t.orderQueue = s.orderQueue ∧
      SameFloat s t ∧ SameRecords s t ∧ SameFaults s t ∧ t.settings = s.settings ∧
      t.store = s.store ∧ t.commitQueue = s.commitQueue ∧ t.held = s.held ∧ t.waiters = s.waiters ∧
      t.pins = s.pins)

/-- No command and no event stops the part: each has a next state from every state. And an event that
cannot arise in a state leaves it as it is, by the model's choice (log entries 4, 5 and 33): a turn's event
with no turn in that place, or with an answer of another length than its call's; a row that names what a
turn's end brings about where it does not; an expiry of no limit; a result consumed or expired outside
RESULT; a program's end without a program; an end of the scan or of the drain where there is none; and the
clock and a loss of power without supply. A RESET_N_ASSERTED without supply, and a RESET_N_RELEASED of a part
that is not held, change the level of the pin alone. -/
def Obligations.NothingStopsThePart : Prop :=
  (∀ (i : Instr) (s : State), ∃ t, exec i s = .next t) ∧
  ∀ s : State,
    ((∀ x, s.turn = some x → x.phase ≠ .watching) →
      exec .lineFree s = .next s ∧ exec .lineStuck s = .next s) ∧
    ((∀ x, s.turn = some x → x.phase ≠ .calling) →
      exec .echo s = .next s ∧ exec .callSent s = .next s) ∧
    ((∀ x, s.turn = some x → x.phase ≠ .listening) →
      exec .noAnswer s = .next s ∧ exec .answerTimeout s = .next s) ∧
    (∀ chars, (∀ x, s.turn = some x → x.phase = .listening → chars.length ≠ answerLength x.kind) →
      exec (.answerComplete chars) s = .next s) ∧
    (∀ e, (∀ x v, s.verdictOf e = some (x, v) → opensEpisode s x v = false) →
      exec (.gateSilent e) s = .next s) ∧
    (∀ e, (∀ x v, s.verdictOf e = some (x, v) → reachesTuneLimit s x v = false) →
      exec (.tuneLimit e) s = .next s) ∧
    (∀ e, (∀ x v, s.verdictOf e = some (x, v) → losesLane s x v = false) →
      exec (.lost e) s = .next s) ∧
    (∀ e, (∀ x v, s.verdictOf e = some (x, v) → raisesJam s x v = false) →
      exec (.jam e) s = .next s) ∧
    (∀ n, s.grace.get n = none → exec (.closeGraceExpiry n) s = .next s) ∧
    (s.dispenseTimer = none → exec .dispenseLimitExpiry s = .next s) ∧
    (∀ p, (s.ports.get p).phase ≠ .result → exec (.resultHoldExpiry p) s = .next s ∧
      exec (.resultConsumed p) s = .next s) ∧
    (s.program = none → exec .programAttemptTimeout s = .next s ∧
      ∀ equal, exec (.programAttemptEnd equal) s = .next s) ∧
    (s.mode ≠ .scanning → exec .scanComplete s = .next s) ∧
    (s.mode ≠ .resetHeld → exec .resetNReleased s = .next { s with resetLow := false }) ∧
    (s.mode ≠ .draining ∨ s.commitQueue ≠ [] ∨ s.held ≠ [] ∨ s.program ≠ none →
      exec .softResetDrainEnd s = .next s) ∧
    (s.mode = .unpowered → exec .resetNAsserted s = .next { s with resetLow := true } ∧
      exec .powerLoss s = .next s ∧ exec .yardSecond s = .next s)

/-- Every well-formed row that a taken write issues is the row that its frame spells (Table 10-4). -/
def Obligations.FramesDecodeToTheirRows : Prop :=
  ∀ (i : Instr) (p : Port) (data : List Byte),
    i.wf = true → encodeWrite i = some (p, data) → decodeWrite p data = i

/-! ### Invariants -/

/-- After every step every output line is at the level its rule gives. -/
def Obligations.StepKeepsTheLinesRuled : Prop :=
  ∀ s t : State, s.PinsRuled → step s = .next t → t.PinsRuled

/-- Every step keeps each port's phase, result and hold timer in agreement with the mode, and a part with
supply held exactly while RESET_N is low. That it is held at a power-on reset too is the model's choice (log
entry 33). -/
def Obligations.StepKeepsPortsFit : Prop :=
  ∀ s t : State, s.Fits → step s = .next t → t.PortsFit ∧ t.ResetFits

/-- Every step keeps the store and the record working copies in their one form, with haulier IDs and
settlement docket numbers distinct. -/
def Obligations.StepKeepsTablesFit : Prop := ∀ s t : State, s.Fits → step s = .next t → t.TablesFit

/-- Every step keeps the commit queue free of duplicates and within its account bound, the held-account
list apart from it, and the program that of the head. So the queue never holds more than 21 account
entries, 19 others and 40 in all, nor the held-account list more than 256. -/
def Obligations.StepKeepsQueueFit : Prop :=
  (∀ s t : State, s.Fits → step s = .next t → t.QueueFits) ∧
  ∀ s : State, s.QueueFits → s.accountEntries ≤ 21 ∧
    (s.commitQueue.filter fun e => !e.record.isAccount).length ≤ 19 ∧
    s.commitQueue.length ≤ 40 ∧ s.held.length ≤ 256

/-- Every step keeps the docket table within 16 slots with distinct numbers, each order field by its
docket's state, the lanes' open dockets and the finished list; and one settlement record working copy for
each AWAITING_PAYOUT docket, and for no other. -/
def Obligations.StepKeepsDocketsFit : Prop :=
  ∀ s t : State, s.Fits → step s = .next t → t.DocketsFit ∧ t.SettlementsFit

/-- Every step keeps the order queue: exactly the AWAITING_PAYOUT dockets whose order is not in
SUSPENSE, each once, and at most one order in hand. -/
def Obligations.StepKeepsOrdersFit : Prop := ∀ s t : State, s.Fits → step s = .next t → t.OrdersFit

/-- Every step keeps lockout equal to what the fault record and the mask in force give, and, in service
and draining, the short cause of FLOAT_OUT set exactly while the head of the order queue is a READY order
larger than the float. And at every event in service or in the drain, but for the resets, ORDER_READY is
raised where the head has become a READY order and was none before (R40), and FLOAT_OUT where either
cause has changed (R59 to R61). -/
def Obligations.StepKeepsConditionsFit : Prop :=
  (∀ s t : State, s.Fits → step s = .next t → t.LockoutFits ∧ t.ShortFits) ∧
  ∀ s t : State, s.Fits → s.active = true → step s = .next t → t.mode = s.mode →
    (s.headReady = false → t.headReady = true → t.Flagged .payout .orderReady) ∧
    (t.shortCause ≠ s.shortCause ∨ t.emptyCause ≠ s.emptyCause → t.Flagged .payout .floatOut)

/-- Every step keeps each docket's tallies (R8, R13) and the settlement identity of all figures, those
of dockets settled in this power cycle and those of dockets restored (R33). -/
def Obligations.StepKeepsCountsFit : Prop :=
  ∀ s t : State, s.CountsFit → step s = .next t → t.CountsFit

/-- All the invariants hold right after reset. Where the manual leaves the state after reset open it is
the model's choice (log entry 10). -/
def Obligations.ResetFits : Prop := State.reset.Fits ∧ State.reset.CountsFit ∧ State.reset.PinsRuled

/-- What the lines say, in a state where the invariants hold: outside STARTING LSTOPn is the table of
R109, LOCKOUT is asserted exactly when the fault record holds a kind of the mask, and a port's attention
line exactly when a flag enabled in its mask is set; in STARTING, and while RESET_N is held low on a part with
supply, LSTOP and LOCKOUT are asserted and the attention lines released, and while RESET_N is held low GL_DE
is released too and the ports acknowledge no address (R109, R160, R168, R174, R182). -/
def Obligations.LinesFollowTheirRules : Prop :=
  ∀ s : State, s.PinsRuled → s.Fits →
    (s.mode = .running →
      (∀ n, s.pins.lstop.get n = true ↔
        ((s.detectors.get n).state = .configuring ∨ (s.detectors.get n).state = .tuning ∨
          (s.detectors.get n).state = .tuneFailed ∨ (s.detectors.get n).state = .settling ∨
          (s.detectors.get n).state = .lost) ∧
        ((s.settings.lanes.get n).stopPolicy = .always ∨
          (s.settings.lanes.get n).stopPolicy = .onDocket ∧ (s.openDocket.get n).isSome = true)) ∧
      (s.pins.lockout = true ↔
        ∃ k : FaultKind, 0 < (s.faults.get k).count ∧ s.settings.lockoutMask.getLsbD k.index = true) ∧
      (∀ p, s.pins.attn.get p = true ↔ ∃ b < 16, (s.ports.get p).flags.getLsbD b = true ∧
        (s.settings.eventMask.get p).getLsbD b = true)) ∧
    (s.mode = .draining ∨ s.mode = .scanning ∨ (s.mode ≠ .unpowered ∧ s.resetLow = true) →
      (∀ n, s.pins.lstop.get n = true) ∧ s.pins.lockout = true ∧ ∀ p, s.pins.attn.get p = false) ∧
    (s.mode ≠ .unpowered → s.resetLow = true → s.pins.glDe = false ∧
      ∀ p addr, s.acknowledges p addr = false)

/-! ### Whole-machine rules -/

/-- The rows that can change a record of the store: those that end a program or cut one off. -/
def Obligations.OnlyProgramsChangeTheStore : Prop :=
  ∀ (i : Instr) (s t : State), exec i s = .next t → t.store ≠ s.store →
    (i = .programAttemptEnd true ∨ i = .programAttemptEnd false ∨ i = .programAttemptTimeout ∨
      i = .powerOnReset ∨ i = .resetNAsserted ∨ i = .resetNReleased ∨ i = .powerLoss) ∧
    ∃ g, s.program = some g ∧
      (∀ n, g.record ≠ .account n → tableGet t.store.accounts n = tableGet s.store.accounts n) ∧
      (∀ n, g.record ≠ .settlement n →
        tableGet t.store.settlements n = tableGet s.store.settlements n) ∧
      (g.record ≠ .float → t.store.float = s.store.float) ∧
      (g.record ≠ .fault → t.store.fault = s.store.fault) ∧
      (g.record ≠ .settings → t.store.settings = s.store.settings)

/-- The float changes at a confirmation, a resolution with an amount, LOAD_FLOAT, and where power is
lost or a reset other than SOFT_RESET scans the float record; yard time changes at YARD_SECOND, SET_TIME,
power-on reset, the release of RESET_N and the loss of power. No other command or event changes either.
That both change at the loss of power is the model's choice (log entry 14). -/
def Obligations.OnlyTheseChangeFloatAndTime : Prop :=
  ∀ (i : Instr) (s t : State), i.wf = true → exec i s = .next t →
    (t.float ≠ s.float →
      (∃ ps, i = .confirmPayout .payout ps) ∨ (∃ ps, i = .resolveSuspense .office ps) ∨
      (∃ ps, i = .loadFloat .office ps) ∨ i = .powerOnReset ∨ i = .resetNReleased ∨
      i = .powerLoss) ∧
    (t.yardTime ≠ s.yardTime →
      i = .yardSecond ∨ (∃ ps, i = .setTime .office ps) ∨ i = .powerOnReset ∨ i = .resetNReleased ∨
      i = .powerLoss)

/-- A command that is refused changes its port alone: where a command taken on a READY port leaves that
port showing a refusal (a result code of 10h or above), every other state of the part is as it was. -/
def Obligations.RefusedCommandsChangeNothing : Prop :=
  ∀ (i : Instr) (p : Port) (c : CommandCode) (ps : List Byte) (s t : State) (code : Byte)
    (rest : List Byte),
    s.PinsRuled → i.command? = some (p, c, ps) → (s.ports.get p).phase = .ready →
    exec i s = .next t → (t.ports.get p).phase = .result →
    (t.ports.get p).result = c.byte :: code :: rest → 0x10 ≤ code.toNat →
    rest = [0, 0] ∧ t = s.showing p [c.byte, code, 0, 0]

/-! ### The ports (chapter 10) -/

/-- A READY port checks a write in the order of R175: a code not in Table 10-4, a code not for the port,
and a number of parameter bytes that differs from the table's. The port goes to RESULT with that code and
an empty body, and no other state changes. In EXECUTING, RESULT and STARTING no command is taken: a write
changes nothing, and neither does a discarded or an ignored write in any phase (R176, R177). A port opens a
transaction at its own address and at no other, the general call among those it ignores (R174). A write
that began in READY has 16 data bytes acknowledged, is its row at STOP, and is ignored without data or at
a repeated START; one that began in EXECUTING or RESULT, or that a reset has cut off, has no data byte
acknowledged and is discarded, whatever the phase at its end (R176, R177, R180). A READY port leaves READY
by its own write or a reset alone. That R175's order holds for writes of more than 16 data bytes too, and
that a transaction is one event at its end, with the bus holding what it began as, are the model's choices
(log entries 30 and 27). -/
def Obligations.PortsCheckWrites : Prop :=
  ∀ (s : State) (p : Port) (b : Byte) (ps data : List Byte), s.PinsRuled →
    ((s.ports.get p).phase = .ready →
      (CommandCode.ofByte b = none → decodeWrite p (b :: ps) = .invalidCommand p b ps ∧
        exec (.invalidCommand p b ps) s = .next (s.showing p [b, 0x10, 0, 0])) ∧
      (∀ c, CommandCode.ofByte b = some c →
        (c.permitted p = false →
          exec (decodeWrite p (b :: ps)) s = .next (s.showing p [b, 0x12, 0, 0])) ∧
        (c.permitted p = true → ps.length ≠ c.paramBytes →
          exec (decodeWrite p (b :: ps)) s = .next (s.showing p [b, 0x11, 0, 0])))) ∧
    ((s.ports.get p).phase ≠ .ready → exec (decodeWrite p (b :: ps)) s = .next s) ∧
    exec (.writeDiscarded p data) s = .next s ∧ exec (.writeIgnored p data) s = .next s ∧
    (∀ addr : BitVec 7,
      (addr = 0 ∨ addr ≠ s.address ∨ (s.ports.get p).phase = .starting → s.opens p addr = none) ∧
      (addr ≠ 0 → addr = s.address → (s.ports.get p).phase ≠ .starting →
        s.opens p addr = some ⟨p, (s.ports.get p).phase, false⟩)) ∧
    (∀ (x : Transaction) (stop : Bool), x.port = p →
      (x.cut = false → x.began = .ready →
        (∀ k, x.acknowledgesData k = true ↔ k < 16) ∧
        x.writeRow (b :: ps) true = decodeWrite p (b :: ps) ∧
        x.writeRow (b :: ps) false = .writeIgnored p (b :: ps)) ∧
      (x.cut = true ∨ x.began = .executing ∨ x.began = .result →
        (∀ k, x.acknowledgesData k = false) ∧
        x.writeRow (b :: ps) stop = .writeDiscarded p (b :: ps)) ∧
      x.writeRow [] stop = .writeIgnored p []) ∧
    ∀ (i : Instr) (t : State), exec i s = .next t →
      (∀ x : Transaction, (x.through t).port = x.port ∧ (x.through t).began = x.began ∧
        ((x.through t).cut = true ↔ x.cut = true ∨ (t.ports.get x.port).phase = .starting)) ∧
      ((s.ports.get p).phase = .ready → (t.ports.get p).phase ≠ .ready →
        (t.ports.get p).phase = .starting ∨ (∃ c params, i.command? = some (p, c, params)) ∨
          ∃ code params, i = .invalidCommand p code params)

/-- RESULT_CONSUMED takes the port to READY with its result gone and its hold timer stopped, and a
TAKE_ORDER result starts the dispense timer with the limit in force. It is the read that began in RESULT
and transfers the last result byte; a read that began before the port entered RESULT, or that a reset has
cut off, is no such row, at any of its bytes, and does not consume the result. -/
def Obligations.ConsumedResultFreesThePort : Prop :=
  ∀ (s : State) (p : Port),
    (∀ (x : Transaction) (k : Nat), x.port = p → (s.readRow x k = some (.resultConsumed p) ↔
      x.cut = false ∧ x.began = .result ∧ (s.ports.get p).phase = .result ∧
        k = (s.ports.get p).result.length)) ∧
    (∀ (x : Transaction) (k : Nat), x.cut = true ∨ x.began ≠ .result → s.readRow x k = none) ∧
    ((s.ports.get p).phase = .result → ∃ t, exec (.resultConsumed p) s = .next t ∧
    t.ports.get p = { s.ports.get p with phase := .ready, result := [], hold := none } ∧
    (∀ q, q ≠ p → t.ports.get q = s.ports.get q) ∧
    ((s.ports.get p).holdsTake = false → t.dispenseTimer = s.dispenseTimer) ∧
    ((s.ports.get p).holdsTake = true → s.dispenseTimer = none →
      (∃ d ∈ s.dockets, ∃ o, d.order = some o ∧ o.state = .dispensing) →
      t.dispenseTimer = some { limit := 1000 * s.settings.dispenseLimit }) ∧
    SameClock s t ∧ SameLanes s t ∧ SameDockets s t ∧ t.orderQueue = s.orderQueue ∧ SameFloat s t ∧
    SameRecords s t ∧ SameFaults s t ∧ SameStore s t ∧ t.settings = s.settings)

/-- RESULT_HOLD_EXPIRY discards an unread result: the port goes to READY and RESULT_LOST is raised on
it. A discarded TAKE_ORDER result whose dispense timer has not started returns its order to READY at
the head of the queue; any other changes nothing beside its port (R44, R179). That the event is taken
whenever a result waits is the model's choice (log entry 3). -/
def Obligations.UnreadResultsAreLost : Prop :=
  ∀ (s : State) (p : Port), (s.ports.get p).phase = .result →
    ((s.ports.get p).holdsTake = false → ∃ t, exec (.resultHoldExpiry p) s = .next t ∧
      t.ports.get p = { phase := .ready, result := [], hold := none,
                        flags := (s.ports.get p).flags ||| Event.bit p .resultLost } ∧
      SameOtherPorts s t p ∧ SamePart s t) ∧
    ∀ num r, p = .payout → s.Fits → (s.ports.get p).holdsTake = true → s.dispenseTimer = none →
      s.orderState? num = some .dispensing → s.settlementOf num = some r →
      ∃ t, exec (.resultHoldExpiry p) s = .next t ∧
        (t.ports.get p).phase = .ready ∧ (t.ports.get p).result = [] ∧
        (t.ports.get p).hold = none ∧ t.Flagged p .resultLost ∧ s.Returned t num r ∧
        t.dispenseTimer = none ∧ QueueKept s t ∧ SameOtherPorts s t p ∧ SameClock s t ∧
        SameLanes s t ∧ t.finished = s.finished ∧ t.nextNumber = s.nextNumber ∧
        t.openDocket = s.openDocket ∧ t.grace = s.grace ∧
        t.float = s.float ∧ t.floatLow = s.floatLow ∧ t.emptyCause = s.emptyCause ∧
        t.accounts = s.accounts ∧ SameFaults s t ∧ t.settings = s.settings

/-- READ_EVENTS carries the flags as they stood and the mask, and clears every flag but RESET; ACK_RESET
clears RESET alone, set or not, with an empty body; and the attention line follows (R183, R184). -/
def Obligations.EventCommands : Prop :=
  ∀ (s : State) (p : Port) (ps : List Byte),
    (s.Takes p .readEvents ps → ∃ t, exec (.readEvents p ps) s = .next t ∧
      t.Shows p ([0x70, 0, 4, 0] ++ be 2 (s.ports.get p).flags.toNat ++
        be 2 (s.settings.eventMask.get p).toNat) ∧
      (t.ports.get p).flags = (s.ports.get p).flags &&& 1 ∧
      (s.mode = .running → (t.pins.attn.get p = true ↔
        (s.ports.get p).flags.getLsbD 0 = true ∧
        (s.settings.eventMask.get p).getLsbD 0 = true)) ∧
      SameOtherPorts s t p ∧ SamePart s t) ∧
    (s.Takes p .ackReset ps → ∃ t, exec (.ackReset p ps) s = .next t ∧
      t.Shows p [0x71, 0, 0, 0] ∧
      (t.ports.get p).flags = (s.ports.get p).flags &&& 0xFFFE ∧
      (s.mode = .running → (t.pins.attn.get p = true ↔ ∃ b < 16, 0 < b ∧
        (s.ports.get p).flags.getLsbD b = true ∧
        (s.settings.eventMask.get p).getLsbD b = true)) ∧
      SameOtherPorts s t p ∧ SamePart s t)

/-- What a read transaction returns: in RESULT the status byte, the result from its first byte, and EEh
past its end; in READY and EXECUTING the status byte, then EEh. One that began before the port entered
RESULT goes on reading EEh; one whose result was discarded or consumed reads EEh from then on, and so does
one that a reset cut off, its status byte among its bytes (R178 to R180). That the status byte too reads
EEh where the hold timer expires before it is the model's choice (log entry 32). A port acknowledges its
own address and no other, and ignores the general call (R174). -/
def Obligations.ReadTransactions : Prop :=
  ∀ (s : State) (p : Port) (addr : BitVec 7) (x : Transaction) (k : Nat),
    (s.acknowledges p addr = true ↔
      addr = s.address ∧ addr ≠ 0 ∧ (s.ports.get p).phase ≠ .starting) ∧
    (s.acknowledges p addr = false → s.opens p addr = none) ∧
    (s.acknowledges p addr = true → ∃ y, s.opens p addr = some y ∧ y.port = p ∧ y.cut = false ∧
      y.began = (s.ports.get p).phase ∧ s.readByte y 0 = s.statusByte p) ∧
    (x.cut = true → s.readByte x k = 0xEE) ∧
    (x.port = p → x.cut = false →
      (x.began ≠ .result → s.readByte x 0 = s.statusByte p ∧ s.readByte x (k + 1) = 0xEE) ∧
      (x.began = .result → (s.ports.get p).phase ≠ .result → s.readByte x k = 0xEE) ∧
      (x.began = .result → (s.ports.get p).phase = .result →
        s.readByte x 0 = s.statusByte p ∧
        (∀ b, (s.ports.get p).result[k]? = some b → s.readByte x (k + 1) = b) ∧
        ((s.ports.get p).result.length ≤ k → s.readByte x (k + 1) = 0xEE))) ∧
    ((s.ports.get p).result.length ≤ 248 → (s.ports.get p).phase ≠ .starting →
      ((s.statusByte p).toNat / 64 = phaseCode (s.ports.get p).phase) ∧
      ((s.statusByte p).toNat / 32 % 2 = if s.pins.attn.get p then 1 else 0) ∧
      ((s.statusByte p).toNat % 32 =
        if (s.ports.get p).phase = .result then ((s.ports.get p).result.length + 7) / 8 % 32 else 0))

/-- A read command answers OK with what its rule lists, or the refusal its rule names, and changes nothing
but its port. The layouts the manual leaves open are the model's choice (log entries 15 and 34). -/
def Obligations.ReadsAnswerAndChangeNothing : Prop :=
  ∀ (s : State) (p : Port) (ps : List Byte), s.PinsRuled →
    (s.Takes p .readDocket ps → ∀ d, s.docket? (field ps 0 2) = some d →
      exec (.readDocket p ps) s = .next (s.showing p (resultBytes 0x14 .ok (docketBody d)))) ∧
    (s.Takes p .readDocket ps → s.docket? (field ps 0 2) = none →
      exec (.readDocket p ps) s = .next (s.showing p [0x14, 0x15, 0, 0])) ∧
    (s.Takes p .readLane ps → 3 < field ps 0 1 →
      exec (.readLane p ps) s = .next (s.showing p [0x23, 0x13, 0, 0])) ∧
    (s.Takes p .readStray ps → 3 < field ps 0 1 →
      exec (.readStray p ps) s = .next (s.showing p [0x24, 0x13, 0, 0])) ∧
    (s.Takes p .readClass ps → 11 < field ps 0 1 →
      exec (.readClass p ps) s = .next (s.showing p [0x26, 0x13, 0, 0])) ∧
    (s.Takes p .accountRead ps →
      (field ps 0 3 = 0 → exec (.accountRead p ps) s = .next (s.showing p [0x43, 0x13, 0, 0])) ∧
      (0 < field ps 0 3 → s.account? (field ps 0 3) = none →
        exec (.accountRead p ps) s = .next (s.showing p [0x43, 0x19, 0, 0]))) ∧
    (s.Takes p .nextFinished ps → ∀ num rest d, s.finished = num :: rest → s.docket? num = some d →
      exec (.nextFinished p ps) s = .next (s.showing p (resultBytes 0x15 .ok (docketBody d)))) ∧
    (s.Takes p .readLane ps → ∀ n, lane? (field ps 0 1) = some n →
      exec (.readLane p ps) s = .next (s.showing p (resultBytes 0x23 .ok (s.laneBody n)))) ∧
    (s.Takes p .readStray ps → ∀ n, lane? (field ps 0 1) = some n →
      exec (.readStray p ps) s =
        .next (s.showing p (resultBytes 0x24 .ok [fixed (strayBytes (s.strays.get n))]))) ∧
    (s.Takes p .readClass ps → ∀ k, class? (field ps 0 1) = some k →
      exec (.readClass p ps) s =
        .next (s.showing p (resultBytes 0x26 .ok [fixed (classRowBytes s.settings.classes[k])]))) ∧
    (s.Takes p .readFloat ps → exec (.readFloat p ps) s = .next (s.showing p (resultBytes 0x35 .ok
      [ fixed (be 4 s.float ++ flagByte s.floatLow ++ flagByte s.shortCause ++ flagByte s.emptyCause ++
          be 4 s.settings.floatLowSet ++ be 4 s.settings.floatLowClear),
        optional (s.inHand?.map fun d => be 2 d.number) ]))) ∧
    (s.Takes p .accountRead ps → ∀ n a, field ps 0 3 ≠ 0 → s.account? (field ps 0 3) = some (n, a) →
      exec (.accountRead p ps) s =
        .next (s.showing p (resultBytes 0x43 .ok (accountBody a (s.commitState n))))) ∧
    (s.Takes p .readStore ps →
      exec (.readStore p ps) s = .next (s.showing p (resultBytes 0x44 .ok s.storeBody))) ∧
    (s.Takes p .readFaults ps →
      exec (.readFaults p ps) s = .next (s.showing p (resultBytes 0x60 .ok s.faultReport)))

/-! ### Dockets (chapter 1) -/

/-- OPEN_DOCKET's checks in the order of R10, the first that fails giving the refusal; and with none
failing the new docket: its number is the first candidate from the counter that no docket holds, it
starts OPEN with zero tallies, the lane has it as its open docket, and the counter stands one above the
number (R4, R9, R11). -/
def Obligations.OpenDocketChecksAndOpens : Prop :=
  ∀ (s : State) (ps : List Byte), s.PinsRuled → s.Takes .lane .openDocket ps →
    (lane? (field ps 0 1) = none →
      exec (.openDocket .lane ps) s = .next (s.showing .lane [0x10, 0x13, 0, 0])) ∧
    ∀ n, lane? (field ps 0 1) = some n →
      ((s.settings.lanes.get n).enable = false ∨ (s.detectors.get n).state ≠ .idle →
        exec (.openDocket .lane ps) s = .next (s.showing .lane [0x10, 0x16, 0, 0])) ∧
      ((s.settings.lanes.get n).enable = true → (s.detectors.get n).state = .idle →
        ((s.openDocket.get n).isSome = true →
          exec (.openDocket .lane ps) s = .next (s.showing .lane [0x10, 0x17, 0, 0])) ∧
        (s.openDocket.get n = none → 16 ≤ s.dockets.length →
          exec (.openDocket .lane ps) s = .next (s.showing .lane [0x10, 0x18, 0, 0])) ∧
        (s.openDocket.get n = none → s.dockets.length < 16 →
          (field ps 1 3 ≠ 0 → s.account? (field ps 1 3) = none →
            exec (.openDocket .lane ps) s = .next (s.showing .lane [0x10, 0x19, 0, 0])) ∧
          (∀ r a, field ps 1 3 ≠ 0 → s.account? (field ps 1 3) = some (r, a) →
            a.status = .frozen ∨ a.status = .corrupt →
            exec (.openDocket .lane ps) s = .next (s.showing .lane [0x10, 0x1A, 0, 0])) ∧
          (field ps 1 3 = 0 ∨ (∃ r a, s.account? (field ps 1 3) = some (r, a) ∧ a.status = .active) →
            ∃ t num, exec (.openDocket .lane ps) s = .next t ∧
              t.Shows .lane ([0x10, 0, 2, 0] ++ be 2 num) ∧ s.docket? num = none ∧
              (∃ k ≤ 15, num = numberAfter^[k] s.nextNumber ∧
                ∀ j < k, (s.docket? (numberAfter^[j] s.nextNumber)).isSome = true) ∧
              t.dockets = s.dockets ++ [{
                number := num, lane := n, haulier := field ps 1 3, state := .open,
                openedAt := some s.yardTime, closedAt := none, closeReason := none,
                tallies := some {}, rates := none, figures := none, order := none,
                restored := false }] ∧
              t.openDocket = s.openDocket.set n (some num) ∧ t.nextNumber = numberAfter num ∧
              t.finished = s.finished ∧ t.grace = s.grace ∧ SameOrders s t ∧ SameClock s t ∧
              SameLanes s t ∧ SameFloat s t ∧ SameRecords s t ∧ SameFaults s t ∧ SameStore s t ∧
              t.settings = s.settings ∧
              (t.ports.get .lane).flags = (s.ports.get .lane).flags ∧ SameOtherPorts s t .lane)))

/-- ADJUST's checks in the order of R12, and its effect by R13: ADD raises accepted[k] and
manual_added, REJECT raises rejected[k], and nothing else of the part changes but the result. An
operation that is neither ADD nor REJECT fails at check 1 by the model's choice (log entry 16). -/
def Obligations.AdjustChecksAndCounts : Prop :=
  ∀ (s : State) (ps : List Byte), s.PinsRuled → s.Takes .lane .adjust ps →
    (class? (field ps 2 1) = none ∨ (field ps 3 1 ≠ 1 ∧ field ps 3 1 ≠ 2) ∨ field ps 4 2 = 0 ∨
        9999 < field ps 4 2 →
      exec (.adjust .lane ps) s = .next (s.showing .lane [0x11, 0x13, 0, 0])) ∧
    ∀ k, class? (field ps 2 1) = some k → 0 < field ps 4 2 → field ps 4 2 ≤ 9999 →
      field ps 3 1 = 1 ∨ field ps 3 1 = 2 →
      (s.docket? (field ps 0 2) = none →
        exec (.adjust .lane ps) s = .next (s.showing .lane [0x11, 0x15, 0, 0])) ∧
      ∀ d, s.docket? (field ps 0 2) = some d →
        (d.state ≠ .open → exec (.adjust .lane ps) s = .next (s.showing .lane [0x11, 0x14, 0, 0])) ∧
        ∀ tl, d.state = .open → d.tallies = some tl →
          (field ps 3 1 = 1 → 9999 < tl.accepted[k] + field ps 4 2 →
            exec (.adjust .lane ps) s = .next (s.showing .lane [0x11, 0x13, 0, 0])) ∧
          (field ps 3 1 = 2 → tl.accepted[k] < tl.rejected[k] + field ps 4 2 →
            exec (.adjust .lane ps) s = .next (s.showing .lane [0x11, 0x1B, 0, 0])) ∧
          (field ps 3 1 = 1 → tl.accepted[k] + field ps 4 2 ≤ 9999 →
            ∃ t, exec (.adjust .lane ps) s = .next
                (t.showing .lane ([0x11, 0, 4, 0] ++ be 2 (tl.accepted[k] + field ps 4 2) ++
                  be 2 tl.rejected[k])) ∧
              t = { s with dockets := t.dockets } ∧ SameOtherDockets s t (field ps 0 2) ∧
              t.docket? (field ps 0 2) = some { d with tallies := some { tl with
                accepted := tl.accepted.set k (tl.accepted[k] + field ps 4 2),
                manualAdded := tl.manualAdded + field ps 4 2 } }) ∧
          (field ps 3 1 = 2 → tl.rejected[k] + field ps 4 2 ≤ tl.accepted[k] →
            ∃ t, exec (.adjust .lane ps) s = .next
                (t.showing .lane ([0x11, 0, 4, 0] ++ be 2 tl.accepted[k] ++
                  be 2 (tl.rejected[k] + field ps 4 2))) ∧
              t = { s with dockets := t.dockets } ∧ SameOtherDockets s t (field ps 0 2) ∧
              t.docket? (field ps 0 2) = some { d with tallies := some { tl with
                rejected := tl.rejected.set k (tl.rejected[k] + field ps 4 2) } })

/-- CLOSE_DOCKET's refusals (R14), and its effect: on a lane in ENTERING or PRESENT the docket becomes
CLOSING, stamped, and the lane's close grace starts with the setting in force; on a lane in any other
state closing completes at once, with reason NORMAL (R15, R19). -/
def Obligations.CloseDocketWaitsOrCompletes : Prop :=
  ∀ (s : State) (ps : List Byte), s.PinsRuled → s.Takes .lane .closeDocket ps →
    (lane? (field ps 0 1) = none →
      exec (.closeDocket .lane ps) s = .next (s.showing .lane [0x12, 0x13, 0, 0])) ∧
    ∀ n, lane? (field ps 0 1) = some n →
      (s.laneDocket n = none →
        exec (.closeDocket .lane ps) s = .next (s.showing .lane [0x12, 0x15, 0, 0])) ∧
      ∀ d, s.laneDocket n = some d →
        (d.state = .closing →
          exec (.closeDocket .lane ps) s = .next (s.showing .lane [0x12, 0x14, 0, 0])) ∧
        (s.Fits → d.state = .open →
          (s.detectors.get n).state = .entering ∨ (s.detectors.get n).state = .present →
          ∃ t, exec (.closeDocket .lane ps) s = .next t ∧
            t.Shows .lane ([0x12, 0, 3, 0] ++ be 2 d.number ++ [1]) ∧
            t.docket? d.number = some { d with state := .closing, closedAt := some s.yardTime } ∧
            SameOtherDockets s t d.number ∧
            t.grace = s.grace.set n (some { limit := 1000 * s.settings.closeGrace }) ∧
            t.openDocket = s.openDocket ∧ t.finished = s.finished ∧ t.nextNumber = s.nextNumber ∧
            SameOrders s t ∧ SameClock s t ∧ SameLanes s t ∧ SameFloat s t ∧ SameRecords s t ∧
            SameFaults s t ∧ SameStore s t ∧ t.settings = s.settings ∧
            (t.ports.get .lane).flags = (s.ports.get .lane).flags ∧ SameOtherPorts s t .lane) ∧
        ∀ tl, s.Fits → d.state = .open → d.tallies = some tl →
          (d.haulier = 0 ∨ (s.account? d.haulier).isSome = true) →
          (s.detectors.get n).state ≠ .entering → (s.detectors.get n).state ≠ .present →
          ∃ t, exec (.closeDocket .lane ps) s = .next t ∧
            t.Shows .lane ([0x12, 0, 3, 0] ++ be 2 d.number ++ [0]) ∧
            s.Closed t n d tl s.yardTime .normal ∧ SameLanes s t ∧ SameOtherPhases s t .lane

/-- CLOSE_GRACE_EXPIRY of a CLOSING docket: it takes one UNRESOLVED outcome, or, with its passes at
their ceiling, the lane's stray tally does, and closing completes with reason GRACE_EXPIRED. The lane's
detector is not told (R18). That the event is taken whenever the timer runs is the model's choice (log
entry 3). -/
def Obligations.CloseGraceExpiryCloses : Prop :=
  ∀ (s : State) (n : Lane) (d : Docket) (tl : Tallies) (c : Nat) (g : Timer), s.Fits →
    s.active = true → s.grace.get n = some g → s.laneDocket n = some d → d.state = .closing →
    d.tallies = some tl → d.closedAt = some c →
    (d.haulier = 0 ∨ (s.account? d.haulier).isSome = true) →
    ∃ t, exec (.closeGraceExpiry n) s = .next t ∧ SamePhases s t ∧ t.detectors = s.detectors ∧
      t.links = s.links ∧ t.rotation = s.rotation ∧ t.turn = s.turn ∧
      (tl.passes < 4294967295 → t.strays = s.strays ∧
        s.Closed t n d
          (if tl.unresolved < 9999
            then { tl with passes := tl.passes + 1, unresolved := tl.unresolved + 1 }
            else { tl with passes := tl.passes + 1, overflow := tl.overflow + 1 }) c .graceExpired) ∧
      (4294967295 ≤ tl.passes →
        t.strays = s.strays.set n ((s.strays.get n).count .unresolved) ∧ t.Flagged .lane .stray ∧
        s.Closed t n d tl c .graceExpired)

/-- What a docket's tallies take of an outcome: R8's table, which keeps its two identities; with passes
at the ceiling the docket does not take it. -/
def Obligations.TalliesTakeOutcomes : Prop :=
  ∀ (tl : Tallies) (o : PassOutcome),
    (4294967295 ≤ tl.passes → tl.take o = none) ∧
    (tl.passes < 4294967295 → ∃ u, tl.take o = some u ∧ u.passes = tl.passes + 1 ∧
      (∀ k, o = .classified k → tl.accepted[k] < 9999 →
        u = { tl with passes := tl.passes + 1, accepted := tl.accepted.set k (tl.accepted[k] + 1),
                      classified := tl.classified + 1 }) ∧
      (∀ k, o = .classified k → 9999 ≤ tl.accepted[k] →
        u = { tl with passes := tl.passes + 1, overflow := tl.overflow + 1 }) ∧
      (o = .foreign → tl.foreign < 9999 →
        u = { tl with passes := tl.passes + 1, foreign := tl.foreign + 1 }) ∧
      (o = .foreign → 9999 ≤ tl.foreign →
        u = { tl with passes := tl.passes + 1, overflow := tl.overflow + 1 }) ∧
      (o = .unresolved → tl.unresolved < 9999 →
        u = { tl with passes := tl.passes + 1, unresolved := tl.unresolved + 1 }) ∧
      (o = .unresolved → 9999 ≤ tl.unresolved →
        u = { tl with passes := tl.passes + 1, overflow := tl.overflow + 1 }) ∧
      (tl.passes = tl.classified + tl.foreign + tl.unresolved + tl.overflow →
        u.passes = u.classified + u.foreign + u.unresolved + u.overflow) ∧
      (tl.accepted.toList.sum = tl.classified + tl.manualAdded →
        u.accepted.toList.sum = u.classified + u.manualAdded))

/-- VOID_DOCKET, NEXT_FINISHED and RELEASE_DOCKET: their refusals and their effects (R20, R22). -/
def Obligations.VoidAndReleaseDockets : Prop :=
  ∀ (s : State) (ps : List Byte), s.PinsRuled →
    (s.Takes .office .voidDocket ps →
      (s.docket? (field ps 0 2) = none →
        exec (.voidDocket .office ps) s = .next (s.showing .office [0x13, 0x15, 0, 0])) ∧
      ∀ d, s.docket? (field ps 0 2) = some d →
        (d.state ≠ .open → d.state ≠ .closing →
          exec (.voidDocket .office ps) s = .next (s.showing .office [0x13, 0x14, 0, 0])) ∧
        (d.state = .open ∨ d.state = .closing → ∃ t, exec (.voidDocket .office ps) s = .next t ∧
          t.Shows .office ([0x13, 0, 2, 0] ++ be 2 (field ps 0 2)) ∧
          t.docket? (field ps 0 2) = some { d with state := .voided, closedAt := none } ∧
          SameOtherDockets s t (field ps 0 2) ∧ t.openDocket = s.openDocket.set d.lane none ∧
          t.grace = s.grace.set d.lane none ∧ t.finished = s.finished ++ [field ps 0 2] ∧
          t.Flagged .office .finished ∧ t.nextNumber = s.nextNumber ∧ SameOrders s t ∧
          SameClock s t ∧ SameLanes s t ∧ SameFloat s t ∧ SameRecords s t ∧ SameFaults s t ∧
          SameStore s t ∧ t.settings = s.settings ∧ SameOtherPorts s t .office)) ∧
    (s.Takes .office .nextFinished ps → s.finished = [] →
      exec (.nextFinished .office ps) s = .next (s.showing .office [0x15, 0x1C, 0, 0])) ∧
    (s.Takes .office .releaseDocket ps →
      (s.docket? (field ps 0 2) = none →
        exec (.releaseDocket .office ps) s = .next (s.showing .office [0x16, 0x15, 0, 0])) ∧
      ∀ d, s.docket? (field ps 0 2) = some d →
        (d.state = .open ∨ d.state = .closing ∨ d.state = .awaitingPayout →
          exec (.releaseDocket .office ps) s = .next (s.showing .office [0x16, 0x14, 0, 0])) ∧
        (d.state = .paid ∨ d.state = .nilPayout ∨ d.state = .voided →
          exec (.releaseDocket .office ps) s = .next
            ({ s with
              finished := s.finished.filter (· ≠ field ps 0 2),
              dockets := s.dockets.filter fun d => d.number ≠ field ps 0 2 }.showing .office
              [0x16, 0, 0, 0])))

/-! ### Settlement (chapter 2) -/

/-- The eight figures by their stages (R27 to R31), and the settlement identity (R33), for a docket's
tallies, the rates and settings in force and the haulier's carry. -/
def Obligations.SettlementFigures : Prop :=
  ∀ (s : State) (haulier : Nat) (tl : Tallies), 0 < s.settings.roundUnit →
    let x := s.settle haulier tl
    let u := s.settings.roundUnit
    let net := x.gross - x.foreignCharge
    x.gross = ((List.finRange 12).map fun k =>
      (tl.accepted[k] - tl.rejected[k]) * (s.settings.classes[k]).rate).sum ∧
    x.foreignCharge = tl.foreign * s.settings.foreignFee ∧
    x.uncovered = x.foreignCharge - x.gross ∧
    (haulier = 0 → x.carryIn = 0) ∧
    (∀ r a, haulier ≠ 0 → s.account? haulier = some (r, a) → x.carryIn = a.carry) ∧
    x.total = net + x.carryIn ∧
    (s.settings.cap / u * u < x.total →
      x.referred = x.total - s.settings.cap / u * u ∧ x.payout = s.settings.cap / u * u ∧
      x.remainder = 0) ∧
    (x.total ≤ s.settings.cap / u * u →
      x.referred = 0 ∧ x.payout = x.total / u * u ∧ x.remainder = x.total % u) ∧
    x.payout + x.remainder + x.referred = x.total ∧
    u ∣ x.payout ∧ x.payout ≤ s.settings.cap / u * u ∧ x.remainder < u

/-! ### Orders and the float (chapter 3) -/

/-- TAKE_ORDER's checks in the order of R41, and its effect: the head order becomes OFFERED, the marker
of its settlement record DISPENSING, the record is queued, and the Payout port waits on it. -/
def Obligations.TakeOrderOffersTheHead : Prop :=
  ∀ (s : State) (ps : List Byte), s.PinsRuled → s.Takes .payout .takeOrder ps →
    (s.lockout = true →
      exec (.takeOrder .payout ps) s = .next (s.showing .payout [0x30, 0x20, 0, 0])) ∧
    (s.lockout = false →
      (s.inHand?.isSome = true →
        exec (.takeOrder .payout ps) s = .next (s.showing .payout [0x30, 0x21, 0, 0])) ∧
      (s.inHand? = none →
        (s.orderQueue = [] →
          exec (.takeOrder .payout ps) s = .next (s.showing .payout [0x30, 0x22, 0, 0])) ∧
        ∀ num rest, s.orderQueue = num :: rest →
          (s.orderState? num = some .pendingCommit →
            exec (.takeOrder .payout ps) s = .next (s.showing .payout [0x30, 0x23, 0, 0])) ∧
          (s.orderState? num = some .ready →
            (s.emptyCause = true →
              exec (.takeOrder .payout ps) s = .next (s.showing .payout [0x30, 0x24, 0, 0])) ∧
            (s.emptyCause = false → s.float < s.payoutOf num →
              exec (.takeOrder .payout ps) s = .next (s.showing .payout [0x30, 0x25, 0, 0])) ∧
            (s.emptyCause = false → s.payoutOf num ≤ s.float → s.Fits →
              ∃ t r, exec (.takeOrder .payout ps) s = .next t ∧ s.settlementOf num = some r ∧
                t.docket? num = (s.docket? num).map (fun d =>
                  { d with order := d.order.map fun o => { o with state := .offered } }) ∧
                SameOtherDockets s t num ∧ t.orderQueue = s.orderQueue ∧
                tableGet t.settlements r =
                  (tableGet s.settlements r).map (fun x => { x with marker := .dispensing }) ∧
                (∀ k, k ≠ r → tableGet t.settlements k = tableGet s.settlements k) ∧
                t.hasEntry (.settlement r) = true ∧ t.WaitsFor (.settlement r) (.take num) ∧
                (t.ports.get .payout).phase = .executing ∧ SameOtherPorts s t .payout ∧
                QueueKept s t ∧ SameClock s t ∧ SameLanes s t ∧ t.finished = s.finished ∧
                t.nextNumber = s.nextNumber ∧ t.openDocket = s.openDocket ∧ t.grace = s.grace ∧
                t.dispenseTimer = s.dispenseTimer ∧ t.float = s.float ∧ t.floatLow = s.floatLow ∧
                t.emptyCause = s.emptyCause ∧ t.accounts = s.accounts ∧ SameFaults s t ∧
                t.settings = s.settings))))

/-- DISPENSE_LIMIT_EXPIRY of the order in hand: it goes to SUSPENSE and leaves the queue,
PAYOUT_SUSPENSE is recorded, SUSPENSE is raised on both ports, and its settlement record is left as it
was (R46). That the event is taken whenever the timer runs is the model's choice (log entry 3). -/
def Obligations.DispenseLimitSuspends : Prop :=
  ∀ (s : State) (num : Nat), s.Fits → s.active = true → s.dispenseTimer.isSome = true →
    s.orderState? num = some .dispensing →
    ∃ t, exec .dispenseLimitExpiry s = .next t ∧
      t.docket? num = (s.docket? num).map (fun d =>
        { d with order := d.order.map fun o => { o with state := .suspense } }) ∧
      SameOtherDockets s t num ∧ t.orderQueue = s.orderQueue.filter (· ≠ num) ∧
      t.dispenseTimer = none ∧
      t.faults = s.faults.set .payoutSuspense ((s.faults.get .payoutSuspense).occur s.yardTime) ∧
      LockoutFollows s t ∧ t.hasEntry .fault = true ∧ t.Flagged .office .fault ∧
      t.Flagged .payout .suspense ∧ t.Flagged .office .suspense ∧ SameRecords s t ∧ QueueKept s t ∧
      SamePhases s t ∧ SameClock s t ∧ SameLanes s t ∧ t.finished = s.finished ∧
      t.nextNumber = s.nextNumber ∧ t.openDocket = s.openDocket ∧ t.grace = s.grace ∧
      t.float = s.float ∧ t.floatLow = s.floatLow ∧ t.emptyCause = s.emptyCause ∧
      t.settings = s.settings

/-- CONFIRM_PAYOUT's checks in the order of R48, locked out or not; a confirmation of a DISPENSING or
SUSPENSE order, and a resolution with an amount, pays the order, with every effect of R49 and R50, and
the port waits (R49 to R51, R53); ORDER_READY is raised where the new head is READY (R40), and FLOAT_OUT
where the short cause changes (R59, R61). -/
def Obligations.ConfirmedOrdersArePaid : Prop :=
  ∀ (s : State) (ps : List Byte),
    (s.PinsRuled → s.Takes .payout .confirmPayout ps →
      (16777215 < field ps 2 4 →
        exec (.confirmPayout .payout ps) s = .next (s.showing .payout [0x31, 0x13, 0, 0])) ∧
      (field ps 2 4 ≤ 16777215 → s.docket? (field ps 0 2) = none →
        exec (.confirmPayout .payout ps) s = .next (s.showing .payout [0x31, 0x15, 0, 0])) ∧
      (∀ d, field ps 2 4 ≤ 16777215 → s.docket? (field ps 0 2) = some d →
        (∀ o, d.order = some o → o.state ≠ .dispensing ∧ o.state ≠ .suspense) →
        exec (.confirmPayout .payout ps) s = .next (s.showing .payout [0x31, 0x14, 0, 0]))) ∧
    ∀ d o r, s.Fits → s.docket? (field ps 0 2) = some d → d.order = some o →
      s.settlementOf d.number = some r → field ps 2 4 ≤ 16777215 →
      (s.Takes .payout .confirmPayout ps → o.state = .dispensing ∨ o.state = .suspense →
        ∃ t, exec (.confirmPayout .payout ps) s = .next t ∧
          s.Paid t .payout d o r (field ps 2 4)
            (.confirm d.number (o.state = .suspense) (s.float - field ps 2 4))) ∧
      (s.Takes .office .resolveSuspense ps → o.state = .suspense →
        ∃ t, exec (.resolveSuspense .office ps) s = .next t ∧
          s.Paid t .office d o r (field ps 2 4) (.resolve d.number (s.float - field ps 2 4)))

/-- RESOLVE_SUSPENSE's checks, and NOT_PAID: the order goes back to READY at the head of the queue, and
the result is OK with the docket number (R53, R54). That the returned order goes ahead of an order in
hand is R54's own. -/
def Obligations.ResolvedNotPaidReturns : Prop :=
  ∀ (s : State) (ps : List Byte), s.PinsRuled → s.Takes .office .resolveSuspense ps →
    (16777215 < field ps 2 4 → field ps 2 4 ≠ 4294967295 →
      exec (.resolveSuspense .office ps) s = .next (s.showing .office [0x32, 0x13, 0, 0])) ∧
    (field ps 2 4 ≤ 16777215 →
      (s.docket? (field ps 0 2) = none →
        exec (.resolveSuspense .office ps) s = .next (s.showing .office [0x32, 0x15, 0, 0])) ∧
      ((s.docket? (field ps 0 2)).isSome = true → s.orderState? (field ps 0 2) ≠ some .suspense →
        exec (.resolveSuspense .office ps) s = .next (s.showing .office [0x32, 0x14, 0, 0]))) ∧
    (field ps 2 4 = 4294967295 →
      (s.docket? (field ps 0 2) = none →
        exec (.resolveSuspenseNotPaid .office ps) s = .next (s.showing .office [0x32, 0x15, 0, 0])) ∧
      ((s.docket? (field ps 0 2)).isSome = true → s.orderState? (field ps 0 2) ≠ some .suspense →
        exec (.resolveSuspenseNotPaid .office ps) s = .next (s.showing .office [0x32, 0x14, 0, 0])) ∧
      (s.Fits → s.orderState? (field ps 0 2) = some .suspense →
        ∀ r, s.settlementOf (field ps 0 2) = some r →
          ∃ t, exec (.resolveSuspenseNotPaid .office ps) s = .next t ∧
            t.Shows .office ([0x32, 0, 2, 0] ++ be 2 (field ps 0 2)) ∧
            s.Returned t (field ps 0 2) r ∧ t.dispenseTimer = s.dispenseTimer ∧ QueueKept s t ∧
            t.nextNumber = s.nextNumber ∧
            SameOtherPhases s t .office ∧ SameClock s t ∧ SameLanes s t ∧ t.finished = s.finished ∧
            t.openDocket = s.openDocket ∧ t.grace = s.grace ∧ t.float = s.float ∧
            t.floatLow = s.floatLow ∧ t.emptyCause = s.emptyCause ∧ t.accounts = s.accounts ∧
            SameFaults s t ∧ t.settings = s.settings))

/-- LOAD_FLOAT: refused for 0 and for a load past 4,294,967,295; otherwise the float rises at once, its
record is queued, FLOAT_LOW is checked, and the Office port waits (R56, R58). -/
def Obligations.LoadFloatRaisesTheFloat : Prop :=
  ∀ (s : State) (ps : List Byte), s.PinsRuled → s.Takes .office .loadFloat ps →
    (field ps 0 4 = 0 ∨ 4294967295 < s.float + field ps 0 4 →
      exec (.loadFloat .office ps) s = .next (s.showing .office [0x34, 0x13, 0, 0])) ∧
    (0 < field ps 0 4 → s.float + field ps 0 4 ≤ 4294967295 →
      ∃ t, exec (.loadFloat .office ps) s = .next t ∧ t.float = s.float + field ps 0 4 ∧
        FloatLowFollows s t ∧ t.shortCause = t.shortNow ∧ t.emptyCause = s.emptyCause ∧
        t.hasEntry .float = true ∧ t.WaitsFor .float (.loadFloat (s.float + field ps 0 4)) ∧
        (t.ports.get .office).phase = .executing ∧ SameOtherPhases s t .office ∧ QueueKept s t ∧
        SameRecords s t ∧ SameClock s t ∧ SameLanes s t ∧ SameDockets s t ∧ SameOrders s t ∧
        SameFaults s t ∧ t.settings = s.settings)

/-- REPORT_DISPENSER: EMPTY sets the empty cause and READY clears it, each raising FLOAT_OUT where it
changes it; FAULT records DISPENSER_FAULT and leaves the empty cause; any other value is out of range
(R60, R61, R185). -/
def Obligations.ReportDispenserReports : Prop :=
  ∀ (s : State) (ps : List Byte), s.Fits → s.PinsRuled → s.Takes .payout .reportDispenser ps →
    (field ps 0 1 = 1 ∨ field ps 0 1 = 2 → ∃ t, exec (.reportDispenser .payout ps) s = .next t ∧
      t.Shows .payout [0x33, 0, 0, 0] ∧ (t.emptyCause = true ↔ field ps 0 1 = 1) ∧
      (t.emptyCause ≠ s.emptyCause → t.Flagged .payout .floatOut) ∧
      (t.emptyCause = s.emptyCause → (t.ports.get .payout).flags = (s.ports.get .payout).flags) ∧
      SameOtherPorts s t .payout ∧ SameClock s t ∧ SameLanes s t ∧ SameDockets s t ∧
      SameOrders s t ∧ t.float = s.float ∧ t.floatLow = s.floatLow ∧ t.shortCause = s.shortCause ∧
      SameRecords s t ∧ SameFaults s t ∧ SameStore s t ∧ t.settings = s.settings) ∧
    (field ps 0 1 = 3 → ∃ t, exec (.reportDispenser .payout ps) s = .next t ∧
      t.Shows .payout [0x33, 0, 0, 0] ∧
      t.faults = s.faults.set .dispenserFault ((s.faults.get .dispenserFault).occur s.yardTime) ∧
      LockoutFollows s t ∧ t.hasEntry .fault = true ∧ t.Flagged .office .fault ∧
      SameOtherPhases s t .payout ∧ SameClock s t ∧ SameLanes s t ∧ SameDockets s t ∧
      SameOrders s t ∧ SameFloat s t ∧ SameRecords s t ∧ QueueKept s t ∧ t.settings = s.settings) ∧
    (field ps 0 1 = 0 ∨ 3 < field ps 0 1 →
      exec (.reportDispenser .payout ps) s = .next (s.showing .payout [0x33, 0x13, 0, 0]))

/-! ### The record store (chapter 4) -/

/-- Queueing a record (R64, R66): it merges into its entry, marking the entry changed where the record is
being programmed; it keeps its place in the held-account list; a new account entry beyond 21 is held;
any other joins the tail. -/
def Obligations.CommitRequestsMerge : Prop :=
  ∀ (s : State) (r : RecordId) (edit : Bool),
    (s.hasEntry r = true →
      (s.queueRecord r edit).commitQueue.map (·.record) = s.commitQueue.map (·.record) ∧
      (s.queueRecord r edit).held = s.held ∧
      ∀ e ∈ (s.queueRecord r edit).commitQueue, e.record = r → s.programming r = true →
        e.changed = true) ∧
    (s.hasEntry r = false → r.isAccount = false →
      s.queueRecord r edit = { s with commitQueue := s.commitQueue ++ [⟨r, edit, false⟩] }) ∧
    ∀ n, r = .account n → s.hasEntry r = false →
      (n ∈ s.held → s.queueRecord r edit = s) ∧
      (n ∉ s.held → 21 ≤ s.accountEntries →
        s.queueRecord r edit = { s with held := s.held ++ [n] }) ∧
      (n ∉ s.held → s.accountEntries < 21 →
        s.queueRecord r edit = { s with commitQueue := s.commitQueue ++ [⟨r, edit, false⟩] })

/-- PROGRAM_ATTEMPT_END with an equal read-back: the image is in the record; the entry leaves, or moves
to the tail where it is marked changed; where an account entry leaves, the oldest held account moves
in; and the program of the new head begins with the working copy as it stands (R64, R66, R68, R69).
That the next program takes its image after the event's other work is the model's choice (log entry 7).
-/
def Obligations.ProgramsComplete : Prop :=
  ∀ (s : State) (g : Program), s.Fits → s.program = some g →
    ∃ t e rest, exec (.programAttemptEnd true) s = .next t ∧ s.commitQueue = e :: rest ∧
      e.record = g.record ∧ t.store = s.store.write g.record g.image ∧
      (e.changed = true → t.held = s.held ∧
        t.commitQueue.map (·.record) = rest.map (·.record) ++ [g.record]) ∧
      (e.changed = false → g.record.isAccount = true →
        t.held = s.held.tail ∧
        t.commitQueue.map (·.record) = rest.map (·.record) ++ (s.held.take 1).map .account) ∧
      (e.changed = false → g.record.isAccount = false →
        t.held = s.held ∧ t.commitQueue.map (·.record) = rest.map (·.record)) ∧
      t.program = t.commitQueue.head?.map
        (fun e => ⟨e.record, t.image e.record, .first, { limit := 15 }⟩) ∧
      (∀ w ∈ t.waiters, w.record = g.record → w.begun = true →
        t.program.map (·.record) = some g.record) ∧
      t.accounts = s.accounts ∧ t.settlements = s.settlements ∧ t.orderQueue = s.orderQueue ∧
      t.dispenseTimer = s.dispenseTimer ∧ t.float = s.float ∧ t.floatLow = s.floatLow ∧
      t.emptyCause = s.emptyCause ∧ SameFaults s t ∧ SameClock s t ∧ SameLanes s t ∧
      t.finished = s.finished ∧ t.nextNumber = s.nextNumber ∧ t.openDocket = s.openDocket ∧
      t.grace = s.grace ∧ t.settings = s.settings

/-- A first attempt that fails, by its read-back or by its limit, is followed at once by a second with
the same image, and nothing else changes. A second that fails (R68, R71, R72): the record holds its old
contents, the image, or is corrupt, but not the image of a float or settings record (R71, R83) or of a
record set back to OWED that the store holds DISPENSING (R44, R54), and the OWED program of the order that
SOFT_RESET handed back leaves it marked DISPENSING (R45); STORE_VERIFY is recorded, which queues the fault record unless that
is the record that failed; the entry leaves, or moves to the tail where it is marked changed, and where
an account entry leaves the oldest held account moves in (R66); and an ACTIVE account is FROZEN, its
working copy not queued for that. A settlement record whose entry leaves is queued again by a TAKE_ORDER
that waited on it alone (R43). What the record is left holding is otherwise a free value, and that R44, R45,
R54, R71 and R83 go before R68, and R71 before R56 (which leaves the float record its previous value alone),
is the model's choice (log entry 1); the account
frozen is the one that the working copy holds at the end of the program (log entry 26); and a timeout is
taken at any count of its limit (log entry 3). -/
def Obligations.FailedAttemptsAreRepeated : Prop :=
  ∀ (s : State) (g : Program) (i : Instr), s.program = some g →
    i = .programAttemptEnd false ∨ i = .programAttemptTimeout →
    (g.attempt = .first → exec i s =
      .next { s with program := some ⟨g.record, g.image, .second, { limit := 15 }⟩ }) ∧
    (s.Fits → g.attempt = .second →
      ∃ t e rest, exec i s = .next t ∧ s.commitQueue = e :: rest ∧ e.record = g.record ∧
      ((∃ x, g.image = .settlement (some x) ∧ x.marker = .owed ∧ s.handedBack = some x.docket ∧
          e.changed = false ∧ t.store =
            s.store.write g.record (.settlement (some { x with marker := .dispensing }))) ∨
        (∀ x, g.image = .settlement (some x) → x.marker = .owed → s.handedBack = some x.docket →
          e.changed = true) ∧
        (t.store = s.store ∨
          (t.store = s.store.write g.record g.image ∧ g.record ≠ .float ∧ g.record ≠ .settings ∧
            ∀ n x, g.record = .settlement n → g.image = .settlement (some x) → x.marker = .owed →
              tableGet s.store.settlements n ≠ some (.valid { x with marker := .dispensing })) ∨
          ∃ idField, t.store = s.store.corrupt g.record idField)) ∧
      t.faults = s.faults.set .storeVerify ((s.faults.get .storeVerify).occur s.yardTime) ∧
      LockoutFollows s t ∧ t.Flagged .office .fault ∧
      (g.record ≠ .fault → t.hasEntry .fault = true) ∧
      (e.changed = false →
        (∀ w ∈ s.waiters, w.begun = true → w.record = g.record → w.isTake = false) →
        t.hasEntry g.record = false) ∧
      (e.changed = true → t.hasEntry g.record = true) ∧
      (∀ x ∈ rest, t.hasEntry x.record = true) ∧
      (∀ n held, g.record.isAccount = true → e.changed = false → s.held = n :: held →
        t.held = held ∧ t.hasEntry (.account n) = true) ∧
      (g.record.isAccount = false ∨ e.changed = true ∨ s.held = [] → t.held = s.held) ∧
      (∀ n a, g.record = .account n → tableGet s.accounts n = some a → a.status = .active →
        t.accounts = tablePut s.accounts n { a with status := .frozen } ∧
        t.Flagged .office .accountFrozen) ∧
      (∀ n a, g.record = .account n → tableGet s.accounts n = some a → a.status ≠ .active →
        t.accounts = s.accounts) ∧
      (∀ n, g.record = .account n → tableGet s.accounts n = none → t.accounts = s.accounts) ∧
      (g.record.isAccount = false → t.accounts = s.accounts) ∧
      ((∀ w ∈ s.waiters, w.begun = true → w.record = g.record → w.isTake = false) →
        t.settlements = s.settlements ∧ t.orderQueue = s.orderQueue) ∧
      t.dispenseTimer = s.dispenseTimer ∧ t.float = s.float ∧ t.floatLow = s.floatLow ∧
      t.emptyCause = s.emptyCause ∧ t.pending = s.pending ∧ t.mode = s.mode ∧
      t.handedBack = s.handedBack ∧ t.addrStrap = s.addrStrap ∧ t.resetLow = s.resetLow ∧
      t.address = s.address ∧
      t.yardTime = s.yardTime ∧ SameLanes s t ∧ t.finished = s.finished ∧
      t.nextNumber = s.nextNumber ∧ t.openDocket = s.openDocket ∧ t.grace = s.grace ∧
      t.settings = s.settings)

/-- What each waiter receives at the end of the program it waited on (Table 4-3): `ok` for a program
that completes, and otherwise for one that fails twice, by the read-back of its second attempt or by the
limit of it, which is taken at any count (log entry 3). An order becomes READY where this is the last commit
it waits on, and stays PENDING_COMMIT, with its waiter, while another is outstanding (R34). -/
def Obligations.WaitersReceiveTheirOutcome : Prop :=
  ∀ (s : State) (g : Program) (ok : Bool) (i : Instr) (w : Waiter), s.Fits → s.program = some g →
    i = .programAttemptEnd ok ∨ (ok = false ∧ i = .programAttemptTimeout) →
    (ok = false → g.attempt = .second) → w ∈ s.waiters → w.begun = true → w.record = g.record →
    ∃ t, exec i s = .next t ∧
      (∀ num, w.kind = .order num → s.orderState? num = some .pendingCommit →
        ((∀ v ∈ s.waiters, v.kind = .order num → v.begun = true ∧ v.record = g.record) →
          t.orderState? num = some .ready ∧ ∀ v ∈ t.waiters, v.kind ≠ .order num) ∧
        (∀ v ∈ s.waiters, v.kind = .order num → v.begun = false ∨ v.record ≠ g.record →
          t.orderState? num = some .pendingCommit ∧ t.WaitsFor v.record (.order num))) ∧
      (∀ num, w.kind = .take num → ok = true → t.orderState? num = some .dispensing) ∧
      (∀ num, w.kind = .take num → ok = false → t.orderState? num = some .ready ∧
        t.orderQueue.head? = some num ∧
        ∃ r, s.settlementOf num = some r ∧ t.hasEntry (.settlement r) = true ∧
          (tableGet t.settlements r).map (·.marker) = some .owed) ∧
      ∀ p, w.kind.port = some p → (s.ports.get p).phase = .executing →
        (∀ v ∈ s.waiters, v.kind.port = some p → v = w) →
        t.Shows p (s.waiterResult w.kind ok)

/-- ACCOUNT_ADD, ACCOUNT_REMOVE and ACCOUNT_REWRITE: their refusals in the order of R75, R76 and R77, down
to STORE_BUSY (R67); and taken, the working copy changes as each says, the record is queued, and the
Office port waits on its program (R67, R75 to R77). -/
def Obligations.AccountEditsCheckAndQueue : Prop :=
  (∀ (s : State) (ps : List Byte), s.PinsRuled →
      (s.Takes .office .accountAdd ps →
        (field ps 0 3 = 0 →
          exec (.accountAdd .office ps) s = .next (s.showing .office [0x40, 0x13, 0, 0])) ∧
        (0 < field ps 0 3 → (s.account? (field ps 0 3)).isSome = true →
          exec (.accountAdd .office ps) s = .next (s.showing .office [0x40, 0x1D, 0, 0])) ∧
        (0 < field ps 0 3 → s.account? (field ps 0 3) = none →
          (∀ k < 256, tableGet s.accounts k ≠ none) →
          exec (.accountAdd .office ps) s = .next (s.showing .office [0x40, 0x18, 0, 0])) ∧
        ∀ n < 256, 0 < field ps 0 3 → s.account? (field ps 0 3) = none →
          tableGet s.accounts n = none → (∀ k < n, tableGet s.accounts k ≠ none) →
          s.hasEntry (.account n) = false → 21 ≤ s.accountEntries →
          exec (.accountAdd .office ps) s = .next (s.showing .office [0x40, 0x27, 0, 0])) ∧
      (s.Takes .office .accountRemove ps →
        (field ps 0 3 = 0 →
          exec (.accountRemove .office ps) s = .next (s.showing .office [0x41, 0x13, 0, 0])) ∧
        (0 < field ps 0 3 → s.account? (field ps 0 3) = none →
          exec (.accountRemove .office ps) s = .next (s.showing .office [0x41, 0x19, 0, 0])) ∧
        ∀ n a, 0 < field ps 0 3 → s.account? (field ps 0 3) = some (n, a) →
          (s.haulierBusy (field ps 0 3) = true →
            exec (.accountRemove .office ps) s = .next (s.showing .office [0x41, 0x14, 0, 0])) ∧
          (s.haulierBusy (field ps 0 3) = false → s.hasEntry (.account n) = false →
            21 ≤ s.accountEntries →
            exec (.accountRemove .office ps) s = .next (s.showing .office [0x41, 0x27, 0, 0]))) ∧
      (s.Takes .office .accountRewrite ps →
        (field ps 0 3 = 0 ∨ 99 < field ps 3 1 →
          exec (.accountRewrite .office ps) s = .next (s.showing .office [0x42, 0x13, 0, 0])) ∧
        (0 < field ps 0 3 → field ps 3 1 ≤ 99 → s.account? (field ps 0 3) = none →
          exec (.accountRewrite .office ps) s = .next (s.showing .office [0x42, 0x19, 0, 0])) ∧
        ∀ n a, 0 < field ps 0 3 → field ps 3 1 ≤ 99 → s.account? (field ps 0 3) = some (n, a) →
          s.hasEntry (.account n) = false → 21 ≤ s.accountEntries →
          exec (.accountRewrite .office ps) s = .next (s.showing .office [0x42, 0x27, 0, 0]))) ∧
  ∀ (s : State) (ps : List Byte) (n : Nat), s.Fits → 0 < field ps 0 3 →
    s.storeBusy n = false →
    (s.Takes .office .accountAdd ps → s.account? (field ps 0 3) = none → n < 256 →
      tableGet s.accounts n = none → (∀ k < n, tableGet s.accounts k ≠ none) →
      ∃ t, exec (.accountAdd .office ps) s = .next t ∧ s.Edited t n .accountAdd ∧
        tableGet t.accounts n = some {
          haulier := field ps 0 3, status := .active, carry := 0,
          visits := 0, items := 0, amount := 0, lastSettled := none }) ∧
    ∀ a, s.account? (field ps 0 3) = some (n, a) →
      (s.Takes .office .accountRemove ps →
        (∀ d ∈ s.dockets, d.haulier = field ps 0 3 →
          d.state ≠ .open ∧ d.state ≠ .closing ∧ d.state ≠ .awaitingPayout) →
        ∃ t, exec (.accountRemove .office ps) s = .next t ∧ s.Edited t n .accountRemove ∧
          tableGet t.accounts n = none) ∧
      (s.Takes .office .accountRewrite ps → field ps 3 1 ≤ 99 →
        ∃ t, exec (.accountRewrite .office ps) s = .next t ∧ s.Edited t n .accountRewrite ∧
          tableGet t.accounts n = some { a with carry := field ps 3 1, status := .active })

/-- SET_CLASS, SET_PARAM and SET_LANE taken: the working copy changes, no record is queued, the result
carries what was kept, and the FLOAT_LOW check runs at a write of either float level (R58, R79 to R81).
Which identifiers and values are taken, and what is kept, is SettingsRanges. STORE_SETTINGS queues the
settings record and waits on its program; nothing else changes (R83): the program in progress and every
other entry and waiter stand, or, with no program in progress, the settings record's own begins. That the
three results carry the eleven bytes of the row, the value in four bytes and the value in two is the
model's reading (log entry 15), and that the result of a SET_PARAM of the result hold time is held for the
new time is the model's choice (log entry 35). -/
def Obligations.SettingsCommandsSet : Prop :=
  ∀ (s : State) (ps : List Byte),
    (s.Takes .office .setClass ps → ∀ k on, class? (field ps 0 1) = some k →
      onOff? (field ps 1 1) = some on → field ps 10 2 ≤ 60000 →
      ∃ t, exec (.setClass .office ps) s = .next t ∧
        t.settings = { s.settings with classes := s.settings.classes.set k {
          enable := on, indLo := field ps 2 2, indHi := max (field ps 4 2) (field ps 2 2),
          capLo := field ps 6 2, capHi := max (field ps 8 2) (field ps 6 2),
          rate := field ps 10 2 } } ∧
        t.Shows .office ([0x50, 0, 11, 0] ++ classRowBytes (t.settings.classes[k])) ∧
        SameFloat s t ∧ (t.ports.get .office).flags = (s.ports.get .office).flags ∧
        SameOtherPorts s t .office ∧ s.ButSettings t) ∧
    (s.Takes .office .setParam ps → ∀ g kept, field ps 0 1 ≠ 11 →
      s.settings.setParam (field ps 0 1) (field ps 1 4) = some (g, kept) →
      ∃ t, exec (.setParam .office ps) s = .next t ∧ t.settings = g ∧
        t.Shows .office ([0x51, 0, 4, 0] ++ be 4 kept) ∧ t.float = s.float ∧
        t.shortCause = s.shortCause ∧ t.emptyCause = s.emptyCause ∧
        t.floatLow = (if field ps 0 1 = 6 ∨ field ps 0 1 = 7
          then floatLowAfter s.float g.floatLowSet g.floatLowClear s.floatLow else s.floatLow) ∧
        (t.floatLow ≠ s.floatLow → t.Flagged .payout .floatLow ∧ t.Flagged .office .floatLow) ∧
        (t.floatLow = s.floatLow → SameOtherPorts s t .office ∧
          (t.ports.get .office).flags = (s.ports.get .office).flags) ∧
        SameOtherPhases s t .office ∧ s.ButSettings t) ∧
    (s.Takes .office .setLane ps → ∀ n g kept, lane? (field ps 0 1) = some n →
      (s.settings.lanes.get n).setLane (field ps 1 1) (field ps 2 2) = some (g, kept) →
      ∃ t, exec (.setLane .office ps) s = .next t ∧
        t.settings = { s.settings with lanes := s.settings.lanes.set n g } ∧
        t.Shows .office ([0x52, 0, 2, 0] ++ be 2 kept) ∧ SameFloat s t ∧
        (t.ports.get .office).flags = (s.ports.get .office).flags ∧ SameOtherPorts s t .office ∧
        s.ButSettings t) ∧
    (s.PinsRuled →
      (s.Takes .office .setClass ps →
        (class? (field ps 0 1) = none ∨ onOff? (field ps 1 1) = none ∨ 60000 < field ps 10 2) →
        exec (.setClass .office ps) s = .next (s.showing .office [0x50, 0x13, 0, 0])) ∧
      (s.Takes .office .setParam ps → field ps 0 1 ≠ 11 →
        s.settings.setParam (field ps 0 1) (field ps 1 4) = none →
        exec (.setParam .office ps) s = .next (s.showing .office [0x51, 0x13, 0, 0])) ∧
      (s.Takes .office .setLane ps → (lane? (field ps 0 1) = none ∨
        ∃ n, lane? (field ps 0 1) = some n ∧
          (s.settings.lanes.get n).setLane (field ps 1 1) (field ps 2 2) = none) →
        exec (.setLane .office ps) s = .next (s.showing .office [0x52, 0x13, 0, 0]))) ∧
    (s.Takes .office .storeSettings ps →
      ∃ t, exec (.storeSettings .office ps) s = .next t ∧ t.hasEntry .settings = true ∧
        t.WaitsFor .settings .storeSettings ∧ (t.ports.get .office).phase = .executing ∧
        t.ports.get .office = { s.ports.get .office with phase := .executing } ∧
        SameOtherPorts s t .office ∧ QueueKept s t ∧
        (s.program.isSome = true → t.program = s.program ∧
          t.waiters = s.waiters ++ [⟨.settings, false, .storeSettings⟩] ∧
          (s.hasEntry .settings = true → t.commitQueue = s.commitQueue.map fun e =>
            if e.record = .settings then
              { e with changed := e.changed || decide (s.program.map (·.record) = some .settings) }
            else e) ∧
          (s.hasEntry .settings = false →
            t.commitQueue = s.commitQueue ++ [⟨.settings, false, false⟩])) ∧
        (s.Fits → s.program = none →
          t.commitQueue = [⟨.settings, false, false⟩] ∧
          t.program = some ⟨.settings, .settings s.settings, .first, { limit := 15 }⟩ ∧
          t.waiters = s.waiters.map
              (fun w => if w.record = .settings then { w with begun := true } else w) ++
            [⟨.settings, true, .storeSettings⟩]) ∧
        SameClock s t ∧ SameLanes s t ∧ SameDockets s t ∧ SameOrders s t ∧ SameFloat s t ∧
        SameRecords s t ∧ SameFaults s t ∧ t.settings = s.settings)

/-- The settings of Tables 4-6, 4-7 and 10-9 that SET_PARAM and SET_LANE take, with their ranges. The
value kept is the value written, but for the float levels, thresholds and baseline factors, which are
clamped against their companions, so that no exit threshold is above the entry threshold of its
channel, nor β_fast above β (R58, R79, R81). A write of β_fast is bounded by β alone, by the model's
choice (log entry 17). -/
def Obligations.SettingsRanges : Prop :=
  (∀ (g : Settings) (id v : Nat),
      ((g.setParam id v).isSome = true ↔
        (id = 1 ∧ 1 ≤ v ∧ v ≤ 60) ∨ (id = 2 ∧ v ≤ 5000) ∨
        (id = 3 ∧ (v = 1 ∨ v = 2 ∨ v = 5 ∨ v = 10 ∨ v = 20 ∨ v = 50 ∨ v = 100)) ∨
        (id = 4 ∧ 100 ≤ v ∧ v ≤ 16777215) ∨ (id = 5 ∧ 10 ≤ v ∧ v ≤ 600) ∨ id = 6 ∨ id = 7 ∨
        (id = 8 ∧ (v = 19200 ∨ v = 38400 ∨ v = 57600)) ∨ (id = 9 ∧ 32 ≤ v ∧ v ≤ 1020) ∨
        (id = 10 ∧ 100 ≤ v ∧ v ≤ 5000) ∨ (id = 12 ∧ v ≤ 0xFF) ∨ (id = 13 ∧ v ≤ 0x7F) ∨
        (id = 14 ∧ v ≤ 0x3FF)) ∧
      ∀ g' kept, g.setParam id v = some (g', kept) →
        kept = (if id = 6 then min v g.floatLowClear else if id = 7 then max v g.floatLowSet else v) ∧
        (g.floatLowSet ≤ g.floatLowClear → g'.floatLowSet ≤ g'.floatLowClear) ∧
        g'.classes = g.classes ∧ g'.lanes = g.lanes ∧ g'.lockoutMask = g.lockoutMask ∧
        (id = 1 → g' = { g with closeGrace := kept }) ∧
        (id = 2 → g' = { g with foreignFee := kept }) ∧
        (id = 3 → g' = { g with roundUnit := kept }) ∧ (id = 4 → g' = { g with cap := kept }) ∧
        (id = 5 → g' = { g with dispenseLimit := kept }) ∧
        (id = 6 → g' = { g with floatLowSet := kept }) ∧
        (id = 7 → g' = { g with floatLowClear := kept }) ∧
        (id = 8 → g' = { g with bitRate := kept }) ∧ (id = 9 → g' = { g with silentLimit := kept }) ∧
        (id = 10 → g' = { g with holdTime := kept }) ∧
        (id = 12 → g' = { g with eventMask := g.eventMask.set .lane (BitVec.ofNat 16 kept) }) ∧
        (id = 13 → g' = { g with eventMask := g.eventMask.set .payout (BitVec.ofNat 16 kept) }) ∧
        (id = 14 → g' = { g with eventMask := g.eventMask.set .office (BitVec.ofNat 16 kept) })) ∧
  ∀ (g : LaneSettings) (id v : Nat), v ≤ 65535 →
    ((g.setLane id v).isSome = true ↔
      (id = 1 ∧ v ≤ 3) ∨ ((id = 2 ∨ id = 3) ∧ 1 ≤ v) ∨ id = 4 ∨ id = 5 ∨
      ((id = 6 ∨ id = 7) ∧ 1 ≤ v ∧ v ≤ 8) ∨ (id = 8 ∧ 1 ≤ v ∧ v ≤ 4) ∨ id = 9 ∨
      (id = 10 ∧ 1 ≤ v ∧ v ≤ 32) ∨ (id = 11 ∧ v ≤ 1) ∨ (id = 12 ∧ 1 ≤ v ∧ v ≤ 127) ∨
      (id = 13 ∧ (v = 0 ∨ 16 ≤ v)) ∨ (id = 14 ∧ v ≤ 7) ∨ (id = 15 ∧ 1 ≤ v ∧ v ≤ 16) ∨
      (id = 16 ∧ 1 ≤ v ∧ v ≤ 3) ∨ (id = 17 ∧ 2 ≤ v ∧ v ≤ 10) ∨ (id = 18 ∧ 1 ≤ v) ∨ id = 19 ∨
      (id = 20 ∧ v ≤ 8191) ∨ (id = 21 ∧ 1 ≤ v ∧ v ≤ 255) ∨ (22 ≤ id ∧ id ≤ 26)) ∧
    ∀ g' kept, g.setLane id v = some (g', kept) → g'.enable = g.enable ∧
      (g.tOutInd ≤ g.tInInd → g'.tOutInd ≤ g'.tInInd) ∧
      (g.tOutCap ≤ g.tInCap → g'.tOutCap ≤ g'.tInCap) ∧
      (g.betaFast ≤ g.beta → g'.betaFast ≤ g'.beta) ∧
      (id = 2 → g' = { g with tInInd := max v g.tOutInd } ∧ kept = g'.tInInd) ∧
      (id = 3 → g' = { g with tInCap := max v g.tOutCap } ∧ kept = g'.tInCap) ∧
      (id = 4 → g' = { g with tOutInd := min v g.tInInd } ∧ kept = g'.tOutInd) ∧
      (id = 5 → g' = { g with tOutCap := min v g.tInCap } ∧ kept = g'.tOutCap) ∧
      (id = 17 → g' = { g with beta := max v g.betaFast } ∧ kept = g'.beta) ∧
      (id = 18 → g' = { g with betaFast := min v g.beta } ∧ kept = g'.betaFast) ∧
      (id ≠ 2 → id ≠ 3 → id ≠ 4 → id ≠ 5 → id ≠ 17 → id ≠ 18 → kept = v) ∧
      (id = 1 → g' = { g with alpha := v }) ∧ (id = 6 → g' = { g with entryLen := v }) ∧
      (id = 7 → g' = { g with exitLen := v }) ∧ (id = 8 → g' = { g with gamma := v }) ∧
      (id = 9 → g' = { g with settleBand := v }) ∧ (id = 10 → g' = { g with settleLen := v }) ∧
      (id = 11 → g' = { g with splitEnable := v = 1 }) ∧
      (id = 12 → g' = { g with splitRatio := v }) ∧ (id = 13 → g' = { g with jamLimit := v }) ∧
      (id = 14 → g' = { g with holdLimit := v }) ∧ (id = 15 → g' = { g with recovery := v }) ∧
      (id = 16 → v = 1 → g' = { g with stopPolicy := .never }) ∧
      (id = 16 → v = 2 → g' = { g with stopPolicy := .onDocket }) ∧
      (id = 16 → v = 3 → g' = { g with stopPolicy := .always }) ∧
      (id = 19 → g' = { g with fastBand := v }) ∧ (id = 20 → g' = { g with refWeight := v }) ∧
      (id = 21 → g' = { g with settleSamples := v }) ∧
      (id = 22 → g' = { g with targets := { g.targets with ind := v } }) ∧
      (id = 23 → g' = { g with targets := { g.targets with cap := v } }) ∧
      (id = 24 → g' = { g with targets := { g.targets with ref := v } }) ∧
      (id = 25 → g' = { g with tuneBand := v }) ∧ (id = 26 → g' = { g with retuneBand := v })

/-! ### Faults (chapter 9) -/

/-- The lockout mask and CLEAR_FAULTS (R171, R173): a write of the mask puts it in force and on record
and evaluates lockout; CLEAR_FAULTS is refused while any order is in SUSPENSE, and otherwise empties the
record but for the mask of record, ends lockout, and carries the record as it stood. That the result of
the mask carries it in four bytes, and the parts of CLEAR_FAULTS's report, are the model's reading (log
entry 15). -/
def Obligations.MaskAndClearFaults : Prop :=
  ∀ (s : State) (ps : List Byte), s.PinsRuled →
    (s.Takes .office .setParam ps → field ps 0 1 = 11 →
      (127 < field ps 1 4 →
        exec (.setParam .office ps) s = .next (s.showing .office [0x51, 0x13, 0, 0])) ∧
      (field ps 1 4 ≤ 127 → s.mode = .running → ∃ t, exec (.setParam .office ps) s = .next t ∧
        t.settings = { s.settings with lockoutMask := BitVec.ofNat 8 (field ps 1 4) } ∧
        t.faults = { s.faults with maskOfRecord := BitVec.ofNat 8 (field ps 1 4) } ∧
        t.Shows .office ([0x51, 0, 4, 0] ++ be 4 (field ps 1 4)) ∧ t.FaultsChanged s)) ∧
    (s.Takes .office .clearFaults ps →
      (0 < s.suspenseCount →
        exec (.clearFaults .office ps) s = .next (s.showing .office [0x61, 0x26, 0, 0])) ∧
      (s.suspenseCount = 0 → s.mode = .running → ∃ t, exec (.clearFaults .office ps) s = .next t ∧
        (∀ k, (t.faults.get k).count = 0 ∧ (t.faults.get k).times = none) ∧
        t.faults.silentLanes = .all false ∧ t.faults.maskOfRecord = s.faults.maskOfRecord ∧
        t.lockout = false ∧ t.Shows .office (resultBytes 0x61 .ok s.faultReport) ∧
        t.settings = s.settings ∧ t.FaultsChanged s))

/-! ### Lanes (chapters 5 to 7) -/

/-- Stages 1 to 3 of a processed sample. The filter moves each count by (raw − old) div 2^α, a baseline
takes (16 × f − B) div 2^β' with β' by the fast band, each truncated toward zero, and which baselines move
is by the lane's state. So a filtered count stays within 0 to 65535 and between its old value and the
raw count, which it equals where α is 0, and a baseline stays within 0 to 1,048,560 (R90, R126). The
deltas are taken against the baselines in IDLE and ENTERING, and in PRESENT and GAP against the
compensated baselines, clamped to 0 to 65535 (R91, R129). -/
def Obligations.FilterAndBaselineStayInRange : Prop :=
  (∀ (cfg : LaneSettings) (st : LaneState) (old raw k f b : Nat) (base filt : PerChan Nat),
    ((moveToward old raw k : Nat) : Int) = (old : Int) + ((raw : Int) - (old : Int)).tdiv (2 ^ k) ∧
    moveToward old raw 0 = raw ∧ min old raw ≤ moveToward old raw k ∧
    moveToward old raw k ≤ max old raw ∧
    (((f : Int) - ((b / 16 : Nat) : Int)).natAbs < cfg.fastBand ∧
        ((stepBaseline cfg b f : Nat) : Int) =
          (b : Int) + (16 * (f : Int) - (b : Int)).tdiv (2 ^ cfg.beta) ∨
      cfg.fastBand ≤ ((f : Int) - ((b / 16 : Nat) : Int)).natAbs ∧
        ((stepBaseline cfg b f : Nat) : Int) =
          (b : Int) + (16 * (f : Int) - (b : Int)).tdiv (2 ^ cfg.betaFast)) ∧
    (b ≤ 1048560 → f ≤ 65535 → stepBaseline cfg b f ≤ 1048560) ∧
    ((∀ c, base.get c ≤ 1048560 ∧ filt.get c ≤ 65535) →
      ∀ c, (stepBaselines cfg st base filt).get c ≤ 1048560) ∧
    (st = .settling ∨ st = .idle → ∀ c,
      (stepBaselines cfg st base filt).get c = stepBaseline cfg (base.get c) (filt.get c)) ∧
    (st = .entering ∨ st = .present ∨ st = .gap →
      (stepBaselines cfg st base filt).ind = base.ind ∧
      (stepBaselines cfg st base filt).cap = base.cap ∧
      (stepBaselines cfg st base filt).ref = stepBaseline cfg base.ref filt.ref) ∧
    (st.counting = false → st ≠ .settling → stepBaselines cfg st base filt = base)) ∧
  ∀ (cfg : LaneSettings) (d : Detector) (raw : PerChan Nat) (x : Deltas), x = deltasOf cfg d →
    (∀ c, (d.track cfg raw).filtered.get c = moveToward (d.filtered.get c) (raw.get c) cfg.alpha) ∧
    (d.track cfg raw).baseline = stepBaselines cfg d.state d.baseline (d.track cfg raw).filtered ∧
    x.ind = (d.filtered.ind : Int) - (x.baseInd : Int) ∧
    x.cap = (d.filtered.cap : Int) - (x.baseCap : Int) ∧
    (d.state = .idle ∨ d.state = .entering →
      x.baseInd = d.baseline.ind / 16 ∧ x.baseCap = d.baseline.cap / 16) ∧
    (∀ z, d.state = .present ∨ d.state = .gap → d.freeze = some z →
      (x.baseInd : Int) = max 0 (min 65535 ((z.ind : Int) + ((cfg.refWeight : Int) *
        (((d.baseline.ref / 16 : Nat) : Int) - (z.ref : Int))).tdiv 4096)) ∧
      (x.baseCap : Int) = max 0 (min 65535 ((z.cap : Int) + ((cfg.refWeight : Int) *
        (((d.baseline.ref / 16 : Nat) : Int) - (z.ref : Int))).tdiv 4096)))

/-- The state machine of one sample processed in a counting state (R92 to R101), on the deltas `x` and
the filtered counts `f` that the sample's first stages give: how entries begin and end, how a pass begins,
from an entry or straight from IDLE, what each PRESENT sample measures, how a pass ends by exit or split,
and how one rises out of a GAP. The dwell of a pass that begins is the entry length in force (log entry
18). -/
def Obligations.SamplesMoveTheDetector : Prop :=
  ∀ (cfg : LaneSettings) (d : Detector) (raw : PerChan Nat) (x : Deltas) (f : Nat) (u : Detector)
    (r : Sampled),
    u = d.track cfg raw → x = deltasOf cfg u → r = detect cfg d raw →
    f = u.filtered.get d.pass.channel →
    (d.state = .idle → entryCond cfg x = false → r.detector = u ∧ r.event = .nothing ∧ r.jam = false) ∧
    (d.state = .idle → entryCond cfg x = true → r.event = .nothing ∧ r.jam = false ∧
      (1 < cfg.entryLen → r.detector = { u with state := .entering, pass := {
        entryCount := 1, primary := some (if (cfg.tInInd : Int) ≤ x.ind then .ind else .cap)
        peakInd := x.ind.toNat, peakCap := x.cap.toNat } }) ∧
      (cfg.entryLen ≤ 1 → r.detector = { u with
        state := .present, jam := false
        freeze := some ⟨u.baseline.ind / 16, u.baseline.cap / 16, u.baseline.ref / 16⟩
        pass := {
          primary := some (if (cfg.tInInd : Int) ≤ x.ind then .ind else .cap)
          peakInd := x.ind.toNat, peakCap := x.cap.toNat, dwell := cfg.entryLen
          average := if (cfg.tInInd : Int) ≤ x.ind then u.filtered.ind else u.filtered.cap } })) ∧
    (d.state = .entering → entryCond cfg x = false →
      r.detector = { u with state := .idle, pass := {} } ∧ r.event = .discarded ∧ r.jam = false) ∧
    (d.state = .entering → entryCond cfg x = true → r.event = .nothing ∧ r.jam = false ∧
      (d.pass.entryCount + 1 < cfg.entryLen → r.detector = { u with pass := { d.pass with
        entryCount := d.pass.entryCount + 1, peakInd := max d.pass.peakInd x.ind.toNat
        peakCap := max d.pass.peakCap x.cap.toNat } }) ∧
      (cfg.entryLen ≤ d.pass.entryCount + 1 → r.detector = { u with
        state := .present, jam := false
        freeze := some ⟨u.baseline.ind / 16, u.baseline.cap / 16, u.baseline.ref / 16⟩
        pass := {
          primary := d.pass.primary, peakInd := max d.pass.peakInd x.ind.toNat
          peakCap := max d.pass.peakCap x.cap.toNat, dwell := cfg.entryLen, average := f } })) ∧
    (d.state = .present → ∃ q : Pass,
      q.primary = d.pass.primary ∧ q.entryCount = d.pass.entryCount ∧ q.fmin = d.pass.fmin ∧
      q.dwell = min 65535 (d.pass.dwell + 1) ∧ q.peakInd = max d.pass.peakInd x.ind.toNat ∧
      q.peakCap = max d.pass.peakCap x.cap.toNat ∧
      q.average = moveToward d.pass.average f cfg.gamma ∧
      q.exitCount = (if exitCond cfg x then d.pass.exitCount + 1 else 0) ∧
      (d.pass.snapshot.isSome = true →
        q.snapshot = d.pass.snapshot ∧ q.theta = d.pass.theta ∧ q.settleRun = d.pass.settleRun) ∧
      (d.pass.snapshot = none → cfg.settleBand < ((f : Int) - (q.average : Int)).natAbs →
        q.snapshot = none ∧ q.theta = d.pass.theta ∧ q.settleRun = 0) ∧
      (∀ high : Int, high = (if d.pass.channel = .cap then x.cap else x.ind) →
        d.pass.snapshot = none → ((f : Int) - (q.average : Int)).natAbs ≤ cfg.settleBand →
        (cfg.settleLen ≤ d.pass.settleRun + 1 →
            (((if d.pass.channel = .cap then cfg.tInCap else cfg.tInInd) : Nat) : Int) ≤ high →
          q.snapshot = some high.toNat ∧ q.theta = some (high.toNat * cfg.splitRatio / 128)) ∧
        (d.pass.settleRun + 1 < cfg.settleLen ∨
            high < (((if d.pass.channel = .cap then cfg.tInCap else cfg.tInInd) : Nat) : Int) →
          q.snapshot = none ∧ q.theta = d.pass.theta ∧
          q.settleRun = min cfg.settleLen (d.pass.settleRun + 1))) ∧
      (r.jam = true ↔ d.jam = false ∧ cfg.jamLimit ≠ 0 ∧ cfg.jamLimit ≤ q.dwell) ∧
      r.detector.jam = (d.jam || r.jam) ∧
      (exitCond cfg x = true → cfg.exitLen ≤ q.exitCount →
        r.event = .resolved .exit q ∧ r.detector = { u with
          state := .idle, pass := {}, freeze := none, jam := r.detector.jam
          baseline := ⟨16 * x.baseInd, 16 * x.baseCap, u.baseline.ref⟩ }) ∧
      (exitCond cfg x = false ∨ q.exitCount < cfg.exitLen →
        (SplitHolds cfg d q.average f → r.event = .resolved .split q ∧ r.detector = { u with
          state := .gap, jam := r.detector.jam
          pass := { primary := d.pass.primary, dwell := q.dwell, theta := d.pass.theta, fmin := f } }) ∧
        (¬ SplitHolds cfg d q.average f → r.event = .nothing ∧
          r.detector = { u with pass := q, jam := r.detector.jam }))) ∧
    (d.state = .gap → ∃ low count : Nat, low = min d.pass.fmin f ∧
      count = (if exitCond cfg x then d.pass.exitCount + 1 else 0) ∧ r.event = .nothing ∧
      (r.jam = true ↔ d.jam = false ∧ cfg.jamLimit ≠ 0 ∧
        cfg.jamLimit ≤ min 65535 (d.pass.dwell + 1)) ∧
      (exitCond cfg x = true → cfg.exitLen ≤ count → r.detector = { u with
        state := .idle, pass := {}, freeze := none, jam := d.jam || r.jam
        baseline := ⟨16 * x.baseInd, 16 * x.baseCap, u.baseline.ref⟩ }) ∧
      (exitCond cfg x = false ∨ count < cfg.exitLen →
        (low + d.pass.theta.getD 0 < f → r.detector = { u with
          state := .present, jam := false
          pass := { primary := d.pass.primary, peakInd := x.ind.toNat, peakCap := x.cap.toNat
                    dwell := 1, average := f } }) ∧
        (f ≤ low + d.pass.theta.getD 0 → r.detector = { u with
          jam := d.jam || r.jam
          pass := { d.pass with
            dwell := min 65535 (d.pass.dwell + 1), fmin := low, exitCount := count } })))

/-- The Class Matcher: the first row, in index order, that is enabled and whose windows hold both peaks,
or FOREIGN where there is none (R115). -/
def Obligations.ClassMatcherTakesTheFirstRow : Prop :=
  ∀ (g : Settings) (pI pC : Nat),
    (∀ k : Fin 12, classMatch g.classes.toList pI pC = .classified k ↔
      ((g.classes[k]).enable = true ∧ (g.classes[k]).indLo ≤ pI ∧ pI ≤ (g.classes[k]).indHi ∧
        (g.classes[k]).capLo ≤ pC ∧ pC ≤ (g.classes[k]).capHi) ∧
      ∀ j : Fin 12, j < k → ¬ ((g.classes[j]).enable = true ∧ (g.classes[j]).indLo ≤ pI ∧
        pI ≤ (g.classes[j]).indHi ∧ (g.classes[j]).capLo ≤ pC ∧ pC ≤ (g.classes[j]).capHi)) ∧
    (classMatch g.classes.toList pI pC = .foreign ↔
      ∀ j : Fin 12, ¬ ((g.classes[j]).enable = true ∧ (g.classes[j]).indLo ≤ pI ∧
        pI ≤ (g.classes[j]).indHi ∧ (g.classes[j]).capLo ≤ pC ∧ pC ≤ (g.classes[j]).capHi))

/-- LANE_ENABLE (R110, R111, R147, R185): a lane above 3, or an enable neither 0 nor 1, is out of range;
off is refused under an open docket; on takes a lane out of OFF to CONFIGURING and starts an idle link;
off takes the lane to OFF at once, its pass resolving UNRESOLVED to stray with cause DISABLE, or, with its
call on the link, leaves it as it is until the turn's end. That the result carries the lane's state as it
stands after the command is the model's reading (log entry 15), and so is the check of the enable before
the others (log entry 16). -/
def Obligations.LaneEnableSwitches : Prop :=
  (∀ (s : State) (ps : List Byte), s.PinsRuled → s.Takes .lane .laneEnable ps →
    3 < field ps 0 1 ∨ 1 < field ps 1 1 →
    exec (.laneEnable .lane ps) s = .next (s.showing .lane [0x20, 0x13, 0, 0])) ∧
  ∀ (s : State) (ps : List Byte) (n : Lane), s.Fits → s.PinsRuled → s.Takes .lane .laneEnable ps →
    lane? (field ps 0 1) = some n →
    (field ps 1 1 = 0 → (s.openDocket.get n).isSome = true →
      exec (.laneEnable .lane ps) s = .next (s.showing .lane [0x20, 0x17, 0, 0])) ∧
    (field ps 1 1 = 1 → ∃ t, exec (.laneEnable .lane ps) s = .next t ∧
      t.settings = (s.setEnable n true).settings ∧
      t.Shows .lane ([0x20, 0, 2, 0, 1] ++ be 1 (laneStateCode (t.detectors.get n).state)) ∧
      ((s.detectors.get n).state = .off →
        (t.detectors.get n).state = .configuring ∧ t.Flagged .lane .laneState) ∧
      ((s.detectors.get n).state ≠ .off →
        (t.detectors.get n).state = (s.detectors.get n).state ∧
        (t.ports.get .lane).flags = (s.ports.get .lane).flags) ∧
      (s.turn.isSome = true → t.turn = s.turn ∧ t.rotation = s.rotation) ∧
      (s.turn = none → ∃ x, t.turn = some x ∧ t.Begun x ∧
        State.NextInRotation { s with settings := t.settings } x.lane) ∧
      (∀ m, m ≠ n → SameButTargets (s.detectors.get m) (t.detectors.get m)) ∧ t.links = s.links ∧
      t.strays = s.strays ∧ s.ButLanes t) ∧
    (field ps 1 1 = 0 → s.openDocket.get n = none → ∃ t, exec (.laneEnable .lane ps) s = .next t ∧
      t.settings = (s.setEnable n false).settings ∧
      t.Shows .lane ([0x20, 0, 2, 0, 0] ++ be 1 (laneStateCode (t.detectors.get n).state)) ∧
      (s.onLink n = true ∨ (s.detectors.get n).state = .off →
        t.detectors = s.detectors ∧ t.links = s.links ∧ t.strays = s.strays) ∧
      (s.onLink n = false → (s.detectors.get n).state ≠ .off →
        (t.detectors.get n).state = .off ∧ (t.detectors.get n).driftMark = false ∧
        t.Flagged .lane .laneState ∧ s.LeftToStray t n .disable ∧
        t.links = s.links.set n
          { s.links.get n with missRun := 0, silentRun := 0, silentOpen := false, lastSeq := none }) ∧
      t.turn = s.turn ∧ t.rotation = s.rotation ∧ s.ButLanes t)

/-- TUNE_LANE's checks in the order of R140, and its effect by the lane's state: nothing in CONFIGURING,
a tune that starts again in TUNING, and TUNING from any other state; a turn of the lane in progress
becomes stale (R149). -/
def Obligations.TuneLaneTunes : Prop :=
  ∀ (s : State) (ps : List Byte), s.Fits → s.PinsRuled → s.Takes .lane .tuneLane ps →
    (lane? (field ps 0 1) = none →
      exec (.tuneLane .lane ps) s = .next (s.showing .lane [0x21, 0x13, 0, 0])) ∧
    ∀ n, lane? (field ps 0 1) = some n →
      ((s.openDocket.get n).isSome = true →
        exec (.tuneLane .lane ps) s = .next (s.showing .lane [0x21, 0x17, 0, 0])) ∧
      (s.openDocket.get n = none → s.enabled n = false →
        exec (.tuneLane .lane ps) s = .next (s.showing .lane [0x21, 0x14, 0, 0])) ∧
      (s.openDocket.get n = none → s.enabled n = true →
        ((s.detectors.get n).state = .configuring →
          exec (.tuneLane .lane ps) s = .next (s.showing .lane [0x21, 0, 1, 0, 2])) ∧
        ((s.detectors.get n).state ≠ .configuring → ∃ t, exec (.tuneLane .lane ps) s = .next t ∧
          t.Shows .lane [0x21, 0, 1, 0, 3] ∧ (t.detectors.get n).state = .tuning ∧
          (t.detectors.get n).tuneAck = false ∧ (t.detectors.get n).tuneCount = 0 ∧
          (t.detectors.get n).targetsSent = none ∧ (t.detectors.get n).tuneFailure = none ∧
          (t.detectors.get n).settleCount = 0 ∧ (t.detectors.get n).driftMark = false ∧
          s.LeftToStray t n .tune ∧ t.links = s.links ∧ t.rotation = s.rotation ∧
          t.turn = s.turn.map (fun x => if x.lane = n then { x with stale := true } else x) ∧
          ((s.detectors.get n).state ≠ .tuning → t.Flagged .lane .laneState) ∧
          ((s.detectors.get n).state = .tuning →
            (t.ports.get .lane).flags = (s.ports.get .lane).flags) ∧
          t.settings = s.settings ∧ s.ButLanes t))

/-- RESEED_LANE: refused outside the counting states; otherwise the lane goes to IDLE with its IND and
CAP baselines at the filtered counts. A pass resolves UNRESOLVED with cause RESEED, to the lane's open
docket, to the CLOSING docket that waits on it, whose closing then completes, or, without a docket or with
its passes at their ceiling, to stray, and the last outcome record says to which (R7, R8, R103); a
discarded entry completes the closing of a docket that waited on it (R16, R17, R108). -/
def Obligations.ReseedLaneReseeds : Prop :=
  ∀ (s : State) (ps : List Byte), s.Fits → s.PinsRuled → s.Takes .lane .reseedLane ps →
    (lane? (field ps 0 1) = none →
      exec (.reseedLane .lane ps) s = .next (s.showing .lane [0x22, 0x13, 0, 0])) ∧
    ∀ n d, lane? (field ps 0 1) = some n → s.detectors.get n = d →
      (d.state.counting = false →
        exec (.reseedLane .lane ps) s = .next (s.showing .lane [0x22, 0x14, 0, 0])) ∧
      (d.state.counting = true → ∃ t, exec (.reseedLane .lane ps) s = .next t ∧
        t.Shows .lane ([0x22, 0, 4, 0] ++ be 2 d.filtered.ind ++ be 2 d.filtered.cap) ∧
        (∃ k, t.detectors.get n =
          { d with
            state := .idle, pass := {}, jam := false, freeze := none, lastOutcome := k
            baseline := ⟨16 * d.filtered.ind, 16 * d.filtered.cap, d.baseline.ref⟩ }) ∧
        (∀ m, m ≠ n → t.detectors.get m = s.detectors.get m) ∧ t.links = s.links ∧
        t.turn = s.turn ∧ t.rotation = s.rotation ∧ t.settings = s.settings ∧ SameClock s t ∧
        (d.state ≠ .present → t.strays = s.strays ∧
          (t.detectors.get n).lastOutcome = d.lastOutcome) ∧
        (d.state = .idle ∨ d.state = .gap ∨ (d.state = .entering ∧ s.laneDocket n = none) →
          SameDockets s t ∧ SameOrders s t ∧ SameFloat s t ∧ SameRecords s t ∧ SameFaults s t ∧
          SameStore s t) ∧
        (d.state = .present → s.Resolved t n d.pass .unresolved .reseed) ∧
        (d.state = .entering → s.Discarded t n) ∧
        (d.state = .present → s.laneDocket n = none →
          t.strays = s.strays.set n ((s.strays.get n).count .unresolved) ∧ t.Flagged .lane .stray ∧
          SameDockets s t) ∧
        ∀ x tl u, s.laneDocket n = some x → x.tallies = some tl → tl.take .unresolved = some u →
          (d.state = .present → x.state = .open → t.strays = s.strays ∧
            t.docket? x.number = some { x with tallies := some u } ∧
            SameOtherDockets s t x.number) ∧
          ∀ c, x.state = .closing → x.closedAt = some c →
            (x.haulier = 0 ∨ (s.account? x.haulier).isSome = true) →
            (d.state = .present → s.Closed t n x u c .normal) ∧
            (d.state = .entering → s.Closed t n x tl c .normal))

/-- CLEAR_STRAY and READ_LINK_STATS read and empty in one event, and set the counting-since stamp
(R124, R159). The layout of their results, with the parts of READ_LINK_STATS that may be absent, is the
model's reading (log entry 15). -/
def Obligations.ReadAndEmpty : Prop :=
  ∀ (s : State) (ps : List Byte) (n : Lane), s.PinsRuled →
    (s.Takes .office .clearStray ps → lane? (field ps 0 1) = some n →
      exec (.clearStray .office ps) s = .next
        ({ s with strays := s.strays.set n { since := s.yardTime } }.showing .office
          (resultBytes 0x25 .ok [fixed (strayBytes (s.strays.get n))]))) ∧
    (s.Takes .office .readLinkStats ps → lane? (field ps 0 1) = some n →
      exec (.readLinkStats .office ps) s = .next
        ((s.setLink n { s.links.get n with stats := { since := s.yardTime } }).showing .office
          (resultBytes 0x27 .ok (s.statsBody n)))) ∧
    (s.Takes .office .clearStray ps → lane? (field ps 0 1) = none →
      exec (.clearStray .office ps) s = .next (s.showing .office [0x25, 0x13, 0, 0])) ∧
    (s.Takes .office .readLinkStats ps → lane? (field ps 0 1) = none →
      exec (.readLinkStats .office ps) s = .next (s.showing .office [0x27, 0x13, 0, 0]))

/-! ### The gate link (chapter 8) -/

/-- LINE_FREE and CALL_SENT move the turn on and drive GL_DE, and change nothing else (R143, R144). -/
def Obligations.TurnsMoveOn : Prop :=
  ∀ (s : State) (x : Turn), s.turn = some x →
    (x.phase = .watching → ∃ t, exec .lineFree s = .next t ∧
      t = { s with turn := some { x with phase := .calling }, pins := t.pins } ∧
      (s.active = true → t.pins.glDe = true)) ∧
    (x.phase = .calling → ∃ t, exec .callSent s = .next t ∧
      t = { s with turn := some { x with phase := .listening }, pins := t.pins } ∧
      (s.active = true → t.pins.glDe = false))

/-- LINE_STUCK, ECHO, NO_ANSWER and ANSWER_TIMEOUT end a turn that stands where each can end it, as
misses: statistic, silent run and episode, miss run, the delivery to the lane's detector, and the next
turn (R143, R144, R150, R154 to R156). A sample held may resolve a pass, and a passage to LOST ends one,
with all that the outcome does to the docket and the tallies (R7, R16, R17, R102 to R105, R107, R121,
R122). Where LANE_ENABLE off was deferred during the turn, the lane goes to OFF after the delivery (R111,
R155). That a lane in OFF since the end of the drain may still have a turn that ends is the model's choice
(log entry 6), and that a retune by drift clears the jam flag is its reading (log entry 25). -/
def Obligations.MissesEndTurns : Prop :=
  ∀ (s : State) (x : Turn), s.Fits → s.turn = some x →
    (s.StaysAtTurnEnd x.lane →
      (x.phase = .watching → ∃ t, exec .lineStuck s = .next t ∧ s.Missed t x .lineStuck) ∧
      (x.phase = .calling → ∃ t, exec .echo s = .next t ∧ s.Missed t x .echo) ∧
      (x.phase = .listening → ∃ t, exec .noAnswer s = .next t ∧ s.Missed t x .noAnswer) ∧
      (x.phase = .listening → ∃ t, exec .answerTimeout s = .next t ∧ s.Missed t x .answerTimeout)) ∧
    (s.EndsInOff x.lane →
      (x.phase = .watching → ∃ t, exec .lineStuck s = .next t ∧ s.TurnedOff t x (.miss .lineStuck)) ∧
      (x.phase = .calling → ∃ t, exec .echo s = .next t ∧ s.TurnedOff t x (.miss .echo)) ∧
      (x.phase = .listening →
        (∃ t, exec .noAnswer s = .next t ∧ s.TurnedOff t x (.miss .noAnswer)) ∧
        ∃ t, exec .answerTimeout s = .next t ∧ s.TurnedOff t x (.miss .answerTimeout)))

/-- ANSWER_COMPLETE ends a listening turn by the judgement of its answer, in the order of R151: as a
miss, or as an accepted answer with what its status does to the lane (R131, R133, R135, R151 to R153,
R155), pinned to its bytes (R187, Table 10-12): the outcomes it books, drift, SETTLING and recovery from
LOST among them (R7, R16, R17, R102, R103, R106, R107, R121, R122, R137 to R139). Where LANE_ENABLE off was
deferred during the turn, the lane goes to OFF after the delivery (R111). What a SAMPLE answer does to the
statistics of a lane in a state that the table of R152 does not list is the model's choice (log entry
19), and so is it that a turn may outlast the drain, its FRESH answer leaving the lane in OFF (log entry
6); that a retune by drift clears the jam flag is its reading (log entry 25). -/
def Obligations.AnswersEndTurns : Prop :=
  (∀ (x : Turn) (chars : List AnswerChar), chars.length = answerLength x.kind →
      ((∃ c ∈ chars, c.2 = false) → judge x chars = .miss .framing) ∧
      ((∀ c ∈ chars, c.2 = true) →
        ((chars.map (·.1)).getLast? ≠ some (crc (chars.map (·.1)).dropLast) →
          judge x chars = .miss .crc) ∧
        ((chars.map (·.1)).getLast? = some (crc (chars.map (·.1)).dropLast) →
          ((chars.map (·.1)).head? ≠ some (callByte x.kind x.lane) → judge x chars = .miss .address) ∧
          ((chars.map (·.1)).head? = some (callByte x.kind x.lane) →
            ∃ st seq counts, judge x chars = .accepted st seq counts ∧
              (∀ b, (chars.map (·.1))[if x.kind = .sample then 2 else 1]? = some b →
                (b = 1 → st = .ready) ∧ (b = 3 → st = .tuning) ∧ (b = 4 → st = .tuned) ∧
                (b = 5 → st = .fresh) ∧
                (b ≠ 1 → b ≠ 3 → b ≠ 4 → b ≠ 5 → st = .notReady)) ∧
              (x.kind = .sample → ∀ b0 b1 b2 b3 b4 b5 b6 b7 b8 b9 : Byte,
                chars.map (·.1) = [b0, b1, b2, b3, b4, b5, b6, b7, b8, b9] → seq = b1.toNat ∧
                counts = ⟨256 * b3.toNat + b4.toNat, 256 * b5.toNat + b6.toNat,
                  256 * b7.toNat + b8.toNat⟩) ∧
              (x.kind ≠ .sample → seq = 0 ∧ counts = .all 0))))) ∧
  ∀ (s : State) (x : Turn) (chars : List AnswerChar), s.Fits → s.turn = some x →
    x.phase = .listening → chars.length = answerLength x.kind →
    (s.StaysAtTurnEnd x.lane → ∃ t, exec (.answerComplete chars) s = .next t ∧
      (∀ k, judge x chars = .miss k → s.Missed t x k) ∧
      ∀ st seq counts, judge x chars = .accepted st seq counts → s.Answered t x st seq counts) ∧
    (s.EndsInOff x.lane → ∃ t, exec (.answerComplete chars) s = .next t ∧ s.TurnedOff t x (judge x chars))

/-- The rows that name a turn's end by what it brings about are that end: GATE_SILENT where the miss
opens a silent episode, LOST where it takes a counting lane past the hold limit, TUNE_LIMIT where a miss
or an answer brings the tune count to 255, JAM where the sample processed brings the dwell to the jam limit;
and where LANE_ENABLE off was deferred during the turn, the lane goes to OFF after it (R111). That each is
the whole turn end is the model's choice (log entry 4), and so is it that a turn may outlast the drain
(log entry 6); that a retune by drift clears the jam flag is its reading (log entry 25). -/
def Obligations.NamedTurnEndsHappen : Prop :=
  ∀ (s : State) (e : TurnEnd) (x : Turn) (v : Verdict), s.Fits → s.verdictOf e = some (x, v) →
    (∀ k, v = .miss k → (s.links.get x.lane).silentOpen = false →
      s.settings.silentLimit ≤ min 1020 ((s.links.get x.lane).silentRun + 1) →
      (s.StaysAtTurnEnd x.lane → ∃ t, exec (.gateSilent e) s = .next t ∧ s.Missed t x k ∧
        (t.links.get x.lane).silentOpen = true) ∧
      (s.EndsInOff x.lane → ∃ t, exec (.gateSilent e) s = .next t ∧ s.TurnedOff t x v)) ∧
    (∀ k, v = .miss k → x.stale = false → (s.detectors.get x.lane).state.counting = true →
      (s.settings.lanes.get x.lane).holdLimit < min 255 ((s.links.get x.lane).missRun + 1) →
      (s.StaysAtTurnEnd x.lane → ∃ t, exec (.lost e) s = .next t ∧ s.Missed t x k ∧
        (t.detectors.get x.lane).state = .lost) ∧
      (s.EndsInOff x.lane → ∃ t, exec (.lost e) s = .next t ∧ s.TurnedOff t x v)) ∧
    (x.stale = false → (s.detectors.get x.lane).state = .tuning →
      254 ≤ (s.detectors.get x.lane).tuneCount →
      (((∃ k, v = .miss k) ∧ (s.detectors.get x.lane).tuneAck = true) ∨
        ∃ st seq counts, v = .accepted st seq counts ∧ st ≠ .fresh ∧
          ((x.kind = .sample ∧ (s.detectors.get x.lane).tuneAck = true ∧ st ≠ .tuned) ∨
            (x.kind = .tune ∧ st ≠ .tuning))) →
      (s.StaysAtTurnEnd x.lane → ∃ t, exec (.tuneLimit e) s = .next t ∧
        (t.detectors.get x.lane).state = .tuneFailed ∧
        (t.detectors.get x.lane).tuneFailure = some ⟨.limit, .all false⟩ ∧
        t.Flagged .lane .tuneError ∧ t.Flagged .lane .laneState ∧
        (∀ k, v = .miss k → s.Missed t x k) ∧
        ∀ st seq counts, v = .accepted st seq counts → s.Answered t x st seq counts) ∧
      (s.EndsInOff x.lane → ∃ t, exec (.tuneLimit e) s = .next t ∧ s.TurnedOff t x v ∧
        t.Flagged .lane .tuneError)) ∧
    (x.stale = false → (s.detectors.get x.lane).state = .present ∨ (s.detectors.get x.lane).state = .gap →
      (s.detectors.get x.lane).jam = false → (s.settings.lanes.get x.lane).jamLimit ≠ 0 →
      (s.settings.lanes.get x.lane).jamLimit ≤ min 65535 ((s.detectors.get x.lane).pass.dwell + 1) →
      (((∃ k, v = .miss k) ∧ min 255 ((s.links.get x.lane).missRun + 1) ≤
          (s.settings.lanes.get x.lane).holdLimit) ∨
        ∃ seq counts, v = .accepted .ready seq counts ∧ x.kind = .sample ∧
          (s.links.get x.lane).lastSeq ≠ some seq) →
      (s.StaysAtTurnEnd x.lane → ∃ t, exec (.jam e) s = .next t ∧ t.Flagged .lane .jam ∧
        (∀ k, v = .miss k → s.Missed t x k) ∧
        ∀ st seq counts, v = .accepted st seq counts → s.Answered t x st seq counts) ∧
      (s.EndsInOff x.lane → ∃ t, exec (.jam e) s = .next t ∧ s.TurnedOff t x v ∧
        t.Flagged .lane .jam))

/-! ### Start-up and yard time (chapter 11) -/

/-- YARD_SECOND advances yard time, wrapping to 0; SET_TIME sets it. Each restarts the count toward the
next second, and neither moves a running limit (R192). That YARD_SECOND restarts the count too is the
model's choice (log entry 3). -/
def Obligations.YardTimeAdvancesAndIsSet : Prop :=
  ∀ (s : State) (ps : List Byte),
    (s.mode ≠ .unpowered → exec .yardSecond s =
      .next { s with yardTime := (s.yardTime + 1) % 4294967296, subSecond := 0 }) ∧
    (s.PinsRuled → s.Takes .office .setTime ps → exec (.setTime .office ps) s = .next
      ({ s with yardTime := field ps 0 4, subSecond := 0 }.showing .office
        ([0x72, 0, 4, 0] ++ be 4 (field ps 0 4))))

/-- POWER_ON_RESET in any state, and RESET_N_RELEASED where the pin was held: STARTING begins, with all
but the store discarded and yard time at 0; at a POWER_ON_RESET with RESET_N held low the part is held, with
all but the store discarded, until the release. RESET_N_ASSERTED cuts the program and the turn off and
empties the commit queue and the held-account list; POWER_LOSS cuts the program off and loses the rest
(R55, R73, R160, R174, R180, R181, R188). A program cut off leaves the old contents or a corrupt record, and
never its image (R44, R45, R51, R54, R62, R73). What the part holds without supply, and which event does
which part of a RESET_N, is the model's choice (log entries 8, 13 and 14), and so is it which of the two a
program cut off leaves (log entry 1), and that with RESET_N held low STARTING waits for the release (log
entry 33). -/
def Obligations.ResetsDiscardAllButTheStore : Prop :=
  ∀ s : State,
    (s.resetLow = false → ∃ t, exec .powerOnReset s = .next t ∧ s.PoweredUp t) ∧
    (s.resetLow = true → ∃ t, exec .powerOnReset s = .next t ∧ s.Held t) ∧
    (s.mode = .resetHeld → s.program = none →
      ∃ t, exec .resetNReleased s = .next t ∧ s.PoweredUp t) ∧
    (s.mode ≠ .unpowered → ∃ t, exec .resetNAsserted s = .next t ∧ t.mode = .resetHeld ∧
      t.turn = none ∧ t.program = none ∧ t.commitQueue = [] ∧ t.held = [] ∧ t.waiters = [] ∧
      (∀ p, (t.ports.get p).phase = .starting ∧ (t.ports.get p).result = [] ∧
        (t.ports.get p).hold = none ∧ (t.ports.get p).flags = (s.ports.get p).flags) ∧
      t.pins = { lstop := .all true, lockout := true, attn := .all false, glDe := false } ∧
      s.CutOff t ∧ t.pending = s.pending ∧ t.addrStrap = s.addrStrap ∧ t.resetLow = true ∧
      t.yardTime = s.yardTime ∧ t.handedBack = s.handedBack) ∧
    (s.mode ≠ .unpowered → ∃ t, exec .powerLoss s = .next t ∧ t.mode = .unpowered ∧
      s.CutOff t ∧ t.program = none ∧ t.turn = none ∧ t.commitQueue = [] ∧ t.held = [] ∧
      t.dockets = [] ∧ t.orderQueue = [] ∧ t.accounts = [] ∧ t.settlements = [] ∧ t.float = 0 ∧
      t.handedBack = none ∧ t.pending = s.pending ∧ t.addrStrap = s.addrStrap ∧
      t.resetLow = s.resetLow)

/-- SOFT_RESET (R45, R73, R180, R181, R188): the ports go to STARTING with RESET alone set, an order
whose hand-over is not consumed has its marker set back to OWED and queued, and is kept for the drain, which
leaves it marked DISPENSING if that program fails twice (FailedAttemptsAreRepeated); the drain begins, and
the program, the queue, the turn, yard time and the float stand. At the end of the drain every lane is in
OFF, with LANE_STATE raised where one was not (R88, log entry 31), FLOAT_LOW and the causes of FLOAT_OUT
are clear, with their events raised where one was set (R58, R61, log entry 11), the float is kept, and the
scan begins.
That a turn still on the link outlasts the drain is the model's choice (log entry 6), and so is it that
the end of the drain is an event of its own, with the scan in it (log entries 8 and 12). -/
def Obligations.SoftResetDrainsThenScans : Prop :=
  ∀ s : State,
    (∀ ps, s.Fits → s.Takes .office .softReset ps → ∃ t, exec (.softReset .office ps) s = .next t ∧
      t.mode = .draining ∧
      (∀ p, t.ports.get p = { phase := .starting, result := [], hold := none, flags := 1 }) ∧
      t.pins = { lstop := .all true, lockout := true, attn := .all false, glDe := s.glDeOf } ∧
      t.address = (if s.addrStrap then 0x3D else 0x3C) ∧
      (∀ num r, s.orderState? num = some .offered ∨
          (s.orderState? num = some .dispensing ∧ s.dispenseTimer = none) →
        s.settlementOf num = some r →
        (tableGet t.settlements r).map (·.marker) = some .owed ∧ t.hasEntry (.settlement r) = true) ∧
      (∀ num, t.handedBack = some num ↔ s.orderState? num = some .offered ∨
        (s.orderState? num = some .dispensing ∧ s.dispenseTimer = none)) ∧
      (s.inHand? = none → SameStore s { t with waiters := s.waiters } ∧
        t.settlements = s.settlements) ∧
      QueueKept s t ∧ (∀ g, s.program = some g → t.program = some g) ∧ t.turn = s.turn ∧
      t.yardTime = s.yardTime ∧ t.float = s.float ∧ t.accounts = s.accounts ∧ SameFaults s t ∧
      t.settings = s.settings ∧ t.detectors = s.detectors ∧ t.openDocket = s.openDocket ∧
      t.grace = s.grace ∧ t.finished = s.finished ∧ t.pending = s.pending ∧
      t.addrStrap = s.addrStrap ∧ t.resetLow = s.resetLow) ∧
    (s.mode = .draining → s.commitQueue = [] → s.held = [] → s.program = none →
      ∃ t, exec .softResetDrainEnd s = .next t ∧ t.mode = .scanning ∧ t.float = s.float ∧
        t.yardTime = s.yardTime ∧ t.store = s.store ∧ t.turn = s.turn ∧ t.pending = s.pending ∧
        t.program = none ∧ t.orderQueue = [] ∧ t.finished = [] ∧ t.dispenseTimer = none ∧
        t.handedBack = none ∧ t.addrStrap = s.addrStrap ∧ t.resetLow = s.resetLow ∧
        t.address = s.address ∧
        t.openDocket = .all none ∧ t.grace = .all none ∧ t.detectors = .all {} ∧
        t.links = .all {} ∧ t.strays = .all {} ∧
        ((∃ n, (s.detectors.get n).state ≠ .off) → t.Flagged .lane .laneState) ∧
        ((∀ n, (s.detectors.get n).state = .off) → t.ports.get .lane = s.ports.get .lane) ∧
        t.floatLow = false ∧ t.shortCause = false ∧ t.emptyCause = false ∧
        (s.floatLow = true → t.Flagged .payout .floatLow ∧ t.Flagged .office .floatLow) ∧
        (s.shortCause = true ∨ s.emptyCause = true → t.Flagged .payout .floatOut) ∧
        (s.shortCause = false → s.emptyCause = false →
          (t.ports.get .payout).flags &&& Event.bit .payout .floatOut =
            (s.ports.get .payout).flags &&& Event.bit .payout .floatOut) ∧
        (∀ d ∈ t.dockets, d.restored = true) ∧
        (∀ g, s.store.settings = .valid g → t.settings = g) ∧
        (s.store.float = .blank → t.hasEntry .float = true))

/-- What the scan rebuilds (R190, R191, Table 11-2). From any store in its one form, at each event that
scans it: every record by its own condition, corrupt records, repeated haulier IDs and repeated docket
numbers among them, what is queued, and one STORE_CORRUPT for each record treated as corrupt. And from a
store whose records are valid, empty or blank, with distinct haulier IDs and docket numbers: every record in
its working copy, a docket for every settlement record, and nothing queued and no fault recorded. That
these events do the scan, and the time of the occurrences, is the model's choice (log entry 8), and an empty
fault or settings record is read as blank (log entry 9). -/
def Obligations.ScanRebuildsWorkingCopies : Prop :=
  (∀ s : State,
    (s.resetLow = false →
      ∃ t, exec .powerOnReset s = .next t ∧ (t.store.Fits → t.Scanned none)) ∧
    (s.mode = .resetHeld →
      ∃ t, exec .resetNReleased s = .next t ∧ (t.store.Fits → t.Scanned none)) ∧
    (s.mode = .draining → s.commitQueue = [] → s.held = [] → s.program = none →
      ∃ t, exec .softResetDrainEnd s = .next t ∧ (t.store.Fits → t.Scanned (some s.float)))) ∧
  ∀ s : State, s.store.Fits → s.mode = .resetHeld → s.program = none → s.store.Intact →
    ∃ t, exec .resetNReleased s = .next t ∧ t.store = s.store ∧ t.commitQueue = [] ∧ t.held = [] ∧
      (∀ n a, tableGet t.accounts n = some a ↔ tableGet s.store.accounts n = some (.valid a)) ∧
      (∀ r x, tableGet t.settlements r = some x ↔
        tableGet s.store.settlements r = some (.valid x)) ∧
      (∀ r x, tableGet s.store.settlements r = some (.valid x) →
        t.docket? x.docket = some { number := x.docket, lane := x.lane, haulier := x.haulier,
                                    state := .awaitingPayout, openedAt := none,
                                    closedAt := some x.closedAt, closeReason := none,
                                    tallies := none, rates := none, figures := some x.figures,
                                    order := some { state := match x.marker with
                                      | .owed => .ready
                                      | .dispensing => .suspense }, restored := true } ∧
        (x.marker = .dispensing → t.Flagged .payout .suspense ∧ t.Flagged .office .suspense)) ∧
      (∀ d ∈ t.dockets, ∃ r x, tableGet s.store.settlements r = some (.valid x) ∧
        d.number = x.docket) ∧
      (∀ v, s.store.float = .valid v → t.float = v) ∧ (s.store.float = .blank → t.float = 0) ∧
      (∀ f, s.store.fault = .valid f → t.faults = f) ∧ (s.store.fault = .blank → t.faults = {}) ∧
      (∀ g, s.store.settings = .valid g → t.settings = g) ∧
      (s.store.settings = .blank → t.settings = {} ∧ t.Flagged .office .settingsDefault)

/-- SCAN_COMPLETE ends STARTING: the restored READY orders stand in the queue by closed-at time, then
by number; the counter, lockout and the float conditions are set; the ports go to READY; the tallies
and statistics count from now; every enabled lane goes to CONFIGURING; and the rotation and the first
program begin (R4, R167, R189, R191). The events raised are these and no others: ORDER_READY where the head
is READY, FLOAT_LOW and FLOAT_OUT where their conditions change, and LANE_STATE where a lane starts. What
falls to this event is the model's choice (log entry 8); that FLOAT_OUT is raised, which R61 asks and
R189's list leaves out, is log entry 11. -/
def Obligations.ScanCompleteOpensThePart : Prop :=
  ∀ s : State, s.Fits → s.mode = .scanning →
    ∃ t, exec .scanComplete s = .next t ∧ t.mode = .running ∧
    (∀ p, (t.ports.get p).phase = .ready ∧ (t.ports.get p).result = (s.ports.get p).result) ∧
    (∀ num, num ∈ t.orderQueue ↔ s.orderState? num = some .ready) ∧
    t.orderQueue.Pairwise (fun a b => ∀ x y, s.docket? a = some x → s.docket? b = some y →
      x.closedAt.getD 0 < y.closedAt.getD 0 ∨ (x.closedAt.getD 0 = y.closedAt.getD 0 ∧ a ≤ b)) ∧
    (s.dockets = [] → t.nextNumber = 1) ∧
    (∀ d ∈ s.dockets, (∀ e ∈ s.dockets, e.number ≤ d.number) →
      t.nextNumber = if 65535 ≤ d.number then 1 else d.number + 1) ∧
    t.lockout = locks s.faults s.settings.lockoutMask ∧
    t.floatLow =
      floatLowAfter s.float s.settings.floatLowSet s.settings.floatLowClear s.floatLow ∧
    t.shortCause = t.shortNow ∧ t.emptyCause = false ∧
    (t.headReady = true → t.Flagged .payout .orderReady) ∧
    (t.ports.get .payout).flags = ((s.ports.get .payout).flags |||
      (if t.headReady then Event.bit .payout .orderReady else 0) |||
      (if t.floatLow ≠ s.floatLow then Event.bit .payout .floatLow else 0) |||
      (if t.shortCause ≠ s.shortCause ∨ s.emptyCause = true
        then Event.bit .payout .floatOut else 0)) ∧
    (t.ports.get .office).flags = ((s.ports.get .office).flags |||
      (if t.floatLow ≠ s.floatLow then Event.bit .office .floatLow else 0)) ∧
    ((∃ n, s.enabled n = true ∧ (s.detectors.get n).state ≠ .configuring) →
      (t.ports.get .lane).flags = (s.ports.get .lane).flags ||| Event.bit .lane .laneState) ∧
    ((∀ n, s.enabled n = true → (s.detectors.get n).state = .configuring) →
      (t.ports.get .lane).flags = (s.ports.get .lane).flags) ∧
    (∀ n, (t.strays.get n) = { since := s.yardTime } ∧
      (t.links.get n) = { stats := { since := s.yardTime } }) ∧
    (∀ n, s.enabled n = true → (t.detectors.get n).state = .configuring) ∧
    (∀ n, s.enabled n = false → t.detectors.get n = s.detectors.get n) ∧
    ((∃ n, s.enabled n = true) → ∃ x, t.turn = some x ∧ t.Begun x ∧
      State.NextInRotation { s with rotation := none } x.lane) ∧
    ((∀ n, s.enabled n = false) → t.turn = none ∧ t.rotation = none) ∧
    t.program = s.commitQueue.head?.map
      (fun e => ⟨e.record, s.image e.record, .first, { limit := 15 }⟩) ∧
    t.commitQueue.map (·.record) = s.commitQueue.map (·.record) ∧ t.held = s.held ∧
    t.dockets = s.dockets ∧ t.accounts = s.accounts ∧ t.settlements = s.settlements ∧
    t.float = s.float ∧ t.faults = s.faults ∧ t.settings = s.settings ∧ t.store = s.store ∧
    t.yardTime = s.yardTime ∧ t.handedBack = s.handedBack ∧ t.addrStrap = s.addrStrap ∧
    t.resetLow = s.resetLow ∧ t.address = s.address ∧ t.pending = s.pending

end
end

