-- ==== Sys2Proof/Laws/State.lean ====
section
/-! SUPPORT. The small lemmas of the containers: what a value reads as after another was set. -/
namespace Sys2Proof

variable {α β : Type}

@[simp] theorem PerLane.get_set (v : PerLane α) (n m : Lane) (a : α) :
    (v.set n a).get m = if m = n then a else v.get m := by
  cases n <;> cases m <;> rfl

@[simp] theorem PerPort.get_set (v : PerPort α) (p q : Port) (a : α) :
    (v.set p a).get q = if q = p then a else v.get q := by
  cases p <;> cases q <;> rfl

@[simp] theorem PerLane.get_all (a : α) (n : Lane) : (PerLane.all a).get n = a := by cases n <;> rfl

@[simp] theorem PerPort.get_all (a : α) (p : Port) : (PerPort.all a).get p = a := by cases p <;> rfl

@[simp] theorem PerLane.get_map (v : PerLane α) (f : α → β) (n : Lane) :
    (v.map f).get n = f (v.get n) := by cases n <;> rfl

@[simp] theorem PerPort.get_map (v : PerPort α) (f : α → β) (p : Port) :
    (v.map f).get p = f (v.get p) := by cases p <;> rfl

/-- Setting a value to what it was changes nothing. -/
@[simp] theorem PerPort.set_get (v : PerPort α) (p : Port) : v.set p (v.get p) = v := by cases p <;> rfl

/-- The later of two settings of a port stands. -/
@[simp] theorem PerPort.set_set (v : PerPort α) (p : Port) (a b : α) :
    (v.set p a).set p b = v.set p b := by cases p <;> rfl

end Sys2Proof
end

