-- ==== Sys2Proof/Laws/Ops.lean ====
section
/-! SUPPORT. For each shared operation, one lemma that names every field of the state it leaves as it
was. A lemma of this form gives `simp` one rule for each field. -/
namespace Sys2Proof.Machine

/-- Only the port changes. -/
@[simp] theorem State.setPort_frame (s : State) (p : Port) (q : PortState) :
    (s.setPort p q).pending = s.pending ∧ (s.setPort p q).mode = s.mode ∧
    (s.setPort p q).addrStrap = s.addrStrap ∧ (s.setPort p q).address = s.address ∧
    (s.setPort p q).yardTime = s.yardTime ∧ (s.setPort p q).subSecond = s.subSecond ∧
    (s.setPort p q).handedBack = s.handedBack ∧ (s.setPort p q).resetLow = s.resetLow ∧
    (s.setPort p q).detectors = s.detectors ∧ (s.setPort p q).links = s.links ∧
    (s.setPort p q).rotation = s.rotation ∧ (s.setPort p q).turn = s.turn ∧
    (s.setPort p q).strays = s.strays ∧ (s.setPort p q).dockets = s.dockets ∧
    (s.setPort p q).finished = s.finished ∧ (s.setPort p q).nextNumber = s.nextNumber ∧
    (s.setPort p q).openDocket = s.openDocket ∧ (s.setPort p q).grace = s.grace ∧
    (s.setPort p q).orderQueue = s.orderQueue ∧ (s.setPort p q).dispenseTimer = s.dispenseTimer ∧
    (s.setPort p q).float = s.float ∧ (s.setPort p q).floatLow = s.floatLow ∧
    (s.setPort p q).shortCause = s.shortCause ∧ (s.setPort p q).emptyCause = s.emptyCause ∧
    (s.setPort p q).accounts = s.accounts ∧ (s.setPort p q).settlements = s.settlements ∧
    (s.setPort p q).faults = s.faults ∧ (s.setPort p q).settings = s.settings ∧
    (s.setPort p q).lockout = s.lockout ∧ (s.setPort p q).store = s.store ∧
    (s.setPort p q).commitQueue = s.commitQueue ∧ (s.setPort p q).held = s.held ∧
    (s.setPort p q).program = s.program ∧ (s.setPort p q).waiters = s.waiters ∧
    (s.setPort p q).pins = s.pins ∧ (s.setPort p q).freeCount = s.freeCount := by
  simp [State.setPort]

/-- Raising an event changes a flag alone (R181). -/
@[simp] theorem State.raise_frame (s : State) (p : Port) (e : Event) :
    (s.raise p e).pending = s.pending ∧ (s.raise p e).mode = s.mode ∧
    (s.raise p e).addrStrap = s.addrStrap ∧ (s.raise p e).address = s.address ∧
    (s.raise p e).yardTime = s.yardTime ∧ (s.raise p e).subSecond = s.subSecond ∧
    (s.raise p e).handedBack = s.handedBack ∧ (s.raise p e).resetLow = s.resetLow ∧
    (s.raise p e).detectors = s.detectors ∧ (s.raise p e).links = s.links ∧
    (s.raise p e).rotation = s.rotation ∧ (s.raise p e).turn = s.turn ∧
    (s.raise p e).strays = s.strays ∧ (s.raise p e).dockets = s.dockets ∧
    (s.raise p e).finished = s.finished ∧ (s.raise p e).nextNumber = s.nextNumber ∧
    (s.raise p e).openDocket = s.openDocket ∧ (s.raise p e).grace = s.grace ∧
    (s.raise p e).orderQueue = s.orderQueue ∧ (s.raise p e).dispenseTimer = s.dispenseTimer ∧
    (s.raise p e).float = s.float ∧ (s.raise p e).floatLow = s.floatLow ∧
    (s.raise p e).shortCause = s.shortCause ∧ (s.raise p e).emptyCause = s.emptyCause ∧
    (s.raise p e).accounts = s.accounts ∧ (s.raise p e).settlements = s.settlements ∧
    (s.raise p e).faults = s.faults ∧ (s.raise p e).settings = s.settings ∧
    (s.raise p e).lockout = s.lockout ∧ (s.raise p e).store = s.store ∧
    (s.raise p e).commitQueue = s.commitQueue ∧ (s.raise p e).held = s.held ∧
    (s.raise p e).program = s.program ∧ (s.raise p e).waiters = s.waiters ∧
    (s.raise p e).pins = s.pins ∧ (s.raise p e).freeCount = s.freeCount := by
  simp [State.raise]

/-- Clearing flags changes a port alone. -/
@[simp] theorem State.clearFlags_frame (s : State) (p : Port) (bits : BitVec 16) :
    (s.clearFlags p bits).pending = s.pending ∧ (s.clearFlags p bits).mode = s.mode ∧
    (s.clearFlags p bits).addrStrap = s.addrStrap ∧ (s.clearFlags p bits).address = s.address ∧
    (s.clearFlags p bits).yardTime = s.yardTime ∧ (s.clearFlags p bits).subSecond = s.subSecond ∧
    (s.clearFlags p bits).handedBack = s.handedBack ∧ (s.clearFlags p bits).resetLow = s.resetLow ∧
    (s.clearFlags p bits).detectors = s.detectors ∧ (s.clearFlags p bits).links = s.links ∧
    (s.clearFlags p bits).rotation = s.rotation ∧ (s.clearFlags p bits).turn = s.turn ∧
    (s.clearFlags p bits).strays = s.strays ∧ (s.clearFlags p bits).dockets = s.dockets ∧
    (s.clearFlags p bits).finished = s.finished ∧ (s.clearFlags p bits).nextNumber = s.nextNumber ∧
    (s.clearFlags p bits).openDocket = s.openDocket ∧ (s.clearFlags p bits).grace = s.grace ∧
    (s.clearFlags p bits).orderQueue = s.orderQueue ∧
    (s.clearFlags p bits).dispenseTimer = s.dispenseTimer ∧ (s.clearFlags p bits).float = s.float ∧
    (s.clearFlags p bits).floatLow = s.floatLow ∧ (s.clearFlags p bits).shortCause = s.shortCause ∧
    (s.clearFlags p bits).emptyCause = s.emptyCause ∧ (s.clearFlags p bits).accounts = s.accounts ∧
    (s.clearFlags p bits).settlements = s.settlements ∧ (s.clearFlags p bits).faults = s.faults ∧
    (s.clearFlags p bits).settings = s.settings ∧ (s.clearFlags p bits).lockout = s.lockout ∧
    (s.clearFlags p bits).store = s.store ∧ (s.clearFlags p bits).commitQueue = s.commitQueue ∧
    (s.clearFlags p bits).held = s.held ∧ (s.clearFlags p bits).program = s.program ∧
    (s.clearFlags p bits).waiters = s.waiters ∧ (s.clearFlags p bits).pins = s.pins ∧
    (s.clearFlags p bits).freeCount = s.freeCount := by
  simp [State.clearFlags]

/-- A result changes its port alone. -/
@[simp] theorem State.enterResult_frame (s : State) (p : Port) (bs : List Byte) :
    (s.enterResult p bs).pending = s.pending ∧ (s.enterResult p bs).mode = s.mode ∧
    (s.enterResult p bs).addrStrap = s.addrStrap ∧ (s.enterResult p bs).address = s.address ∧
    (s.enterResult p bs).yardTime = s.yardTime ∧ (s.enterResult p bs).subSecond = s.subSecond ∧
    (s.enterResult p bs).handedBack = s.handedBack ∧ (s.enterResult p bs).resetLow = s.resetLow ∧
    (s.enterResult p bs).detectors = s.detectors ∧ (s.enterResult p bs).links = s.links ∧
    (s.enterResult p bs).rotation = s.rotation ∧ (s.enterResult p bs).turn = s.turn ∧
    (s.enterResult p bs).strays = s.strays ∧ (s.enterResult p bs).dockets = s.dockets ∧
    (s.enterResult p bs).finished = s.finished ∧ (s.enterResult p bs).nextNumber = s.nextNumber ∧
    (s.enterResult p bs).openDocket = s.openDocket ∧ (s.enterResult p bs).grace = s.grace ∧
    (s.enterResult p bs).orderQueue = s.orderQueue ∧
    (s.enterResult p bs).dispenseTimer = s.dispenseTimer ∧ (s.enterResult p bs).float = s.float ∧
    (s.enterResult p bs).floatLow = s.floatLow ∧ (s.enterResult p bs).shortCause = s.shortCause ∧
    (s.enterResult p bs).emptyCause = s.emptyCause ∧ (s.enterResult p bs).accounts = s.accounts ∧
    (s.enterResult p bs).settlements = s.settlements ∧ (s.enterResult p bs).faults = s.faults ∧
    (s.enterResult p bs).settings = s.settings ∧ (s.enterResult p bs).lockout = s.lockout ∧
    (s.enterResult p bs).store = s.store ∧ (s.enterResult p bs).commitQueue = s.commitQueue ∧
    (s.enterResult p bs).held = s.held ∧ (s.enterResult p bs).program = s.program ∧
    (s.enterResult p bs).waiters = s.waiters ∧ (s.enterResult p bs).pins = s.pins ∧
    (s.enterResult p bs).freeCount = s.freeCount := by
  simp [State.enterResult]

/-- A result changes its port alone. -/
@[simp] theorem State.respond_frame (s : State) (p : Port) (c : CommandCode) (rc : ResultCode) (b : Body) :
    (s.respond p c rc b).pending = s.pending ∧ (s.respond p c rc b).mode = s.mode ∧
    (s.respond p c rc b).addrStrap = s.addrStrap ∧ (s.respond p c rc b).address = s.address ∧
    (s.respond p c rc b).yardTime = s.yardTime ∧ (s.respond p c rc b).subSecond = s.subSecond ∧
    (s.respond p c rc b).handedBack = s.handedBack ∧ (s.respond p c rc b).resetLow = s.resetLow ∧
    (s.respond p c rc b).detectors = s.detectors ∧ (s.respond p c rc b).links = s.links ∧
    (s.respond p c rc b).rotation = s.rotation ∧ (s.respond p c rc b).turn = s.turn ∧
    (s.respond p c rc b).strays = s.strays ∧ (s.respond p c rc b).dockets = s.dockets ∧
    (s.respond p c rc b).finished = s.finished ∧ (s.respond p c rc b).nextNumber = s.nextNumber ∧
    (s.respond p c rc b).openDocket = s.openDocket ∧ (s.respond p c rc b).grace = s.grace ∧
    (s.respond p c rc b).orderQueue = s.orderQueue ∧
    (s.respond p c rc b).dispenseTimer = s.dispenseTimer ∧ (s.respond p c rc b).float = s.float ∧
    (s.respond p c rc b).floatLow = s.floatLow ∧ (s.respond p c rc b).shortCause = s.shortCause ∧
    (s.respond p c rc b).emptyCause = s.emptyCause ∧ (s.respond p c rc b).accounts = s.accounts ∧
    (s.respond p c rc b).settlements = s.settlements ∧ (s.respond p c rc b).faults = s.faults ∧
    (s.respond p c rc b).settings = s.settings ∧ (s.respond p c rc b).lockout = s.lockout ∧
    (s.respond p c rc b).store = s.store ∧ (s.respond p c rc b).commitQueue = s.commitQueue ∧
    (s.respond p c rc b).held = s.held ∧ (s.respond p c rc b).program = s.program ∧
    (s.respond p c rc b).waiters = s.waiters ∧ (s.respond p c rc b).pins = s.pins ∧
    (s.respond p c rc b).freeCount = s.freeCount := by
  simp [State.respond]

/-- A refusal changes its port alone (R1). -/
@[simp] theorem State.refuse_frame (s : State) (p : Port) (c : CommandCode) (rc : ResultCode) :
    (s.refuse p c rc).pending = s.pending ∧ (s.refuse p c rc).mode = s.mode ∧
    (s.refuse p c rc).addrStrap = s.addrStrap ∧ (s.refuse p c rc).address = s.address ∧
    (s.refuse p c rc).yardTime = s.yardTime ∧ (s.refuse p c rc).subSecond = s.subSecond ∧
    (s.refuse p c rc).handedBack = s.handedBack ∧ (s.refuse p c rc).resetLow = s.resetLow ∧
    (s.refuse p c rc).detectors = s.detectors ∧ (s.refuse p c rc).links = s.links ∧
    (s.refuse p c rc).rotation = s.rotation ∧ (s.refuse p c rc).turn = s.turn ∧
    (s.refuse p c rc).strays = s.strays ∧ (s.refuse p c rc).dockets = s.dockets ∧
    (s.refuse p c rc).finished = s.finished ∧ (s.refuse p c rc).nextNumber = s.nextNumber ∧
    (s.refuse p c rc).openDocket = s.openDocket ∧ (s.refuse p c rc).grace = s.grace ∧
    (s.refuse p c rc).orderQueue = s.orderQueue ∧
    (s.refuse p c rc).dispenseTimer = s.dispenseTimer ∧ (s.refuse p c rc).float = s.float ∧
    (s.refuse p c rc).floatLow = s.floatLow ∧ (s.refuse p c rc).shortCause = s.shortCause ∧
    (s.refuse p c rc).emptyCause = s.emptyCause ∧ (s.refuse p c rc).accounts = s.accounts ∧
    (s.refuse p c rc).settlements = s.settlements ∧ (s.refuse p c rc).faults = s.faults ∧
    (s.refuse p c rc).settings = s.settings ∧ (s.refuse p c rc).lockout = s.lockout ∧
    (s.refuse p c rc).store = s.store ∧ (s.refuse p c rc).commitQueue = s.commitQueue ∧
    (s.refuse p c rc).held = s.held ∧ (s.refuse p c rc).program = s.program ∧
    (s.refuse p c rc).waiters = s.waiters ∧ (s.refuse p c rc).pins = s.pins ∧
    (s.refuse p c rc).freeCount = s.freeCount := by
  simp [State.refuse]

/-- Only the port changes. -/
@[simp] theorem State.toExecuting_frame (s : State) (p : Port) :
    (s.toExecuting p).pending = s.pending ∧ (s.toExecuting p).mode = s.mode ∧
    (s.toExecuting p).addrStrap = s.addrStrap ∧ (s.toExecuting p).address = s.address ∧
    (s.toExecuting p).yardTime = s.yardTime ∧ (s.toExecuting p).subSecond = s.subSecond ∧
    (s.toExecuting p).handedBack = s.handedBack ∧ (s.toExecuting p).resetLow = s.resetLow ∧
    (s.toExecuting p).detectors = s.detectors ∧ (s.toExecuting p).links = s.links ∧
    (s.toExecuting p).rotation = s.rotation ∧ (s.toExecuting p).turn = s.turn ∧
    (s.toExecuting p).strays = s.strays ∧ (s.toExecuting p).dockets = s.dockets ∧
    (s.toExecuting p).finished = s.finished ∧ (s.toExecuting p).nextNumber = s.nextNumber ∧
    (s.toExecuting p).openDocket = s.openDocket ∧ (s.toExecuting p).grace = s.grace ∧
    (s.toExecuting p).orderQueue = s.orderQueue ∧
    (s.toExecuting p).dispenseTimer = s.dispenseTimer ∧ (s.toExecuting p).float = s.float ∧
    (s.toExecuting p).floatLow = s.floatLow ∧ (s.toExecuting p).shortCause = s.shortCause ∧
    (s.toExecuting p).emptyCause = s.emptyCause ∧ (s.toExecuting p).accounts = s.accounts ∧
    (s.toExecuting p).settlements = s.settlements ∧ (s.toExecuting p).faults = s.faults ∧
    (s.toExecuting p).settings = s.settings ∧ (s.toExecuting p).lockout = s.lockout ∧
    (s.toExecuting p).store = s.store ∧ (s.toExecuting p).commitQueue = s.commitQueue ∧
    (s.toExecuting p).held = s.held ∧ (s.toExecuting p).program = s.program ∧
    (s.toExecuting p).waiters = s.waiters ∧ (s.toExecuting p).pins = s.pins ∧
    (s.toExecuting p).freeCount = s.freeCount := by
  simp [State.toExecuting]

/-- Only the port changes. -/
@[simp] theorem State.toReady_frame (s : State) (p : Port) :
    (s.toReady p).pending = s.pending ∧ (s.toReady p).mode = s.mode ∧
    (s.toReady p).addrStrap = s.addrStrap ∧ (s.toReady p).address = s.address ∧
    (s.toReady p).yardTime = s.yardTime ∧ (s.toReady p).subSecond = s.subSecond ∧
    (s.toReady p).handedBack = s.handedBack ∧ (s.toReady p).resetLow = s.resetLow ∧
    (s.toReady p).detectors = s.detectors ∧ (s.toReady p).links = s.links ∧
    (s.toReady p).rotation = s.rotation ∧ (s.toReady p).turn = s.turn ∧
    (s.toReady p).strays = s.strays ∧ (s.toReady p).dockets = s.dockets ∧
    (s.toReady p).finished = s.finished ∧ (s.toReady p).nextNumber = s.nextNumber ∧
    (s.toReady p).openDocket = s.openDocket ∧ (s.toReady p).grace = s.grace ∧
    (s.toReady p).orderQueue = s.orderQueue ∧ (s.toReady p).dispenseTimer = s.dispenseTimer ∧
    (s.toReady p).float = s.float ∧ (s.toReady p).floatLow = s.floatLow ∧
    (s.toReady p).shortCause = s.shortCause ∧ (s.toReady p).emptyCause = s.emptyCause ∧
    (s.toReady p).accounts = s.accounts ∧ (s.toReady p).settlements = s.settlements ∧
    (s.toReady p).faults = s.faults ∧ (s.toReady p).settings = s.settings ∧
    (s.toReady p).lockout = s.lockout ∧ (s.toReady p).store = s.store ∧
    (s.toReady p).commitQueue = s.commitQueue ∧ (s.toReady p).held = s.held ∧
    (s.toReady p).program = s.program ∧ (s.toReady p).waiters = s.waiters ∧
    (s.toReady p).pins = s.pins ∧ (s.toReady p).freeCount = s.freeCount := by
  simp [State.toReady]

/-- Only the port changes. -/
@[simp] theorem State.answerWaiting_frame (s : State) (p : Port) (c : CommandCode) (rc : ResultCode) (b : Body) :
    (s.answerWaiting p c rc b).pending = s.pending ∧ (s.answerWaiting p c rc b).mode = s.mode ∧
    (s.answerWaiting p c rc b).addrStrap = s.addrStrap ∧
    (s.answerWaiting p c rc b).address = s.address ∧
    (s.answerWaiting p c rc b).yardTime = s.yardTime ∧
    (s.answerWaiting p c rc b).subSecond = s.subSecond ∧
    (s.answerWaiting p c rc b).handedBack = s.handedBack ∧
    (s.answerWaiting p c rc b).resetLow = s.resetLow ∧
    (s.answerWaiting p c rc b).detectors = s.detectors ∧
    (s.answerWaiting p c rc b).links = s.links ∧ (s.answerWaiting p c rc b).rotation = s.rotation ∧
    (s.answerWaiting p c rc b).turn = s.turn ∧ (s.answerWaiting p c rc b).strays = s.strays ∧
    (s.answerWaiting p c rc b).dockets = s.dockets ∧
    (s.answerWaiting p c rc b).finished = s.finished ∧
    (s.answerWaiting p c rc b).nextNumber = s.nextNumber ∧
    (s.answerWaiting p c rc b).openDocket = s.openDocket ∧
    (s.answerWaiting p c rc b).grace = s.grace ∧
    (s.answerWaiting p c rc b).orderQueue = s.orderQueue ∧
    (s.answerWaiting p c rc b).dispenseTimer = s.dispenseTimer ∧
    (s.answerWaiting p c rc b).float = s.float ∧ (s.answerWaiting p c rc b).floatLow = s.floatLow ∧
    (s.answerWaiting p c rc b).shortCause = s.shortCause ∧
    (s.answerWaiting p c rc b).emptyCause = s.emptyCause ∧
    (s.answerWaiting p c rc b).accounts = s.accounts ∧
    (s.answerWaiting p c rc b).settlements = s.settlements ∧
    (s.answerWaiting p c rc b).faults = s.faults ∧
    (s.answerWaiting p c rc b).settings = s.settings ∧
    (s.answerWaiting p c rc b).lockout = s.lockout ∧ (s.answerWaiting p c rc b).store = s.store ∧
    (s.answerWaiting p c rc b).commitQueue = s.commitQueue ∧
    (s.answerWaiting p c rc b).held = s.held ∧ (s.answerWaiting p c rc b).program = s.program ∧
    (s.answerWaiting p c rc b).waiters = s.waiters ∧ (s.answerWaiting p c rc b).pins = s.pins ∧
    (s.answerWaiting p c rc b).freeCount = s.freeCount := by
  unfold State.answerWaiting; split <;> simp

/-- Only the lines change. -/
@[simp] theorem State.drivePins_frame (s : State) :
    (s.drivePins).pending = s.pending ∧ (s.drivePins).mode = s.mode ∧
    (s.drivePins).addrStrap = s.addrStrap ∧ (s.drivePins).address = s.address ∧
    (s.drivePins).yardTime = s.yardTime ∧ (s.drivePins).subSecond = s.subSecond ∧
    (s.drivePins).handedBack = s.handedBack ∧ (s.drivePins).resetLow = s.resetLow ∧
    (s.drivePins).detectors = s.detectors ∧ (s.drivePins).links = s.links ∧
    (s.drivePins).rotation = s.rotation ∧ (s.drivePins).turn = s.turn ∧
    (s.drivePins).strays = s.strays ∧ (s.drivePins).dockets = s.dockets ∧
    (s.drivePins).finished = s.finished ∧ (s.drivePins).nextNumber = s.nextNumber ∧
    (s.drivePins).openDocket = s.openDocket ∧ (s.drivePins).grace = s.grace ∧
    (s.drivePins).orderQueue = s.orderQueue ∧ (s.drivePins).dispenseTimer = s.dispenseTimer ∧
    (s.drivePins).float = s.float ∧ (s.drivePins).floatLow = s.floatLow ∧
    (s.drivePins).shortCause = s.shortCause ∧ (s.drivePins).emptyCause = s.emptyCause ∧
    (s.drivePins).accounts = s.accounts ∧ (s.drivePins).settlements = s.settlements ∧
    (s.drivePins).faults = s.faults ∧ (s.drivePins).settings = s.settings ∧
    (s.drivePins).lockout = s.lockout ∧ (s.drivePins).store = s.store ∧
    (s.drivePins).commitQueue = s.commitQueue ∧ (s.drivePins).held = s.held ∧
    (s.drivePins).program = s.program ∧ (s.drivePins).waiters = s.waiters ∧
    (s.drivePins).ports = s.ports ∧ (s.drivePins).freeCount = s.freeCount := by
  simp [State.drivePins]

/-- A refusal changes its port and its line alone (R1). -/
@[simp] theorem State.refused_frame (s : State) (p : Port) (c : CommandCode) (rc : ResultCode) :
    (s.refused p c rc).pending = s.pending ∧ (s.refused p c rc).mode = s.mode ∧
    (s.refused p c rc).addrStrap = s.addrStrap ∧ (s.refused p c rc).address = s.address ∧
    (s.refused p c rc).yardTime = s.yardTime ∧ (s.refused p c rc).subSecond = s.subSecond ∧
    (s.refused p c rc).handedBack = s.handedBack ∧ (s.refused p c rc).resetLow = s.resetLow ∧
    (s.refused p c rc).detectors = s.detectors ∧ (s.refused p c rc).links = s.links ∧
    (s.refused p c rc).rotation = s.rotation ∧ (s.refused p c rc).turn = s.turn ∧
    (s.refused p c rc).strays = s.strays ∧ (s.refused p c rc).dockets = s.dockets ∧
    (s.refused p c rc).finished = s.finished ∧ (s.refused p c rc).nextNumber = s.nextNumber ∧
    (s.refused p c rc).openDocket = s.openDocket ∧ (s.refused p c rc).grace = s.grace ∧
    (s.refused p c rc).orderQueue = s.orderQueue ∧
    (s.refused p c rc).dispenseTimer = s.dispenseTimer ∧ (s.refused p c rc).float = s.float ∧
    (s.refused p c rc).floatLow = s.floatLow ∧ (s.refused p c rc).shortCause = s.shortCause ∧
    (s.refused p c rc).emptyCause = s.emptyCause ∧ (s.refused p c rc).accounts = s.accounts ∧
    (s.refused p c rc).settlements = s.settlements ∧ (s.refused p c rc).faults = s.faults ∧
    (s.refused p c rc).settings = s.settings ∧ (s.refused p c rc).lockout = s.lockout ∧
    (s.refused p c rc).store = s.store ∧ (s.refused p c rc).commitQueue = s.commitQueue ∧
    (s.refused p c rc).held = s.held ∧ (s.refused p c rc).program = s.program ∧
    (s.refused p c rc).waiters = s.waiters ∧ (s.refused p c rc).freeCount = s.freeCount := by
  simp [State.refused]

/-- A read changes its port and its line alone. -/
@[simp] theorem State.answered_frame (s : State) (p : Port) (c : CommandCode) (b : Body) :
    (s.answered p c b).pending = s.pending ∧ (s.answered p c b).mode = s.mode ∧
    (s.answered p c b).addrStrap = s.addrStrap ∧ (s.answered p c b).address = s.address ∧
    (s.answered p c b).yardTime = s.yardTime ∧ (s.answered p c b).subSecond = s.subSecond ∧
    (s.answered p c b).handedBack = s.handedBack ∧ (s.answered p c b).resetLow = s.resetLow ∧
    (s.answered p c b).detectors = s.detectors ∧ (s.answered p c b).links = s.links ∧
    (s.answered p c b).rotation = s.rotation ∧ (s.answered p c b).turn = s.turn ∧
    (s.answered p c b).strays = s.strays ∧ (s.answered p c b).dockets = s.dockets ∧
    (s.answered p c b).finished = s.finished ∧ (s.answered p c b).nextNumber = s.nextNumber ∧
    (s.answered p c b).openDocket = s.openDocket ∧ (s.answered p c b).grace = s.grace ∧
    (s.answered p c b).orderQueue = s.orderQueue ∧
    (s.answered p c b).dispenseTimer = s.dispenseTimer ∧ (s.answered p c b).float = s.float ∧
    (s.answered p c b).floatLow = s.floatLow ∧ (s.answered p c b).shortCause = s.shortCause ∧
    (s.answered p c b).emptyCause = s.emptyCause ∧ (s.answered p c b).accounts = s.accounts ∧
    (s.answered p c b).settlements = s.settlements ∧ (s.answered p c b).faults = s.faults ∧
    (s.answered p c b).settings = s.settings ∧ (s.answered p c b).lockout = s.lockout ∧
    (s.answered p c b).store = s.store ∧ (s.answered p c b).commitQueue = s.commitQueue ∧
    (s.answered p c b).held = s.held ∧ (s.answered p c b).program = s.program ∧
    (s.answered p c b).waiters = s.waiters ∧ (s.answered p c b).freeCount = s.freeCount := by
  simp [State.answered]

/-- Only the detectors change. -/
@[simp] theorem State.setDetector_frame (s : State) (n : Lane) (d : Detector) :
    (s.setDetector n d).pending = s.pending ∧ (s.setDetector n d).mode = s.mode ∧
    (s.setDetector n d).addrStrap = s.addrStrap ∧ (s.setDetector n d).address = s.address ∧
    (s.setDetector n d).yardTime = s.yardTime ∧ (s.setDetector n d).subSecond = s.subSecond ∧
    (s.setDetector n d).handedBack = s.handedBack ∧ (s.setDetector n d).resetLow = s.resetLow ∧
    (s.setDetector n d).links = s.links ∧ (s.setDetector n d).rotation = s.rotation ∧
    (s.setDetector n d).turn = s.turn ∧ (s.setDetector n d).strays = s.strays ∧
    (s.setDetector n d).dockets = s.dockets ∧ (s.setDetector n d).finished = s.finished ∧
    (s.setDetector n d).nextNumber = s.nextNumber ∧ (s.setDetector n d).openDocket = s.openDocket ∧
    (s.setDetector n d).grace = s.grace ∧ (s.setDetector n d).orderQueue = s.orderQueue ∧
    (s.setDetector n d).dispenseTimer = s.dispenseTimer ∧ (s.setDetector n d).float = s.float ∧
    (s.setDetector n d).floatLow = s.floatLow ∧ (s.setDetector n d).shortCause = s.shortCause ∧
    (s.setDetector n d).emptyCause = s.emptyCause ∧ (s.setDetector n d).accounts = s.accounts ∧
    (s.setDetector n d).settlements = s.settlements ∧ (s.setDetector n d).faults = s.faults ∧
    (s.setDetector n d).settings = s.settings ∧ (s.setDetector n d).lockout = s.lockout ∧
    (s.setDetector n d).store = s.store ∧ (s.setDetector n d).commitQueue = s.commitQueue ∧
    (s.setDetector n d).held = s.held ∧ (s.setDetector n d).program = s.program ∧
    (s.setDetector n d).waiters = s.waiters ∧ (s.setDetector n d).ports = s.ports ∧
    (s.setDetector n d).pins = s.pins ∧ (s.setDetector n d).freeCount = s.freeCount := by
  simp [State.setDetector]

/-- Only the link's figures change. -/
@[simp] theorem State.setLink_frame (s : State) (n : Lane) (l : LaneLink) :
    (s.setLink n l).pending = s.pending ∧ (s.setLink n l).mode = s.mode ∧
    (s.setLink n l).addrStrap = s.addrStrap ∧ (s.setLink n l).address = s.address ∧
    (s.setLink n l).yardTime = s.yardTime ∧ (s.setLink n l).subSecond = s.subSecond ∧
    (s.setLink n l).handedBack = s.handedBack ∧ (s.setLink n l).resetLow = s.resetLow ∧
    (s.setLink n l).detectors = s.detectors ∧ (s.setLink n l).rotation = s.rotation ∧
    (s.setLink n l).turn = s.turn ∧ (s.setLink n l).strays = s.strays ∧
    (s.setLink n l).dockets = s.dockets ∧ (s.setLink n l).finished = s.finished ∧
    (s.setLink n l).nextNumber = s.nextNumber ∧ (s.setLink n l).openDocket = s.openDocket ∧
    (s.setLink n l).grace = s.grace ∧ (s.setLink n l).orderQueue = s.orderQueue ∧
    (s.setLink n l).dispenseTimer = s.dispenseTimer ∧ (s.setLink n l).float = s.float ∧
    (s.setLink n l).floatLow = s.floatLow ∧ (s.setLink n l).shortCause = s.shortCause ∧
    (s.setLink n l).emptyCause = s.emptyCause ∧ (s.setLink n l).accounts = s.accounts ∧
    (s.setLink n l).settlements = s.settlements ∧ (s.setLink n l).faults = s.faults ∧
    (s.setLink n l).settings = s.settings ∧ (s.setLink n l).lockout = s.lockout ∧
    (s.setLink n l).store = s.store ∧ (s.setLink n l).commitQueue = s.commitQueue ∧
    (s.setLink n l).held = s.held ∧ (s.setLink n l).program = s.program ∧
    (s.setLink n l).waiters = s.waiters ∧ (s.setLink n l).ports = s.ports ∧
    (s.setLink n l).pins = s.pins ∧ (s.setLink n l).freeCount = s.freeCount := by
  simp [State.setLink]

/-- A lane's move changes the detectors and the Lane port's flag (R88). -/
@[simp] theorem State.moveLane_frame (s : State) (n : Lane) (d : Detector) :
    (s.moveLane n d).pending = s.pending ∧ (s.moveLane n d).mode = s.mode ∧
    (s.moveLane n d).addrStrap = s.addrStrap ∧ (s.moveLane n d).address = s.address ∧
    (s.moveLane n d).yardTime = s.yardTime ∧ (s.moveLane n d).subSecond = s.subSecond ∧
    (s.moveLane n d).handedBack = s.handedBack ∧ (s.moveLane n d).resetLow = s.resetLow ∧
    (s.moveLane n d).links = s.links ∧ (s.moveLane n d).rotation = s.rotation ∧
    (s.moveLane n d).turn = s.turn ∧ (s.moveLane n d).strays = s.strays ∧
    (s.moveLane n d).dockets = s.dockets ∧ (s.moveLane n d).finished = s.finished ∧
    (s.moveLane n d).nextNumber = s.nextNumber ∧ (s.moveLane n d).openDocket = s.openDocket ∧
    (s.moveLane n d).grace = s.grace ∧ (s.moveLane n d).orderQueue = s.orderQueue ∧
    (s.moveLane n d).dispenseTimer = s.dispenseTimer ∧ (s.moveLane n d).float = s.float ∧
    (s.moveLane n d).floatLow = s.floatLow ∧ (s.moveLane n d).shortCause = s.shortCause ∧
    (s.moveLane n d).emptyCause = s.emptyCause ∧ (s.moveLane n d).accounts = s.accounts ∧
    (s.moveLane n d).settlements = s.settlements ∧ (s.moveLane n d).faults = s.faults ∧
    (s.moveLane n d).settings = s.settings ∧ (s.moveLane n d).lockout = s.lockout ∧
    (s.moveLane n d).store = s.store ∧ (s.moveLane n d).commitQueue = s.commitQueue ∧
    (s.moveLane n d).held = s.held ∧ (s.moveLane n d).program = s.program ∧
    (s.moveLane n d).waiters = s.waiters ∧ (s.moveLane n d).pins = s.pins ∧
    (s.moveLane n d).freeCount = s.freeCount := by
  unfold State.moveLane; split <;> simp

/-- Only the docket table changes. -/
@[simp] theorem State.updateDocket_frame (s : State) (num : Nat) (f : Docket → Docket) :
    (s.updateDocket num f).pending = s.pending ∧ (s.updateDocket num f).mode = s.mode ∧
    (s.updateDocket num f).addrStrap = s.addrStrap ∧ (s.updateDocket num f).address = s.address ∧
    (s.updateDocket num f).yardTime = s.yardTime ∧ (s.updateDocket num f).subSecond = s.subSecond ∧
    (s.updateDocket num f).handedBack = s.handedBack ∧
    (s.updateDocket num f).resetLow = s.resetLow ∧
    (s.updateDocket num f).detectors = s.detectors ∧ (s.updateDocket num f).links = s.links ∧
    (s.updateDocket num f).rotation = s.rotation ∧ (s.updateDocket num f).turn = s.turn ∧
    (s.updateDocket num f).strays = s.strays ∧ (s.updateDocket num f).finished = s.finished ∧
    (s.updateDocket num f).nextNumber = s.nextNumber ∧
    (s.updateDocket num f).openDocket = s.openDocket ∧ (s.updateDocket num f).grace = s.grace ∧
    (s.updateDocket num f).orderQueue = s.orderQueue ∧
    (s.updateDocket num f).dispenseTimer = s.dispenseTimer ∧
    (s.updateDocket num f).float = s.float ∧ (s.updateDocket num f).floatLow = s.floatLow ∧
    (s.updateDocket num f).shortCause = s.shortCause ∧
    (s.updateDocket num f).emptyCause = s.emptyCause ∧
    (s.updateDocket num f).accounts = s.accounts ∧
    (s.updateDocket num f).settlements = s.settlements ∧ (s.updateDocket num f).faults = s.faults ∧
    (s.updateDocket num f).settings = s.settings ∧ (s.updateDocket num f).lockout = s.lockout ∧
    (s.updateDocket num f).store = s.store ∧ (s.updateDocket num f).commitQueue = s.commitQueue ∧
    (s.updateDocket num f).held = s.held ∧ (s.updateDocket num f).program = s.program ∧
    (s.updateDocket num f).waiters = s.waiters ∧ (s.updateDocket num f).ports = s.ports ∧
    (s.updateDocket num f).pins = s.pins ∧ (s.updateDocket num f).freeCount = s.freeCount := by
  simp [State.updateDocket]

/-- Only the docket table changes. -/
@[simp] theorem State.updateOrder_frame (s : State) (num : Nat) (f : Order → Order) :
    (s.updateOrder num f).pending = s.pending ∧ (s.updateOrder num f).mode = s.mode ∧
    (s.updateOrder num f).addrStrap = s.addrStrap ∧ (s.updateOrder num f).address = s.address ∧
    (s.updateOrder num f).yardTime = s.yardTime ∧ (s.updateOrder num f).subSecond = s.subSecond ∧
    (s.updateOrder num f).handedBack = s.handedBack ∧ (s.updateOrder num f).resetLow = s.resetLow ∧
    (s.updateOrder num f).detectors = s.detectors ∧ (s.updateOrder num f).links = s.links ∧
    (s.updateOrder num f).rotation = s.rotation ∧ (s.updateOrder num f).turn = s.turn ∧
    (s.updateOrder num f).strays = s.strays ∧ (s.updateOrder num f).finished = s.finished ∧
    (s.updateOrder num f).nextNumber = s.nextNumber ∧
    (s.updateOrder num f).openDocket = s.openDocket ∧ (s.updateOrder num f).grace = s.grace ∧
    (s.updateOrder num f).orderQueue = s.orderQueue ∧
    (s.updateOrder num f).dispenseTimer = s.dispenseTimer ∧ (s.updateOrder num f).float = s.float ∧
    (s.updateOrder num f).floatLow = s.floatLow ∧ (s.updateOrder num f).shortCause = s.shortCause ∧
    (s.updateOrder num f).emptyCause = s.emptyCause ∧ (s.updateOrder num f).accounts = s.accounts ∧
    (s.updateOrder num f).settlements = s.settlements ∧ (s.updateOrder num f).faults = s.faults ∧
    (s.updateOrder num f).settings = s.settings ∧ (s.updateOrder num f).lockout = s.lockout ∧
    (s.updateOrder num f).store = s.store ∧ (s.updateOrder num f).commitQueue = s.commitQueue ∧
    (s.updateOrder num f).held = s.held ∧ (s.updateOrder num f).program = s.program ∧
    (s.updateOrder num f).waiters = s.waiters ∧ (s.updateOrder num f).ports = s.ports ∧
    (s.updateOrder num f).pins = s.pins ∧ (s.updateOrder num f).freeCount = s.freeCount := by
  simp [State.updateOrder]

/-- Only the docket table changes. -/
@[simp] theorem State.setOrderState_frame (s : State) (num : Nat) (st : OrderState) :
    (s.setOrderState num st).pending = s.pending ∧ (s.setOrderState num st).mode = s.mode ∧
    (s.setOrderState num st).addrStrap = s.addrStrap ∧
    (s.setOrderState num st).address = s.address ∧ (s.setOrderState num st).yardTime = s.yardTime ∧
    (s.setOrderState num st).subSecond = s.subSecond ∧
    (s.setOrderState num st).handedBack = s.handedBack ∧
    (s.setOrderState num st).resetLow = s.resetLow ∧
    (s.setOrderState num st).detectors = s.detectors ∧ (s.setOrderState num st).links = s.links ∧
    (s.setOrderState num st).rotation = s.rotation ∧ (s.setOrderState num st).turn = s.turn ∧
    (s.setOrderState num st).strays = s.strays ∧ (s.setOrderState num st).finished = s.finished ∧
    (s.setOrderState num st).nextNumber = s.nextNumber ∧
    (s.setOrderState num st).openDocket = s.openDocket ∧ (s.setOrderState num st).grace = s.grace ∧
    (s.setOrderState num st).orderQueue = s.orderQueue ∧
    (s.setOrderState num st).dispenseTimer = s.dispenseTimer ∧
    (s.setOrderState num st).float = s.float ∧ (s.setOrderState num st).floatLow = s.floatLow ∧
    (s.setOrderState num st).shortCause = s.shortCause ∧
    (s.setOrderState num st).emptyCause = s.emptyCause ∧
    (s.setOrderState num st).accounts = s.accounts ∧
    (s.setOrderState num st).settlements = s.settlements ∧
    (s.setOrderState num st).faults = s.faults ∧ (s.setOrderState num st).settings = s.settings ∧
    (s.setOrderState num st).lockout = s.lockout ∧ (s.setOrderState num st).store = s.store ∧
    (s.setOrderState num st).commitQueue = s.commitQueue ∧ (s.setOrderState num st).held = s.held ∧
    (s.setOrderState num st).program = s.program ∧ (s.setOrderState num st).waiters = s.waiters ∧
    (s.setOrderState num st).ports = s.ports ∧ (s.setOrderState num st).pins = s.pins ∧
    (s.setOrderState num st).freeCount = s.freeCount := by
  simp [State.setOrderState]

/-- Queueing a record changes the commit queue and the held-account list alone (R64, R66). -/
@[simp] theorem State.queueRecord_frame (s : State) (r : RecordId) (edit : Bool) :
    (s.queueRecord r edit).pending = s.pending ∧ (s.queueRecord r edit).mode = s.mode ∧
    (s.queueRecord r edit).addrStrap = s.addrStrap ∧ (s.queueRecord r edit).address = s.address ∧
    (s.queueRecord r edit).yardTime = s.yardTime ∧ (s.queueRecord r edit).subSecond = s.subSecond ∧
    (s.queueRecord r edit).handedBack = s.handedBack ∧
    (s.queueRecord r edit).resetLow = s.resetLow ∧
    (s.queueRecord r edit).detectors = s.detectors ∧ (s.queueRecord r edit).links = s.links ∧
    (s.queueRecord r edit).rotation = s.rotation ∧ (s.queueRecord r edit).turn = s.turn ∧
    (s.queueRecord r edit).strays = s.strays ∧ (s.queueRecord r edit).dockets = s.dockets ∧
    (s.queueRecord r edit).finished = s.finished ∧
    (s.queueRecord r edit).nextNumber = s.nextNumber ∧
    (s.queueRecord r edit).openDocket = s.openDocket ∧ (s.queueRecord r edit).grace = s.grace ∧
    (s.queueRecord r edit).orderQueue = s.orderQueue ∧
    (s.queueRecord r edit).dispenseTimer = s.dispenseTimer ∧
    (s.queueRecord r edit).float = s.float ∧ (s.queueRecord r edit).floatLow = s.floatLow ∧
    (s.queueRecord r edit).shortCause = s.shortCause ∧
    (s.queueRecord r edit).emptyCause = s.emptyCause ∧
    (s.queueRecord r edit).accounts = s.accounts ∧
    (s.queueRecord r edit).settlements = s.settlements ∧ (s.queueRecord r edit).faults = s.faults ∧
    (s.queueRecord r edit).settings = s.settings ∧ (s.queueRecord r edit).lockout = s.lockout ∧
    (s.queueRecord r edit).store = s.store ∧ (s.queueRecord r edit).program = s.program ∧
    (s.queueRecord r edit).waiters = s.waiters ∧ (s.queueRecord r edit).ports = s.ports ∧
    (s.queueRecord r edit).pins = s.pins ∧ (s.queueRecord r edit).freeCount = s.freeCount := by
  unfold State.queueRecord; (repeat' split) <;> simp

/-- Only the waiters change. -/
@[simp] theorem State.wait_frame (s : State) (r : RecordId) (k : WaitKind) :
    (s.wait r k).pending = s.pending ∧ (s.wait r k).mode = s.mode ∧
    (s.wait r k).addrStrap = s.addrStrap ∧ (s.wait r k).address = s.address ∧
    (s.wait r k).yardTime = s.yardTime ∧ (s.wait r k).subSecond = s.subSecond ∧
    (s.wait r k).handedBack = s.handedBack ∧ (s.wait r k).resetLow = s.resetLow ∧
    (s.wait r k).detectors = s.detectors ∧ (s.wait r k).links = s.links ∧
    (s.wait r k).rotation = s.rotation ∧ (s.wait r k).turn = s.turn ∧
    (s.wait r k).strays = s.strays ∧ (s.wait r k).dockets = s.dockets ∧
    (s.wait r k).finished = s.finished ∧ (s.wait r k).nextNumber = s.nextNumber ∧
    (s.wait r k).openDocket = s.openDocket ∧ (s.wait r k).grace = s.grace ∧
    (s.wait r k).orderQueue = s.orderQueue ∧ (s.wait r k).dispenseTimer = s.dispenseTimer ∧
    (s.wait r k).float = s.float ∧ (s.wait r k).floatLow = s.floatLow ∧
    (s.wait r k).shortCause = s.shortCause ∧ (s.wait r k).emptyCause = s.emptyCause ∧
    (s.wait r k).accounts = s.accounts ∧ (s.wait r k).settlements = s.settlements ∧
    (s.wait r k).faults = s.faults ∧ (s.wait r k).settings = s.settings ∧
    (s.wait r k).lockout = s.lockout ∧ (s.wait r k).store = s.store ∧
    (s.wait r k).commitQueue = s.commitQueue ∧ (s.wait r k).held = s.held ∧
    (s.wait r k).program = s.program ∧ (s.wait r k).ports = s.ports ∧ (s.wait r k).pins = s.pins ∧
    (s.wait r k).freeCount = s.freeCount := by
  simp [State.wait]

/-- A program's beginning changes its queue entry and its waiters (R64, R70). -/
@[simp] theorem State.beginProgram_frame (s : State) :
    (s.beginProgram).pending = s.pending ∧ (s.beginProgram).mode = s.mode ∧
    (s.beginProgram).addrStrap = s.addrStrap ∧ (s.beginProgram).address = s.address ∧
    (s.beginProgram).yardTime = s.yardTime ∧ (s.beginProgram).subSecond = s.subSecond ∧
    (s.beginProgram).handedBack = s.handedBack ∧ (s.beginProgram).resetLow = s.resetLow ∧
    (s.beginProgram).detectors = s.detectors ∧ (s.beginProgram).links = s.links ∧
    (s.beginProgram).rotation = s.rotation ∧ (s.beginProgram).turn = s.turn ∧
    (s.beginProgram).strays = s.strays ∧ (s.beginProgram).dockets = s.dockets ∧
    (s.beginProgram).finished = s.finished ∧ (s.beginProgram).nextNumber = s.nextNumber ∧
    (s.beginProgram).openDocket = s.openDocket ∧ (s.beginProgram).grace = s.grace ∧
    (s.beginProgram).orderQueue = s.orderQueue ∧ (s.beginProgram).dispenseTimer = s.dispenseTimer ∧
    (s.beginProgram).float = s.float ∧ (s.beginProgram).floatLow = s.floatLow ∧
    (s.beginProgram).shortCause = s.shortCause ∧ (s.beginProgram).emptyCause = s.emptyCause ∧
    (s.beginProgram).accounts = s.accounts ∧ (s.beginProgram).settlements = s.settlements ∧
    (s.beginProgram).faults = s.faults ∧ (s.beginProgram).settings = s.settings ∧
    (s.beginProgram).lockout = s.lockout ∧ (s.beginProgram).store = s.store ∧
    (s.beginProgram).held = s.held ∧ (s.beginProgram).ports = s.ports ∧
    (s.beginProgram).pins = s.pins ∧ (s.beginProgram).freeCount = s.freeCount := by
  unfold State.beginProgram; (repeat' split) <;> simp

/-- Only the store changes, by the next free value. -/
@[simp] theorem State.leaveResidue_frame (s : State) (g : Program) (f : Residue → Residue) :
    (s.leaveResidue g f).pending = s.pending ∧ (s.leaveResidue g f).mode = s.mode ∧
    (s.leaveResidue g f).addrStrap = s.addrStrap ∧ (s.leaveResidue g f).address = s.address ∧
    (s.leaveResidue g f).yardTime = s.yardTime ∧ (s.leaveResidue g f).subSecond = s.subSecond ∧
    (s.leaveResidue g f).handedBack = s.handedBack ∧ (s.leaveResidue g f).resetLow = s.resetLow ∧
    (s.leaveResidue g f).detectors = s.detectors ∧ (s.leaveResidue g f).links = s.links ∧
    (s.leaveResidue g f).rotation = s.rotation ∧ (s.leaveResidue g f).turn = s.turn ∧
    (s.leaveResidue g f).strays = s.strays ∧ (s.leaveResidue g f).dockets = s.dockets ∧
    (s.leaveResidue g f).finished = s.finished ∧ (s.leaveResidue g f).nextNumber = s.nextNumber ∧
    (s.leaveResidue g f).openDocket = s.openDocket ∧ (s.leaveResidue g f).grace = s.grace ∧
    (s.leaveResidue g f).orderQueue = s.orderQueue ∧
    (s.leaveResidue g f).dispenseTimer = s.dispenseTimer ∧ (s.leaveResidue g f).float = s.float ∧
    (s.leaveResidue g f).floatLow = s.floatLow ∧ (s.leaveResidue g f).shortCause = s.shortCause ∧
    (s.leaveResidue g f).emptyCause = s.emptyCause ∧ (s.leaveResidue g f).accounts = s.accounts ∧
    (s.leaveResidue g f).settlements = s.settlements ∧ (s.leaveResidue g f).faults = s.faults ∧
    (s.leaveResidue g f).settings = s.settings ∧ (s.leaveResidue g f).lockout = s.lockout ∧
    (s.leaveResidue g f).commitQueue = s.commitQueue ∧ (s.leaveResidue g f).held = s.held ∧
    (s.leaveResidue g f).program = s.program ∧ (s.leaveResidue g f).waiters = s.waiters ∧
    (s.leaveResidue g f).ports = s.ports ∧ (s.leaveResidue g f).pins = s.pins := by
  simp [State.leaveResidue]

/-- Only the store changes, and the counter of free values where one is used. -/
@[simp] theorem State.leaveFailed_frame (s : State) (g : Program) :
    (s.leaveFailed g).pending = s.pending ∧ (s.leaveFailed g).mode = s.mode ∧
    (s.leaveFailed g).addrStrap = s.addrStrap ∧ (s.leaveFailed g).address = s.address ∧
    (s.leaveFailed g).yardTime = s.yardTime ∧ (s.leaveFailed g).subSecond = s.subSecond ∧
    (s.leaveFailed g).handedBack = s.handedBack ∧ (s.leaveFailed g).resetLow = s.resetLow ∧
    (s.leaveFailed g).detectors = s.detectors ∧ (s.leaveFailed g).links = s.links ∧
    (s.leaveFailed g).rotation = s.rotation ∧ (s.leaveFailed g).turn = s.turn ∧
    (s.leaveFailed g).strays = s.strays ∧ (s.leaveFailed g).dockets = s.dockets ∧
    (s.leaveFailed g).finished = s.finished ∧ (s.leaveFailed g).nextNumber = s.nextNumber ∧
    (s.leaveFailed g).openDocket = s.openDocket ∧ (s.leaveFailed g).grace = s.grace ∧
    (s.leaveFailed g).orderQueue = s.orderQueue ∧
    (s.leaveFailed g).dispenseTimer = s.dispenseTimer ∧ (s.leaveFailed g).float = s.float ∧
    (s.leaveFailed g).floatLow = s.floatLow ∧ (s.leaveFailed g).shortCause = s.shortCause ∧
    (s.leaveFailed g).emptyCause = s.emptyCause ∧ (s.leaveFailed g).accounts = s.accounts ∧
    (s.leaveFailed g).settlements = s.settlements ∧ (s.leaveFailed g).faults = s.faults ∧
    (s.leaveFailed g).settings = s.settings ∧ (s.leaveFailed g).lockout = s.lockout ∧
    (s.leaveFailed g).commitQueue = s.commitQueue ∧ (s.leaveFailed g).held = s.held ∧
    (s.leaveFailed g).program = s.program ∧ (s.leaveFailed g).waiters = s.waiters ∧
    (s.leaveFailed g).ports = s.ports ∧ (s.leaveFailed g).pins = s.pins := by
  unfold State.leaveFailed; split <;> simp

/-- A cut-off changes the store alone (R73). -/
@[simp] theorem State.cutProgram_frame (s : State) :
    (s.cutProgram).pending = s.pending ∧ (s.cutProgram).mode = s.mode ∧
    (s.cutProgram).addrStrap = s.addrStrap ∧ (s.cutProgram).address = s.address ∧
    (s.cutProgram).yardTime = s.yardTime ∧ (s.cutProgram).subSecond = s.subSecond ∧
    (s.cutProgram).handedBack = s.handedBack ∧ (s.cutProgram).resetLow = s.resetLow ∧
    (s.cutProgram).detectors = s.detectors ∧ (s.cutProgram).links = s.links ∧
    (s.cutProgram).rotation = s.rotation ∧ (s.cutProgram).turn = s.turn ∧
    (s.cutProgram).strays = s.strays ∧ (s.cutProgram).dockets = s.dockets ∧
    (s.cutProgram).finished = s.finished ∧ (s.cutProgram).nextNumber = s.nextNumber ∧
    (s.cutProgram).openDocket = s.openDocket ∧ (s.cutProgram).grace = s.grace ∧
    (s.cutProgram).orderQueue = s.orderQueue ∧ (s.cutProgram).dispenseTimer = s.dispenseTimer ∧
    (s.cutProgram).float = s.float ∧ (s.cutProgram).floatLow = s.floatLow ∧
    (s.cutProgram).shortCause = s.shortCause ∧ (s.cutProgram).emptyCause = s.emptyCause ∧
    (s.cutProgram).accounts = s.accounts ∧ (s.cutProgram).settlements = s.settlements ∧
    (s.cutProgram).faults = s.faults ∧ (s.cutProgram).settings = s.settings ∧
    (s.cutProgram).lockout = s.lockout ∧ (s.cutProgram).commitQueue = s.commitQueue ∧
    (s.cutProgram).held = s.held ∧ (s.cutProgram).waiters = s.waiters ∧
    (s.cutProgram).ports = s.ports ∧ (s.cutProgram).pins = s.pins := by
  unfold State.cutProgram; split <;> simp

/-- The end of an entry changes the commit queue and the held-account list alone (R66, R69). -/
@[simp] theorem State.entryEnds_frame (s : State) :
    (s.entryEnds).pending = s.pending ∧ (s.entryEnds).mode = s.mode ∧
    (s.entryEnds).addrStrap = s.addrStrap ∧ (s.entryEnds).address = s.address ∧
    (s.entryEnds).yardTime = s.yardTime ∧ (s.entryEnds).subSecond = s.subSecond ∧
    (s.entryEnds).handedBack = s.handedBack ∧ (s.entryEnds).resetLow = s.resetLow ∧
    (s.entryEnds).detectors = s.detectors ∧ (s.entryEnds).links = s.links ∧
    (s.entryEnds).rotation = s.rotation ∧ (s.entryEnds).turn = s.turn ∧
    (s.entryEnds).strays = s.strays ∧ (s.entryEnds).dockets = s.dockets ∧
    (s.entryEnds).finished = s.finished ∧ (s.entryEnds).nextNumber = s.nextNumber ∧
    (s.entryEnds).openDocket = s.openDocket ∧ (s.entryEnds).grace = s.grace ∧
    (s.entryEnds).orderQueue = s.orderQueue ∧ (s.entryEnds).dispenseTimer = s.dispenseTimer ∧
    (s.entryEnds).float = s.float ∧ (s.entryEnds).floatLow = s.floatLow ∧
    (s.entryEnds).shortCause = s.shortCause ∧ (s.entryEnds).emptyCause = s.emptyCause ∧
    (s.entryEnds).accounts = s.accounts ∧ (s.entryEnds).settlements = s.settlements ∧
    (s.entryEnds).faults = s.faults ∧ (s.entryEnds).settings = s.settings ∧
    (s.entryEnds).lockout = s.lockout ∧ (s.entryEnds).store = s.store ∧
    (s.entryEnds).program = s.program ∧ (s.entryEnds).waiters = s.waiters ∧
    (s.entryEnds).ports = s.ports ∧ (s.entryEnds).pins = s.pins ∧
    (s.entryEnds).freeCount = s.freeCount := by
  unfold State.entryEnds; (repeat' split) <;> simp

/-- Evaluating lockout changes lockout and its events alone (R167, R169). -/
@[simp] theorem State.evalLockout_frame (s : State) :
    (s.evalLockout).pending = s.pending ∧ (s.evalLockout).mode = s.mode ∧
    (s.evalLockout).addrStrap = s.addrStrap ∧ (s.evalLockout).address = s.address ∧
    (s.evalLockout).yardTime = s.yardTime ∧ (s.evalLockout).subSecond = s.subSecond ∧
    (s.evalLockout).handedBack = s.handedBack ∧ (s.evalLockout).resetLow = s.resetLow ∧
    (s.evalLockout).detectors = s.detectors ∧ (s.evalLockout).links = s.links ∧
    (s.evalLockout).rotation = s.rotation ∧ (s.evalLockout).turn = s.turn ∧
    (s.evalLockout).strays = s.strays ∧ (s.evalLockout).dockets = s.dockets ∧
    (s.evalLockout).finished = s.finished ∧ (s.evalLockout).nextNumber = s.nextNumber ∧
    (s.evalLockout).openDocket = s.openDocket ∧ (s.evalLockout).grace = s.grace ∧
    (s.evalLockout).orderQueue = s.orderQueue ∧ (s.evalLockout).dispenseTimer = s.dispenseTimer ∧
    (s.evalLockout).float = s.float ∧ (s.evalLockout).floatLow = s.floatLow ∧
    (s.evalLockout).shortCause = s.shortCause ∧ (s.evalLockout).emptyCause = s.emptyCause ∧
    (s.evalLockout).accounts = s.accounts ∧ (s.evalLockout).settlements = s.settlements ∧
    (s.evalLockout).faults = s.faults ∧ (s.evalLockout).settings = s.settings ∧
    (s.evalLockout).store = s.store ∧ (s.evalLockout).commitQueue = s.commitQueue ∧
    (s.evalLockout).held = s.held ∧ (s.evalLockout).program = s.program ∧
    (s.evalLockout).waiters = s.waiters ∧ (s.evalLockout).pins = s.pins ∧
    (s.evalLockout).freeCount = s.freeCount := by
  unfold State.evalLockout; dsimp only; split <;> simp

/-- An occurrence changes the fault record, lockout and their events (R163 to R167). -/
@[simp] theorem State.noteFault_frame (s : State) (k : FaultKind) :
    (s.noteFault k).pending = s.pending ∧ (s.noteFault k).mode = s.mode ∧
    (s.noteFault k).addrStrap = s.addrStrap ∧ (s.noteFault k).address = s.address ∧
    (s.noteFault k).yardTime = s.yardTime ∧ (s.noteFault k).subSecond = s.subSecond ∧
    (s.noteFault k).handedBack = s.handedBack ∧ (s.noteFault k).resetLow = s.resetLow ∧
    (s.noteFault k).detectors = s.detectors ∧ (s.noteFault k).links = s.links ∧
    (s.noteFault k).rotation = s.rotation ∧ (s.noteFault k).turn = s.turn ∧
    (s.noteFault k).strays = s.strays ∧ (s.noteFault k).dockets = s.dockets ∧
    (s.noteFault k).finished = s.finished ∧ (s.noteFault k).nextNumber = s.nextNumber ∧
    (s.noteFault k).openDocket = s.openDocket ∧ (s.noteFault k).grace = s.grace ∧
    (s.noteFault k).orderQueue = s.orderQueue ∧ (s.noteFault k).dispenseTimer = s.dispenseTimer ∧
    (s.noteFault k).float = s.float ∧ (s.noteFault k).floatLow = s.floatLow ∧
    (s.noteFault k).shortCause = s.shortCause ∧ (s.noteFault k).emptyCause = s.emptyCause ∧
    (s.noteFault k).accounts = s.accounts ∧ (s.noteFault k).settlements = s.settlements ∧
    (s.noteFault k).settings = s.settings ∧ (s.noteFault k).store = s.store ∧
    (s.noteFault k).commitQueue = s.commitQueue ∧ (s.noteFault k).held = s.held ∧
    (s.noteFault k).program = s.program ∧ (s.noteFault k).waiters = s.waiters ∧
    (s.noteFault k).pins = s.pins ∧ (s.noteFault k).freeCount = s.freeCount := by
  simp [State.noteFault]

/-- An occurrence changes the fault record, lockout, their events and the commit queue (R165). -/
@[simp] theorem State.recordFault_frame (s : State) (k : FaultKind) :
    (s.recordFault k).pending = s.pending ∧ (s.recordFault k).mode = s.mode ∧
    (s.recordFault k).addrStrap = s.addrStrap ∧ (s.recordFault k).address = s.address ∧
    (s.recordFault k).yardTime = s.yardTime ∧ (s.recordFault k).subSecond = s.subSecond ∧
    (s.recordFault k).handedBack = s.handedBack ∧ (s.recordFault k).resetLow = s.resetLow ∧
    (s.recordFault k).detectors = s.detectors ∧ (s.recordFault k).links = s.links ∧
    (s.recordFault k).rotation = s.rotation ∧ (s.recordFault k).turn = s.turn ∧
    (s.recordFault k).strays = s.strays ∧ (s.recordFault k).dockets = s.dockets ∧
    (s.recordFault k).finished = s.finished ∧ (s.recordFault k).nextNumber = s.nextNumber ∧
    (s.recordFault k).openDocket = s.openDocket ∧ (s.recordFault k).grace = s.grace ∧
    (s.recordFault k).orderQueue = s.orderQueue ∧
    (s.recordFault k).dispenseTimer = s.dispenseTimer ∧ (s.recordFault k).float = s.float ∧
    (s.recordFault k).floatLow = s.floatLow ∧ (s.recordFault k).shortCause = s.shortCause ∧
    (s.recordFault k).emptyCause = s.emptyCause ∧ (s.recordFault k).accounts = s.accounts ∧
    (s.recordFault k).settlements = s.settlements ∧ (s.recordFault k).settings = s.settings ∧
    (s.recordFault k).store = s.store ∧ (s.recordFault k).program = s.program ∧
    (s.recordFault k).waiters = s.waiters ∧ (s.recordFault k).pins = s.pins ∧
    (s.recordFault k).freeCount = s.freeCount := by
  simp [State.recordFault]

/-- FLOAT_LOW and its events alone change (R58). -/
@[simp] theorem State.setFloatLow_frame (s : State) (b : Bool) :
    (s.setFloatLow b).pending = s.pending ∧ (s.setFloatLow b).mode = s.mode ∧
    (s.setFloatLow b).addrStrap = s.addrStrap ∧ (s.setFloatLow b).address = s.address ∧
    (s.setFloatLow b).yardTime = s.yardTime ∧ (s.setFloatLow b).subSecond = s.subSecond ∧
    (s.setFloatLow b).handedBack = s.handedBack ∧ (s.setFloatLow b).resetLow = s.resetLow ∧
    (s.setFloatLow b).detectors = s.detectors ∧ (s.setFloatLow b).links = s.links ∧
    (s.setFloatLow b).rotation = s.rotation ∧ (s.setFloatLow b).turn = s.turn ∧
    (s.setFloatLow b).strays = s.strays ∧ (s.setFloatLow b).dockets = s.dockets ∧
    (s.setFloatLow b).finished = s.finished ∧ (s.setFloatLow b).nextNumber = s.nextNumber ∧
    (s.setFloatLow b).openDocket = s.openDocket ∧ (s.setFloatLow b).grace = s.grace ∧
    (s.setFloatLow b).orderQueue = s.orderQueue ∧
    (s.setFloatLow b).dispenseTimer = s.dispenseTimer ∧ (s.setFloatLow b).float = s.float ∧
    (s.setFloatLow b).shortCause = s.shortCause ∧ (s.setFloatLow b).emptyCause = s.emptyCause ∧
    (s.setFloatLow b).accounts = s.accounts ∧ (s.setFloatLow b).settlements = s.settlements ∧
    (s.setFloatLow b).faults = s.faults ∧ (s.setFloatLow b).settings = s.settings ∧
    (s.setFloatLow b).lockout = s.lockout ∧ (s.setFloatLow b).store = s.store ∧
    (s.setFloatLow b).commitQueue = s.commitQueue ∧ (s.setFloatLow b).held = s.held ∧
    (s.setFloatLow b).program = s.program ∧ (s.setFloatLow b).waiters = s.waiters ∧
    (s.setFloatLow b).pins = s.pins ∧ (s.setFloatLow b).freeCount = s.freeCount := by
  unfold State.setFloatLow; split <;> simp

/-- The FLOAT_LOW check changes FLOAT_LOW and its events alone (R58). -/
@[simp] theorem State.checkFloatLow_frame (s : State) :
    (s.checkFloatLow).pending = s.pending ∧ (s.checkFloatLow).mode = s.mode ∧
    (s.checkFloatLow).addrStrap = s.addrStrap ∧ (s.checkFloatLow).address = s.address ∧
    (s.checkFloatLow).yardTime = s.yardTime ∧ (s.checkFloatLow).subSecond = s.subSecond ∧
    (s.checkFloatLow).handedBack = s.handedBack ∧ (s.checkFloatLow).resetLow = s.resetLow ∧
    (s.checkFloatLow).detectors = s.detectors ∧ (s.checkFloatLow).links = s.links ∧
    (s.checkFloatLow).rotation = s.rotation ∧ (s.checkFloatLow).turn = s.turn ∧
    (s.checkFloatLow).strays = s.strays ∧ (s.checkFloatLow).dockets = s.dockets ∧
    (s.checkFloatLow).finished = s.finished ∧ (s.checkFloatLow).nextNumber = s.nextNumber ∧
    (s.checkFloatLow).openDocket = s.openDocket ∧ (s.checkFloatLow).grace = s.grace ∧
    (s.checkFloatLow).orderQueue = s.orderQueue ∧
    (s.checkFloatLow).dispenseTimer = s.dispenseTimer ∧ (s.checkFloatLow).float = s.float ∧
    (s.checkFloatLow).shortCause = s.shortCause ∧ (s.checkFloatLow).emptyCause = s.emptyCause ∧
    (s.checkFloatLow).accounts = s.accounts ∧ (s.checkFloatLow).settlements = s.settlements ∧
    (s.checkFloatLow).faults = s.faults ∧ (s.checkFloatLow).settings = s.settings ∧
    (s.checkFloatLow).lockout = s.lockout ∧ (s.checkFloatLow).store = s.store ∧
    (s.checkFloatLow).commitQueue = s.commitQueue ∧ (s.checkFloatLow).held = s.held ∧
    (s.checkFloatLow).program = s.program ∧ (s.checkFloatLow).waiters = s.waiters ∧
    (s.checkFloatLow).pins = s.pins ∧ (s.checkFloatLow).freeCount = s.freeCount := by
  simp [State.checkFloatLow]

/-- Only the cause and its event change (R59). -/
@[simp] theorem State.setShortCause_frame (s : State) (b : Bool) :
    (s.setShortCause b).pending = s.pending ∧ (s.setShortCause b).mode = s.mode ∧
    (s.setShortCause b).addrStrap = s.addrStrap ∧ (s.setShortCause b).address = s.address ∧
    (s.setShortCause b).yardTime = s.yardTime ∧ (s.setShortCause b).subSecond = s.subSecond ∧
    (s.setShortCause b).handedBack = s.handedBack ∧ (s.setShortCause b).resetLow = s.resetLow ∧
    (s.setShortCause b).detectors = s.detectors ∧ (s.setShortCause b).links = s.links ∧
    (s.setShortCause b).rotation = s.rotation ∧ (s.setShortCause b).turn = s.turn ∧
    (s.setShortCause b).strays = s.strays ∧ (s.setShortCause b).dockets = s.dockets ∧
    (s.setShortCause b).finished = s.finished ∧ (s.setShortCause b).nextNumber = s.nextNumber ∧
    (s.setShortCause b).openDocket = s.openDocket ∧ (s.setShortCause b).grace = s.grace ∧
    (s.setShortCause b).orderQueue = s.orderQueue ∧ (s.setShortCause b).dispenseTimer = s.dispenseTimer ∧
    (s.setShortCause b).float = s.float ∧ (s.setShortCause b).floatLow = s.floatLow ∧
    (s.setShortCause b).emptyCause = s.emptyCause ∧ (s.setShortCause b).accounts = s.accounts ∧
    (s.setShortCause b).settlements = s.settlements ∧ (s.setShortCause b).faults = s.faults ∧
    (s.setShortCause b).settings = s.settings ∧ (s.setShortCause b).lockout = s.lockout ∧
    (s.setShortCause b).store = s.store ∧ (s.setShortCause b).commitQueue = s.commitQueue ∧
    (s.setShortCause b).held = s.held ∧ (s.setShortCause b).program = s.program ∧
    (s.setShortCause b).waiters = s.waiters ∧ (s.setShortCause b).pins = s.pins ∧
    (s.setShortCause b).freeCount = s.freeCount := by
  unfold State.setShortCause; split <;> simp

/-- The short-cause check changes the cause and its event alone (R59). -/
@[simp] theorem State.checkShort_frame (s : State) :
    (s.checkShort).pending = s.pending ∧ (s.checkShort).mode = s.mode ∧
    (s.checkShort).addrStrap = s.addrStrap ∧ (s.checkShort).address = s.address ∧
    (s.checkShort).yardTime = s.yardTime ∧ (s.checkShort).subSecond = s.subSecond ∧
    (s.checkShort).handedBack = s.handedBack ∧ (s.checkShort).resetLow = s.resetLow ∧
    (s.checkShort).detectors = s.detectors ∧ (s.checkShort).links = s.links ∧
    (s.checkShort).rotation = s.rotation ∧ (s.checkShort).turn = s.turn ∧
    (s.checkShort).strays = s.strays ∧ (s.checkShort).dockets = s.dockets ∧
    (s.checkShort).finished = s.finished ∧ (s.checkShort).nextNumber = s.nextNumber ∧
    (s.checkShort).openDocket = s.openDocket ∧ (s.checkShort).grace = s.grace ∧
    (s.checkShort).orderQueue = s.orderQueue ∧ (s.checkShort).dispenseTimer = s.dispenseTimer ∧
    (s.checkShort).float = s.float ∧ (s.checkShort).floatLow = s.floatLow ∧
    (s.checkShort).emptyCause = s.emptyCause ∧ (s.checkShort).accounts = s.accounts ∧
    (s.checkShort).settlements = s.settlements ∧ (s.checkShort).faults = s.faults ∧
    (s.checkShort).settings = s.settings ∧ (s.checkShort).lockout = s.lockout ∧
    (s.checkShort).store = s.store ∧ (s.checkShort).commitQueue = s.commitQueue ∧
    (s.checkShort).held = s.held ∧ (s.checkShort).program = s.program ∧
    (s.checkShort).waiters = s.waiters ∧ (s.checkShort).pins = s.pins ∧
    (s.checkShort).freeCount = s.freeCount := by
  simp [State.checkShort]

/-- Only the cause and its event change (R60). -/
@[simp] theorem State.setEmptyCause_frame (s : State) (b : Bool) :
    (s.setEmptyCause b).pending = s.pending ∧ (s.setEmptyCause b).mode = s.mode ∧
    (s.setEmptyCause b).addrStrap = s.addrStrap ∧ (s.setEmptyCause b).address = s.address ∧
    (s.setEmptyCause b).yardTime = s.yardTime ∧ (s.setEmptyCause b).subSecond = s.subSecond ∧
    (s.setEmptyCause b).handedBack = s.handedBack ∧ (s.setEmptyCause b).resetLow = s.resetLow ∧
    (s.setEmptyCause b).detectors = s.detectors ∧ (s.setEmptyCause b).links = s.links ∧
    (s.setEmptyCause b).rotation = s.rotation ∧ (s.setEmptyCause b).turn = s.turn ∧
    (s.setEmptyCause b).strays = s.strays ∧ (s.setEmptyCause b).dockets = s.dockets ∧
    (s.setEmptyCause b).finished = s.finished ∧ (s.setEmptyCause b).nextNumber = s.nextNumber ∧
    (s.setEmptyCause b).openDocket = s.openDocket ∧ (s.setEmptyCause b).grace = s.grace ∧
    (s.setEmptyCause b).orderQueue = s.orderQueue ∧
    (s.setEmptyCause b).dispenseTimer = s.dispenseTimer ∧ (s.setEmptyCause b).float = s.float ∧
    (s.setEmptyCause b).floatLow = s.floatLow ∧ (s.setEmptyCause b).shortCause = s.shortCause ∧
    (s.setEmptyCause b).accounts = s.accounts ∧ (s.setEmptyCause b).settlements = s.settlements ∧
    (s.setEmptyCause b).faults = s.faults ∧ (s.setEmptyCause b).settings = s.settings ∧
    (s.setEmptyCause b).lockout = s.lockout ∧ (s.setEmptyCause b).store = s.store ∧
    (s.setEmptyCause b).commitQueue = s.commitQueue ∧ (s.setEmptyCause b).held = s.held ∧
    (s.setEmptyCause b).program = s.program ∧ (s.setEmptyCause b).waiters = s.waiters ∧
    (s.setEmptyCause b).pins = s.pins ∧ (s.setEmptyCause b).freeCount = s.freeCount := by
  unfold State.setEmptyCause; split <;> simp

/-- Only the settlement record working copies change. -/
@[simp] theorem State.setMarker_frame (s : State) (num : Nat) (m : Marker) :
    (s.setMarker num m).pending = s.pending ∧ (s.setMarker num m).mode = s.mode ∧
    (s.setMarker num m).addrStrap = s.addrStrap ∧ (s.setMarker num m).address = s.address ∧
    (s.setMarker num m).yardTime = s.yardTime ∧ (s.setMarker num m).subSecond = s.subSecond ∧
    (s.setMarker num m).handedBack = s.handedBack ∧ (s.setMarker num m).resetLow = s.resetLow ∧
    (s.setMarker num m).detectors = s.detectors ∧ (s.setMarker num m).links = s.links ∧
    (s.setMarker num m).rotation = s.rotation ∧ (s.setMarker num m).turn = s.turn ∧
    (s.setMarker num m).strays = s.strays ∧ (s.setMarker num m).dockets = s.dockets ∧
    (s.setMarker num m).finished = s.finished ∧ (s.setMarker num m).nextNumber = s.nextNumber ∧
    (s.setMarker num m).openDocket = s.openDocket ∧ (s.setMarker num m).grace = s.grace ∧
    (s.setMarker num m).orderQueue = s.orderQueue ∧
    (s.setMarker num m).dispenseTimer = s.dispenseTimer ∧ (s.setMarker num m).float = s.float ∧
    (s.setMarker num m).floatLow = s.floatLow ∧ (s.setMarker num m).shortCause = s.shortCause ∧
    (s.setMarker num m).emptyCause = s.emptyCause ∧ (s.setMarker num m).accounts = s.accounts ∧
    (s.setMarker num m).faults = s.faults ∧ (s.setMarker num m).settings = s.settings ∧
    (s.setMarker num m).lockout = s.lockout ∧ (s.setMarker num m).store = s.store ∧
    (s.setMarker num m).commitQueue = s.commitQueue ∧ (s.setMarker num m).held = s.held ∧
    (s.setMarker num m).program = s.program ∧ (s.setMarker num m).waiters = s.waiters ∧
    (s.setMarker num m).ports = s.ports ∧ (s.setMarker num m).pins = s.pins ∧
    (s.setMarker num m).freeCount = s.freeCount := by
  simp [State.setMarker]

/-- Only the queue changes. -/
@[simp] theorem State.queueSettlement_frame (s : State) (num : Nat) :
    (s.queueSettlement num).pending = s.pending ∧ (s.queueSettlement num).mode = s.mode ∧
    (s.queueSettlement num).addrStrap = s.addrStrap ∧ (s.queueSettlement num).address = s.address ∧
    (s.queueSettlement num).yardTime = s.yardTime ∧
    (s.queueSettlement num).subSecond = s.subSecond ∧
    (s.queueSettlement num).handedBack = s.handedBack ∧
    (s.queueSettlement num).resetLow = s.resetLow ∧
    (s.queueSettlement num).detectors = s.detectors ∧ (s.queueSettlement num).links = s.links ∧
    (s.queueSettlement num).rotation = s.rotation ∧ (s.queueSettlement num).turn = s.turn ∧
    (s.queueSettlement num).strays = s.strays ∧ (s.queueSettlement num).dockets = s.dockets ∧
    (s.queueSettlement num).finished = s.finished ∧
    (s.queueSettlement num).nextNumber = s.nextNumber ∧
    (s.queueSettlement num).openDocket = s.openDocket ∧ (s.queueSettlement num).grace = s.grace ∧
    (s.queueSettlement num).orderQueue = s.orderQueue ∧
    (s.queueSettlement num).dispenseTimer = s.dispenseTimer ∧
    (s.queueSettlement num).float = s.float ∧ (s.queueSettlement num).floatLow = s.floatLow ∧
    (s.queueSettlement num).shortCause = s.shortCause ∧
    (s.queueSettlement num).emptyCause = s.emptyCause ∧
    (s.queueSettlement num).accounts = s.accounts ∧
    (s.queueSettlement num).settlements = s.settlements ∧
    (s.queueSettlement num).faults = s.faults ∧ (s.queueSettlement num).settings = s.settings ∧
    (s.queueSettlement num).lockout = s.lockout ∧ (s.queueSettlement num).store = s.store ∧
    (s.queueSettlement num).program = s.program ∧ (s.queueSettlement num).waiters = s.waiters ∧
    (s.queueSettlement num).ports = s.ports ∧ (s.queueSettlement num).pins = s.pins ∧
    (s.queueSettlement num).freeCount = s.freeCount := by
  unfold State.queueSettlement; split <;> simp

/-- Only the settlement record working copies and the queue change. -/
@[simp] theorem State.markOwed_frame (s : State) (num : Nat) :
    (s.markOwed num).pending = s.pending ∧ (s.markOwed num).mode = s.mode ∧
    (s.markOwed num).addrStrap = s.addrStrap ∧ (s.markOwed num).address = s.address ∧
    (s.markOwed num).yardTime = s.yardTime ∧ (s.markOwed num).subSecond = s.subSecond ∧
    (s.markOwed num).handedBack = s.handedBack ∧ (s.markOwed num).resetLow = s.resetLow ∧
    (s.markOwed num).detectors = s.detectors ∧ (s.markOwed num).links = s.links ∧
    (s.markOwed num).rotation = s.rotation ∧ (s.markOwed num).turn = s.turn ∧
    (s.markOwed num).strays = s.strays ∧ (s.markOwed num).dockets = s.dockets ∧
    (s.markOwed num).finished = s.finished ∧ (s.markOwed num).nextNumber = s.nextNumber ∧
    (s.markOwed num).openDocket = s.openDocket ∧ (s.markOwed num).grace = s.grace ∧
    (s.markOwed num).orderQueue = s.orderQueue ∧ (s.markOwed num).dispenseTimer = s.dispenseTimer ∧
    (s.markOwed num).float = s.float ∧ (s.markOwed num).floatLow = s.floatLow ∧
    (s.markOwed num).shortCause = s.shortCause ∧ (s.markOwed num).emptyCause = s.emptyCause ∧
    (s.markOwed num).accounts = s.accounts ∧ (s.markOwed num).faults = s.faults ∧
    (s.markOwed num).settings = s.settings ∧ (s.markOwed num).lockout = s.lockout ∧
    (s.markOwed num).store = s.store ∧ (s.markOwed num).program = s.program ∧
    (s.markOwed num).waiters = s.waiters ∧ (s.markOwed num).ports = s.ports ∧
    (s.markOwed num).pins = s.pins ∧ (s.markOwed num).freeCount = s.freeCount := by
  simp [State.markOwed]

/-- Only the order queue changes. -/
@[simp] theorem State.dequeueOrder_frame (s : State) (num : Nat) :
    (s.dequeueOrder num).pending = s.pending ∧ (s.dequeueOrder num).mode = s.mode ∧
    (s.dequeueOrder num).addrStrap = s.addrStrap ∧ (s.dequeueOrder num).address = s.address ∧
    (s.dequeueOrder num).yardTime = s.yardTime ∧ (s.dequeueOrder num).subSecond = s.subSecond ∧
    (s.dequeueOrder num).handedBack = s.handedBack ∧ (s.dequeueOrder num).resetLow = s.resetLow ∧
    (s.dequeueOrder num).detectors = s.detectors ∧ (s.dequeueOrder num).links = s.links ∧
    (s.dequeueOrder num).rotation = s.rotation ∧ (s.dequeueOrder num).turn = s.turn ∧
    (s.dequeueOrder num).strays = s.strays ∧ (s.dequeueOrder num).dockets = s.dockets ∧
    (s.dequeueOrder num).finished = s.finished ∧ (s.dequeueOrder num).nextNumber = s.nextNumber ∧
    (s.dequeueOrder num).openDocket = s.openDocket ∧ (s.dequeueOrder num).grace = s.grace ∧
    (s.dequeueOrder num).dispenseTimer = s.dispenseTimer ∧ (s.dequeueOrder num).float = s.float ∧
    (s.dequeueOrder num).floatLow = s.floatLow ∧ (s.dequeueOrder num).shortCause = s.shortCause ∧
    (s.dequeueOrder num).emptyCause = s.emptyCause ∧ (s.dequeueOrder num).accounts = s.accounts ∧
    (s.dequeueOrder num).settlements = s.settlements ∧ (s.dequeueOrder num).faults = s.faults ∧
    (s.dequeueOrder num).settings = s.settings ∧ (s.dequeueOrder num).lockout = s.lockout ∧
    (s.dequeueOrder num).store = s.store ∧ (s.dequeueOrder num).commitQueue = s.commitQueue ∧
    (s.dequeueOrder num).held = s.held ∧ (s.dequeueOrder num).program = s.program ∧
    (s.dequeueOrder num).waiters = s.waiters ∧ (s.dequeueOrder num).ports = s.ports ∧
    (s.dequeueOrder num).pins = s.pins ∧ (s.dequeueOrder num).freeCount = s.freeCount := by
  simp [State.dequeueOrder]

/-- Only the finished list and its event change (R6). -/
@[simp] theorem State.joinFinished_frame (s : State) (num : Nat) :
    (s.joinFinished num).pending = s.pending ∧ (s.joinFinished num).mode = s.mode ∧
    (s.joinFinished num).addrStrap = s.addrStrap ∧ (s.joinFinished num).address = s.address ∧
    (s.joinFinished num).yardTime = s.yardTime ∧ (s.joinFinished num).subSecond = s.subSecond ∧
    (s.joinFinished num).handedBack = s.handedBack ∧ (s.joinFinished num).resetLow = s.resetLow ∧
    (s.joinFinished num).detectors = s.detectors ∧ (s.joinFinished num).links = s.links ∧
    (s.joinFinished num).rotation = s.rotation ∧ (s.joinFinished num).turn = s.turn ∧
    (s.joinFinished num).strays = s.strays ∧ (s.joinFinished num).dockets = s.dockets ∧
    (s.joinFinished num).nextNumber = s.nextNumber ∧
    (s.joinFinished num).openDocket = s.openDocket ∧ (s.joinFinished num).grace = s.grace ∧
    (s.joinFinished num).orderQueue = s.orderQueue ∧
    (s.joinFinished num).dispenseTimer = s.dispenseTimer ∧ (s.joinFinished num).float = s.float ∧
    (s.joinFinished num).floatLow = s.floatLow ∧ (s.joinFinished num).shortCause = s.shortCause ∧
    (s.joinFinished num).emptyCause = s.emptyCause ∧ (s.joinFinished num).accounts = s.accounts ∧
    (s.joinFinished num).settlements = s.settlements ∧ (s.joinFinished num).faults = s.faults ∧
    (s.joinFinished num).settings = s.settings ∧ (s.joinFinished num).lockout = s.lockout ∧
    (s.joinFinished num).store = s.store ∧ (s.joinFinished num).commitQueue = s.commitQueue ∧
    (s.joinFinished num).held = s.held ∧ (s.joinFinished num).program = s.program ∧
    (s.joinFinished num).waiters = s.waiters ∧ (s.joinFinished num).pins = s.pins ∧
    (s.joinFinished num).freeCount = s.freeCount := by
  simp [State.joinFinished]

/-- Only the stray tallies and their event change (R121, R122). -/
@[simp] theorem State.bookStray_frame (s : State) (n : Lane) (o : PassOutcome) :
    (s.bookStray n o).pending = s.pending ∧ (s.bookStray n o).mode = s.mode ∧
    (s.bookStray n o).addrStrap = s.addrStrap ∧ (s.bookStray n o).address = s.address ∧
    (s.bookStray n o).yardTime = s.yardTime ∧ (s.bookStray n o).subSecond = s.subSecond ∧
    (s.bookStray n o).handedBack = s.handedBack ∧ (s.bookStray n o).resetLow = s.resetLow ∧
    (s.bookStray n o).detectors = s.detectors ∧ (s.bookStray n o).links = s.links ∧
    (s.bookStray n o).rotation = s.rotation ∧ (s.bookStray n o).turn = s.turn ∧
    (s.bookStray n o).dockets = s.dockets ∧ (s.bookStray n o).finished = s.finished ∧
    (s.bookStray n o).nextNumber = s.nextNumber ∧ (s.bookStray n o).openDocket = s.openDocket ∧
    (s.bookStray n o).grace = s.grace ∧ (s.bookStray n o).orderQueue = s.orderQueue ∧
    (s.bookStray n o).dispenseTimer = s.dispenseTimer ∧ (s.bookStray n o).float = s.float ∧
    (s.bookStray n o).floatLow = s.floatLow ∧ (s.bookStray n o).shortCause = s.shortCause ∧
    (s.bookStray n o).emptyCause = s.emptyCause ∧ (s.bookStray n o).accounts = s.accounts ∧
    (s.bookStray n o).settlements = s.settlements ∧ (s.bookStray n o).faults = s.faults ∧
    (s.bookStray n o).settings = s.settings ∧ (s.bookStray n o).lockout = s.lockout ∧
    (s.bookStray n o).store = s.store ∧ (s.bookStray n o).commitQueue = s.commitQueue ∧
    (s.bookStray n o).held = s.held ∧ (s.bookStray n o).program = s.program ∧
    (s.bookStray n o).waiters = s.waiters ∧ (s.bookStray n o).pins = s.pins ∧
    (s.bookStray n o).freeCount = s.freeCount := by
  simp [State.bookStray]

/-- A booking changes a docket or a stray tally (R7). -/
@[simp] theorem State.book_frame (s : State) (n : Lane) (o : PassOutcome) :
    (s.book n o).pending = s.pending ∧ (s.book n o).mode = s.mode ∧
    (s.book n o).addrStrap = s.addrStrap ∧ (s.book n o).address = s.address ∧
    (s.book n o).yardTime = s.yardTime ∧ (s.book n o).subSecond = s.subSecond ∧
    (s.book n o).handedBack = s.handedBack ∧ (s.book n o).resetLow = s.resetLow ∧
    (s.book n o).detectors = s.detectors ∧ (s.book n o).links = s.links ∧
    (s.book n o).rotation = s.rotation ∧ (s.book n o).turn = s.turn ∧
    (s.book n o).finished = s.finished ∧ (s.book n o).nextNumber = s.nextNumber ∧
    (s.book n o).openDocket = s.openDocket ∧ (s.book n o).grace = s.grace ∧
    (s.book n o).orderQueue = s.orderQueue ∧ (s.book n o).dispenseTimer = s.dispenseTimer ∧
    (s.book n o).float = s.float ∧ (s.book n o).floatLow = s.floatLow ∧
    (s.book n o).shortCause = s.shortCause ∧ (s.book n o).emptyCause = s.emptyCause ∧
    (s.book n o).accounts = s.accounts ∧ (s.book n o).settlements = s.settlements ∧
    (s.book n o).faults = s.faults ∧ (s.book n o).settings = s.settings ∧
    (s.book n o).lockout = s.lockout ∧ (s.book n o).store = s.store ∧
    (s.book n o).commitQueue = s.commitQueue ∧ (s.book n o).held = s.held ∧
    (s.book n o).program = s.program ∧ (s.book n o).waiters = s.waiters ∧
    (s.book n o).pins = s.pins ∧ (s.book n o).freeCount = s.freeCount := by
  unfold State.book; split <;> simp

/-- Only the accounts change (R32). -/
@[simp] theorem State.settleAccount_frame (s : State) (h k : Nat) (f : Figures) :
    (s.settleAccount h k f).pending = s.pending ∧ (s.settleAccount h k f).mode = s.mode ∧
    (s.settleAccount h k f).addrStrap = s.addrStrap ∧ (s.settleAccount h k f).address = s.address ∧
    (s.settleAccount h k f).yardTime = s.yardTime ∧
    (s.settleAccount h k f).subSecond = s.subSecond ∧
    (s.settleAccount h k f).handedBack = s.handedBack ∧
    (s.settleAccount h k f).resetLow = s.resetLow ∧
    (s.settleAccount h k f).detectors = s.detectors ∧ (s.settleAccount h k f).links = s.links ∧
    (s.settleAccount h k f).rotation = s.rotation ∧ (s.settleAccount h k f).turn = s.turn ∧
    (s.settleAccount h k f).strays = s.strays ∧ (s.settleAccount h k f).dockets = s.dockets ∧
    (s.settleAccount h k f).finished = s.finished ∧
    (s.settleAccount h k f).nextNumber = s.nextNumber ∧
    (s.settleAccount h k f).openDocket = s.openDocket ∧ (s.settleAccount h k f).grace = s.grace ∧
    (s.settleAccount h k f).orderQueue = s.orderQueue ∧
    (s.settleAccount h k f).dispenseTimer = s.dispenseTimer ∧
    (s.settleAccount h k f).float = s.float ∧ (s.settleAccount h k f).floatLow = s.floatLow ∧
    (s.settleAccount h k f).shortCause = s.shortCause ∧
    (s.settleAccount h k f).emptyCause = s.emptyCause ∧
    (s.settleAccount h k f).settlements = s.settlements ∧
    (s.settleAccount h k f).faults = s.faults ∧ (s.settleAccount h k f).settings = s.settings ∧
    (s.settleAccount h k f).lockout = s.lockout ∧ (s.settleAccount h k f).store = s.store ∧
    (s.settleAccount h k f).commitQueue = s.commitQueue ∧ (s.settleAccount h k f).held = s.held ∧
    (s.settleAccount h k f).program = s.program ∧ (s.settleAccount h k f).waiters = s.waiters ∧
    (s.settleAccount h k f).ports = s.ports ∧ (s.settleAccount h k f).pins = s.pins ∧
    (s.settleAccount h k f).freeCount = s.freeCount := by
  unfold State.settleAccount; (repeat' split) <;> simp

/-- Only the queue changes. -/
@[simp] theorem State.queueAccountOf_frame (s : State) (h : Nat) :
    (s.queueAccountOf h).pending = s.pending ∧ (s.queueAccountOf h).mode = s.mode ∧
    (s.queueAccountOf h).addrStrap = s.addrStrap ∧ (s.queueAccountOf h).address = s.address ∧
    (s.queueAccountOf h).yardTime = s.yardTime ∧ (s.queueAccountOf h).subSecond = s.subSecond ∧
    (s.queueAccountOf h).handedBack = s.handedBack ∧ (s.queueAccountOf h).resetLow = s.resetLow ∧
    (s.queueAccountOf h).detectors = s.detectors ∧ (s.queueAccountOf h).links = s.links ∧
    (s.queueAccountOf h).rotation = s.rotation ∧ (s.queueAccountOf h).turn = s.turn ∧
    (s.queueAccountOf h).strays = s.strays ∧ (s.queueAccountOf h).dockets = s.dockets ∧
    (s.queueAccountOf h).finished = s.finished ∧ (s.queueAccountOf h).nextNumber = s.nextNumber ∧
    (s.queueAccountOf h).openDocket = s.openDocket ∧ (s.queueAccountOf h).grace = s.grace ∧
    (s.queueAccountOf h).orderQueue = s.orderQueue ∧
    (s.queueAccountOf h).dispenseTimer = s.dispenseTimer ∧ (s.queueAccountOf h).float = s.float ∧
    (s.queueAccountOf h).floatLow = s.floatLow ∧ (s.queueAccountOf h).shortCause = s.shortCause ∧
    (s.queueAccountOf h).emptyCause = s.emptyCause ∧ (s.queueAccountOf h).accounts = s.accounts ∧
    (s.queueAccountOf h).settlements = s.settlements ∧ (s.queueAccountOf h).faults = s.faults ∧
    (s.queueAccountOf h).settings = s.settings ∧ (s.queueAccountOf h).lockout = s.lockout ∧
    (s.queueAccountOf h).store = s.store ∧ (s.queueAccountOf h).program = s.program ∧
    (s.queueAccountOf h).waiters = s.waiters ∧ (s.queueAccountOf h).ports = s.ports ∧
    (s.queueAccountOf h).pins = s.pins ∧ (s.queueAccountOf h).freeCount = s.freeCount := by
  unfold State.queueAccountOf; (repeat' split) <;> simp

/-- Only the waiters change. -/
@[simp] theorem State.waitOrder_frame (s : State) (num : Nat) (r : Option Nat) (h : Nat) :
    (s.waitOrder num r h).pending = s.pending ∧ (s.waitOrder num r h).mode = s.mode ∧
    (s.waitOrder num r h).addrStrap = s.addrStrap ∧ (s.waitOrder num r h).address = s.address ∧
    (s.waitOrder num r h).yardTime = s.yardTime ∧ (s.waitOrder num r h).subSecond = s.subSecond ∧
    (s.waitOrder num r h).handedBack = s.handedBack ∧ (s.waitOrder num r h).resetLow = s.resetLow ∧
    (s.waitOrder num r h).detectors = s.detectors ∧ (s.waitOrder num r h).links = s.links ∧
    (s.waitOrder num r h).rotation = s.rotation ∧ (s.waitOrder num r h).turn = s.turn ∧
    (s.waitOrder num r h).strays = s.strays ∧ (s.waitOrder num r h).dockets = s.dockets ∧
    (s.waitOrder num r h).finished = s.finished ∧ (s.waitOrder num r h).nextNumber = s.nextNumber ∧
    (s.waitOrder num r h).openDocket = s.openDocket ∧ (s.waitOrder num r h).grace = s.grace ∧
    (s.waitOrder num r h).orderQueue = s.orderQueue ∧
    (s.waitOrder num r h).dispenseTimer = s.dispenseTimer ∧ (s.waitOrder num r h).float = s.float ∧
    (s.waitOrder num r h).floatLow = s.floatLow ∧ (s.waitOrder num r h).shortCause = s.shortCause ∧
    (s.waitOrder num r h).emptyCause = s.emptyCause ∧ (s.waitOrder num r h).accounts = s.accounts ∧
    (s.waitOrder num r h).settlements = s.settlements ∧ (s.waitOrder num r h).faults = s.faults ∧
    (s.waitOrder num r h).settings = s.settings ∧ (s.waitOrder num r h).lockout = s.lockout ∧
    (s.waitOrder num r h).store = s.store ∧ (s.waitOrder num r h).commitQueue = s.commitQueue ∧
    (s.waitOrder num r h).held = s.held ∧ (s.waitOrder num r h).program = s.program ∧
    (s.waitOrder num r h).ports = s.ports ∧ (s.waitOrder num r h).pins = s.pins ∧
    (s.waitOrder num r h).freeCount = s.freeCount := by
  unfold State.waitOrder; cases r <;> (dsimp only; (repeat' split) <;> simp)

/-- What a hand-off with a payout changes (R34). -/
@[simp] theorem State.handOff_frame (s : State) (d : Docket) (f : Figures) :
    (s.handOff d f).pending = s.pending ∧ (s.handOff d f).mode = s.mode ∧
    (s.handOff d f).addrStrap = s.addrStrap ∧ (s.handOff d f).address = s.address ∧
    (s.handOff d f).yardTime = s.yardTime ∧ (s.handOff d f).subSecond = s.subSecond ∧
    (s.handOff d f).handedBack = s.handedBack ∧ (s.handOff d f).resetLow = s.resetLow ∧
    (s.handOff d f).detectors = s.detectors ∧ (s.handOff d f).links = s.links ∧
    (s.handOff d f).rotation = s.rotation ∧ (s.handOff d f).turn = s.turn ∧
    (s.handOff d f).strays = s.strays ∧ (s.handOff d f).finished = s.finished ∧
    (s.handOff d f).nextNumber = s.nextNumber ∧ (s.handOff d f).openDocket = s.openDocket ∧
    (s.handOff d f).grace = s.grace ∧ (s.handOff d f).dispenseTimer = s.dispenseTimer ∧
    (s.handOff d f).float = s.float ∧ (s.handOff d f).floatLow = s.floatLow ∧
    (s.handOff d f).shortCause = s.shortCause ∧ (s.handOff d f).emptyCause = s.emptyCause ∧
    (s.handOff d f).accounts = s.accounts ∧ (s.handOff d f).faults = s.faults ∧
    (s.handOff d f).settings = s.settings ∧ (s.handOff d f).lockout = s.lockout ∧
    (s.handOff d f).store = s.store ∧ (s.handOff d f).program = s.program ∧
    (s.handOff d f).ports = s.ports ∧ (s.handOff d f).pins = s.pins ∧
    (s.handOff d f).freeCount = s.freeCount := by
  unfold State.handOff; dsimp only; split <;> simp

/-- What a hand-off with no payout changes (R35). -/
@[simp] theorem State.handOffNil_frame (s : State) (d : Docket) :
    (s.handOffNil d).pending = s.pending ∧ (s.handOffNil d).mode = s.mode ∧
    (s.handOffNil d).addrStrap = s.addrStrap ∧ (s.handOffNil d).address = s.address ∧
    (s.handOffNil d).yardTime = s.yardTime ∧ (s.handOffNil d).subSecond = s.subSecond ∧
    (s.handOffNil d).handedBack = s.handedBack ∧ (s.handOffNil d).resetLow = s.resetLow ∧
    (s.handOffNil d).detectors = s.detectors ∧ (s.handOffNil d).links = s.links ∧
    (s.handOffNil d).rotation = s.rotation ∧ (s.handOffNil d).turn = s.turn ∧
    (s.handOffNil d).strays = s.strays ∧ (s.handOffNil d).nextNumber = s.nextNumber ∧
    (s.handOffNil d).openDocket = s.openDocket ∧ (s.handOffNil d).grace = s.grace ∧
    (s.handOffNil d).orderQueue = s.orderQueue ∧ (s.handOffNil d).dispenseTimer = s.dispenseTimer ∧
    (s.handOffNil d).float = s.float ∧ (s.handOffNil d).floatLow = s.floatLow ∧
    (s.handOffNil d).shortCause = s.shortCause ∧ (s.handOffNil d).emptyCause = s.emptyCause ∧
    (s.handOffNil d).accounts = s.accounts ∧ (s.handOffNil d).settlements = s.settlements ∧
    (s.handOffNil d).faults = s.faults ∧ (s.handOffNil d).settings = s.settings ∧
    (s.handOffNil d).lockout = s.lockout ∧ (s.handOffNil d).store = s.store ∧
    (s.handOffNil d).program = s.program ∧ (s.handOffNil d).waiters = s.waiters ∧
    (s.handOffNil d).pins = s.pins ∧ (s.handOffNil d).freeCount = s.freeCount := by
  simp [State.handOffNil]

/-- What settlement changes (R25 to R36). -/
@[simp] theorem State.settleDocket_frame (s : State) (num : Nat) :
    (s.settleDocket num).pending = s.pending ∧ (s.settleDocket num).mode = s.mode ∧
    (s.settleDocket num).addrStrap = s.addrStrap ∧ (s.settleDocket num).address = s.address ∧
    (s.settleDocket num).yardTime = s.yardTime ∧ (s.settleDocket num).subSecond = s.subSecond ∧
    (s.settleDocket num).handedBack = s.handedBack ∧ (s.settleDocket num).resetLow = s.resetLow ∧
    (s.settleDocket num).detectors = s.detectors ∧ (s.settleDocket num).links = s.links ∧
    (s.settleDocket num).rotation = s.rotation ∧ (s.settleDocket num).turn = s.turn ∧
    (s.settleDocket num).strays = s.strays ∧ (s.settleDocket num).nextNumber = s.nextNumber ∧
    (s.settleDocket num).openDocket = s.openDocket ∧ (s.settleDocket num).grace = s.grace ∧
    (s.settleDocket num).dispenseTimer = s.dispenseTimer ∧ (s.settleDocket num).float = s.float ∧
    (s.settleDocket num).floatLow = s.floatLow ∧ (s.settleDocket num).shortCause = s.shortCause ∧
    (s.settleDocket num).emptyCause = s.emptyCause ∧ (s.settleDocket num).faults = s.faults ∧
    (s.settleDocket num).settings = s.settings ∧ (s.settleDocket num).lockout = s.lockout ∧
    (s.settleDocket num).store = s.store ∧ (s.settleDocket num).program = s.program ∧
    (s.settleDocket num).pins = s.pins ∧ (s.settleDocket num).freeCount = s.freeCount := by
  unfold State.settleDocket; dsimp only; (repeat' split) <;> simp

/-- Only the lane's docket and close grace change. -/
@[simp] theorem State.freeLane_frame (s : State) (n : Lane) :
    (s.freeLane n).pending = s.pending ∧ (s.freeLane n).mode = s.mode ∧
    (s.freeLane n).addrStrap = s.addrStrap ∧ (s.freeLane n).address = s.address ∧
    (s.freeLane n).yardTime = s.yardTime ∧ (s.freeLane n).subSecond = s.subSecond ∧
    (s.freeLane n).handedBack = s.handedBack ∧ (s.freeLane n).resetLow = s.resetLow ∧
    (s.freeLane n).detectors = s.detectors ∧ (s.freeLane n).links = s.links ∧
    (s.freeLane n).rotation = s.rotation ∧ (s.freeLane n).turn = s.turn ∧
    (s.freeLane n).strays = s.strays ∧ (s.freeLane n).dockets = s.dockets ∧
    (s.freeLane n).finished = s.finished ∧ (s.freeLane n).nextNumber = s.nextNumber ∧
    (s.freeLane n).orderQueue = s.orderQueue ∧ (s.freeLane n).dispenseTimer = s.dispenseTimer ∧
    (s.freeLane n).float = s.float ∧ (s.freeLane n).floatLow = s.floatLow ∧
    (s.freeLane n).shortCause = s.shortCause ∧ (s.freeLane n).emptyCause = s.emptyCause ∧
    (s.freeLane n).accounts = s.accounts ∧ (s.freeLane n).settlements = s.settlements ∧
    (s.freeLane n).faults = s.faults ∧ (s.freeLane n).settings = s.settings ∧
    (s.freeLane n).lockout = s.lockout ∧ (s.freeLane n).store = s.store ∧
    (s.freeLane n).commitQueue = s.commitQueue ∧ (s.freeLane n).held = s.held ∧
    (s.freeLane n).program = s.program ∧ (s.freeLane n).waiters = s.waiters ∧
    (s.freeLane n).ports = s.ports ∧ (s.freeLane n).pins = s.pins ∧
    (s.freeLane n).freeCount = s.freeCount := by
  simp [State.freeLane]

/-- What the completion of closing changes (R19). -/
@[simp] theorem State.completeClosing_frame (s : State) (n : Lane) (num : Nat) (why : CloseReason) :
    (s.completeClosing n num why).pending = s.pending ∧
    (s.completeClosing n num why).mode = s.mode ∧
    (s.completeClosing n num why).addrStrap = s.addrStrap ∧
    (s.completeClosing n num why).address = s.address ∧
    (s.completeClosing n num why).yardTime = s.yardTime ∧
    (s.completeClosing n num why).subSecond = s.subSecond ∧
    (s.completeClosing n num why).handedBack = s.handedBack ∧
    (s.completeClosing n num why).resetLow = s.resetLow ∧
    (s.completeClosing n num why).detectors = s.detectors ∧
    (s.completeClosing n num why).links = s.links ∧
    (s.completeClosing n num why).rotation = s.rotation ∧
    (s.completeClosing n num why).turn = s.turn ∧ (s.completeClosing n num why).strays = s.strays ∧
    (s.completeClosing n num why).nextNumber = s.nextNumber ∧
    (s.completeClosing n num why).dispenseTimer = s.dispenseTimer ∧
    (s.completeClosing n num why).float = s.float ∧
    (s.completeClosing n num why).floatLow = s.floatLow ∧
    (s.completeClosing n num why).shortCause = s.shortCause ∧
    (s.completeClosing n num why).emptyCause = s.emptyCause ∧
    (s.completeClosing n num why).faults = s.faults ∧
    (s.completeClosing n num why).settings = s.settings ∧
    (s.completeClosing n num why).lockout = s.lockout ∧
    (s.completeClosing n num why).store = s.store ∧
    (s.completeClosing n num why).program = s.program ∧
    (s.completeClosing n num why).pins = s.pins ∧
    (s.completeClosing n num why).freeCount = s.freeCount := by
  simp [State.completeClosing]

/-- What the end of a wait changes (R16, R17). -/
@[simp] theorem State.waitOver_frame (s : State) (n : Lane) :
    (s.waitOver n).pending = s.pending ∧ (s.waitOver n).mode = s.mode ∧
    (s.waitOver n).addrStrap = s.addrStrap ∧ (s.waitOver n).address = s.address ∧
    (s.waitOver n).yardTime = s.yardTime ∧ (s.waitOver n).subSecond = s.subSecond ∧
    (s.waitOver n).handedBack = s.handedBack ∧ (s.waitOver n).resetLow = s.resetLow ∧
    (s.waitOver n).detectors = s.detectors ∧ (s.waitOver n).links = s.links ∧
    (s.waitOver n).rotation = s.rotation ∧ (s.waitOver n).turn = s.turn ∧
    (s.waitOver n).strays = s.strays ∧ (s.waitOver n).nextNumber = s.nextNumber ∧
    (s.waitOver n).dispenseTimer = s.dispenseTimer ∧ (s.waitOver n).float = s.float ∧
    (s.waitOver n).floatLow = s.floatLow ∧ (s.waitOver n).shortCause = s.shortCause ∧
    (s.waitOver n).emptyCause = s.emptyCause ∧ (s.waitOver n).faults = s.faults ∧
    (s.waitOver n).settings = s.settings ∧ (s.waitOver n).lockout = s.lockout ∧
    (s.waitOver n).store = s.store ∧ (s.waitOver n).program = s.program ∧
    (s.waitOver n).pins = s.pins ∧ (s.waitOver n).freeCount = s.freeCount := by
  unfold State.waitOver; (repeat' split) <;> simp

/-- What resolving a pass changes (R102, R103). -/
@[simp] theorem State.resolve_frame (s : State) (n : Lane) (c : Cause) (q : Pass) :
    (s.resolve n c q).pending = s.pending ∧ (s.resolve n c q).mode = s.mode ∧
    (s.resolve n c q).addrStrap = s.addrStrap ∧ (s.resolve n c q).address = s.address ∧
    (s.resolve n c q).yardTime = s.yardTime ∧ (s.resolve n c q).subSecond = s.subSecond ∧
    (s.resolve n c q).handedBack = s.handedBack ∧ (s.resolve n c q).resetLow = s.resetLow ∧
    (s.resolve n c q).links = s.links ∧ (s.resolve n c q).rotation = s.rotation ∧
    (s.resolve n c q).turn = s.turn ∧ (s.resolve n c q).nextNumber = s.nextNumber ∧
    (s.resolve n c q).dispenseTimer = s.dispenseTimer ∧ (s.resolve n c q).float = s.float ∧
    (s.resolve n c q).floatLow = s.floatLow ∧ (s.resolve n c q).shortCause = s.shortCause ∧
    (s.resolve n c q).emptyCause = s.emptyCause ∧ (s.resolve n c q).faults = s.faults ∧
    (s.resolve n c q).settings = s.settings ∧ (s.resolve n c q).lockout = s.lockout ∧
    (s.resolve n c q).store = s.store ∧ (s.resolve n c q).program = s.program ∧
    (s.resolve n c q).pins = s.pins ∧ (s.resolve n c q).freeCount = s.freeCount := by
  simp [State.resolve]

/-- The order events change the short cause and the Payout port's flags alone (R40, R59). -/
@[simp] theorem State.orderEvents_frame (b a : State) :
    (State.orderEvents b a).pending = a.pending ∧ (State.orderEvents b a).mode = a.mode ∧
    (State.orderEvents b a).addrStrap = a.addrStrap ∧ (State.orderEvents b a).address = a.address ∧
    (State.orderEvents b a).yardTime = a.yardTime ∧
    (State.orderEvents b a).subSecond = a.subSecond ∧
    (State.orderEvents b a).detectors = a.detectors ∧ (State.orderEvents b a).links = a.links ∧
    (State.orderEvents b a).rotation = a.rotation ∧ (State.orderEvents b a).turn = a.turn ∧
    (State.orderEvents b a).strays = a.strays ∧ (State.orderEvents b a).dockets = a.dockets ∧
    (State.orderEvents b a).finished = a.finished ∧
    (State.orderEvents b a).nextNumber = a.nextNumber ∧
    (State.orderEvents b a).openDocket = a.openDocket ∧ (State.orderEvents b a).grace = a.grace ∧
    (State.orderEvents b a).orderQueue = a.orderQueue ∧
    (State.orderEvents b a).dispenseTimer = a.dispenseTimer ∧
    (State.orderEvents b a).float = a.float ∧ (State.orderEvents b a).floatLow = a.floatLow ∧
    (State.orderEvents b a).emptyCause = a.emptyCause ∧
    (State.orderEvents b a).accounts = a.accounts ∧
    (State.orderEvents b a).settlements = a.settlements ∧
    (State.orderEvents b a).faults = a.faults ∧ (State.orderEvents b a).settings = a.settings ∧
    (State.orderEvents b a).lockout = a.lockout ∧ (State.orderEvents b a).store = a.store ∧
    (State.orderEvents b a).commitQueue = a.commitQueue ∧ (State.orderEvents b a).held = a.held ∧
    (State.orderEvents b a).program = a.program ∧ (State.orderEvents b a).waiters = a.waiters ∧
    (State.orderEvents b a).pins = a.pins ∧ (State.orderEvents b a).freeCount = a.freeCount := by
  unfold State.orderEvents; dsimp only; (repeat' split) <;> simp

/-- The end of an event changes the order events, the program that begins and the lines alone (R40, R59, R64). -/
@[simp] theorem State.conclude_frame (b a : State) :
    (State.conclude b a).pending = a.pending ∧ (State.conclude b a).mode = a.mode ∧
    (State.conclude b a).addrStrap = a.addrStrap ∧ (State.conclude b a).address = a.address ∧
    (State.conclude b a).yardTime = a.yardTime ∧ (State.conclude b a).subSecond = a.subSecond ∧
    (State.conclude b a).detectors = a.detectors ∧ (State.conclude b a).links = a.links ∧
    (State.conclude b a).rotation = a.rotation ∧ (State.conclude b a).turn = a.turn ∧
    (State.conclude b a).strays = a.strays ∧ (State.conclude b a).dockets = a.dockets ∧
    (State.conclude b a).finished = a.finished ∧ (State.conclude b a).nextNumber = a.nextNumber ∧
    (State.conclude b a).openDocket = a.openDocket ∧ (State.conclude b a).grace = a.grace ∧
    (State.conclude b a).orderQueue = a.orderQueue ∧
    (State.conclude b a).dispenseTimer = a.dispenseTimer ∧ (State.conclude b a).float = a.float ∧
    (State.conclude b a).floatLow = a.floatLow ∧ (State.conclude b a).emptyCause = a.emptyCause ∧
    (State.conclude b a).accounts = a.accounts ∧ (State.conclude b a).settlements = a.settlements ∧
    (State.conclude b a).faults = a.faults ∧ (State.conclude b a).settings = a.settings ∧
    (State.conclude b a).lockout = a.lockout ∧ (State.conclude b a).store = a.store ∧
    (State.conclude b a).held = a.held ∧ (State.conclude b a).freeCount = a.freeCount := by
  simp [State.conclude]

end Sys2Proof.Machine
end

