-- ==== Sys2Proof/Laws/Updates.lean ====
section
/-! SUPPORT. What each primitive update of the state writes: one rule of `simp` for each, beside the
frames of Laws/Ops.lean, so that no proof unfolds a record update. -/
namespace Sys2Proof

variable {α β : Type}

@[simp] theorem PerChan.get_map (v : PerChan α) (f : α → β) (c : Chan) :
    (v.map f).get c = f (v.get c) := by cases c <;> rfl

@[simp] theorem PerChan.get_all (a : α) (c : Chan) : (PerChan.all a).get c = a := by cases c <;> rfl

@[simp] theorem PerLane.set_get (v : PerLane α) (n : Lane) : v.set n (v.get n) = v := by
  cases n <;> rfl

@[simp] theorem PerLane.set_set (v : PerLane α) (n : Lane) (a b : α) :
    (v.set n a).set n b = v.set n b := by cases n <;> rfl

theorem PerLane.ext_get {v w : PerLane α} (h : ∀ n, v.get n = w.get n) : v = w := by
  obtain ⟨a, b, c, d⟩ := v
  have h0 := h .l0; have h1 := h .l1; have h2 := h .l2; have h3 := h .l3
  simp only [PerLane.get] at h0 h1 h2 h3
  subst h0 h1 h2 h3
  rfl

theorem PerPort.ext_get {v w : PerPort α} (h : ∀ p, v.get p = w.get p) : v = w := by
  obtain ⟨a, b, c⟩ := v
  have h0 := h .lane; have h1 := h .payout; have h2 := h .office
  simp only [PerPort.get] at h0 h1 h2
  subst h0 h1 h2
  rfl

theorem PerChan.ext_get {v w : PerChan α} (h : ∀ c, v.get c = w.get c) : v = w := by
  obtain ⟨a, b, c⟩ := v
  have h0 := h .ind; have h1 := h .cap; have h2 := h .ref
  simp only [PerChan.get] at h0 h1 h2
  subst h0 h1 h2
  rfl

namespace Machine

variable (s : State)

/-! ### Ports -/

@[simp] theorem State.setPort_ports (p : Port) (q : PortState) :
    (s.setPort p q).ports = s.ports.set p q := rfl

@[simp] theorem State.raise_ports (p : Port) (e : Event) :
    (s.raise p e).ports =
      s.ports.set p { s.ports.get p with flags := (s.ports.get p).flags ||| e.bit p } := rfl

@[simp] theorem State.clearFlags_ports (p : Port) (bits : BitVec 16) :
    (s.clearFlags p bits).ports =
      s.ports.set p { s.ports.get p with flags := (s.ports.get p).flags &&& ~~~bits } := rfl

@[simp] theorem State.enterResult_ports (p : Port) (bs : List Byte) :
    (s.enterResult p bs).ports = s.ports.set p { s.ports.get p with
      phase := .result, result := bs, hold := some { limit := s.settings.holdTime } } := rfl

@[simp] theorem State.respond_ports (p : Port) (c : CommandCode) (rc : ResultCode) (b : Body) :
    (s.respond p c rc b).ports = s.ports.set p { s.ports.get p with
      phase := .result, result := resultBytes c.byte rc b,
      hold := some { limit := s.settings.holdTime } } := rfl

@[simp] theorem State.toExecuting_ports (p : Port) :
    (s.toExecuting p).ports = s.ports.set p { s.ports.get p with phase := .executing } := rfl

@[simp] theorem State.toReady_ports (p : Port) :
    (s.toReady p).ports =
      s.ports.set p { s.ports.get p with phase := .ready, result := [], hold := none } := rfl

@[simp] theorem State.drivePins_pins : s.drivePins.pins = s.ruledPins := rfl

/-! ### Lanes -/

@[simp] theorem State.setDetector_detectors (n : Lane) (d : Detector) :
    (s.setDetector n d).detectors = s.detectors.set n d := rfl

@[simp] theorem State.setLink_links (n : Lane) (l : LaneLink) :
    (s.setLink n l).links = s.links.set n l := rfl

@[simp] theorem State.moveLane_detectors (n : Lane) (d : Detector) :
    (s.moveLane n d).detectors = s.detectors.set n d := by
  unfold State.moveLane; split <;> rfl

theorem State.moveLane_ports (n : Lane) (d : Detector) :
    (s.moveLane n d).ports = if raisesLaneState (s.detectors.get n).state d.state
      then (s.raise .lane .laneState).ports else s.ports := by
  unfold State.moveLane; split <;> rfl

/-! ### The float conditions (R58 to R61) -/

@[simp] theorem State.setFloatLow_floatLow (b : Bool) : (s.setFloatLow b).floatLow = b := by
  unfold State.setFloatLow; split <;> simp_all

@[simp] theorem State.setShortCause_shortCause (b : Bool) : (s.setShortCause b).shortCause = b := by
  unfold State.setShortCause; split <;> simp_all

@[simp] theorem State.setEmptyCause_emptyCause (b : Bool) : (s.setEmptyCause b).emptyCause = b := by
  unfold State.setEmptyCause; split <;> simp_all

@[simp] theorem State.checkFloatLow_floatLow : s.checkFloatLow.floatLow =
    floatLowAfter s.float s.settings.floatLowSet s.settings.floatLowClear s.floatLow := by
  simp [State.checkFloatLow]

@[simp] theorem State.checkShort_shortCause : s.checkShort.shortCause = s.shortNow := by
  simp [State.checkShort]

theorem State.setFloatLow_ports (b : Bool) : (s.setFloatLow b).ports =
    if b = s.floatLow then s.ports
    else ((s.raise .payout .floatLow).raise .office .floatLow).ports := by
  unfold State.setFloatLow; split <;> rfl

theorem State.setShortCause_ports (b : Bool) : (s.setShortCause b).ports =
    if b = s.shortCause then s.ports else (s.raise .payout .floatOut).ports := by
  unfold State.setShortCause; split <;> rfl

theorem State.setEmptyCause_ports (b : Bool) : (s.setEmptyCause b).ports =
    if b = s.emptyCause then s.ports else (s.raise .payout .floatOut).ports := by
  unfold State.setEmptyCause; split <;> rfl

/-! ### Tallies, lanes and dockets -/

@[simp] theorem State.bookStray_strays (n : Lane) (o : PassOutcome) :
    (s.bookStray n o).strays = s.strays.set n ((s.strays.get n).count o) := rfl

@[simp] theorem State.freeLane_openDocket (n : Lane) :
    (s.freeLane n).openDocket = s.openDocket.set n none := rfl

@[simp] theorem State.freeLane_grace (n : Lane) : (s.freeLane n).grace = s.grace.set n none := rfl

/-! ### Dockets and orders -/

@[simp] theorem State.updateDocket_dockets (num : Nat) (f : Docket → Docket) :
    (s.updateDocket num f).dockets = s.dockets.map fun d => if d.number = num then f d else d := rfl

@[simp] theorem State.dequeueOrder_orderQueue (num : Nat) :
    (s.dequeueOrder num).orderQueue = s.orderQueue.filter (· ≠ num) := rfl

@[simp] theorem State.joinFinished_finished (num : Nat) :
    (s.joinFinished num).finished = s.finished ++ [num] := rfl

/-! ### The store -/

@[simp] theorem State.wait_waiters (r : RecordId) (k : WaitKind) :
    (s.wait r k).waiters = s.waiters ++ [{ record := r, kind := k }] := rfl

@[simp] theorem State.setMarker_settlements (num : Nat) (m : Marker) :
    (s.setMarker num m).settlements = s.settlements.map fun e =>
      if e.2.docket = num then (e.1, { e.2 with marker := m }) else e := rfl

@[simp] theorem State.leaveResidue_store (g : Program) (f : Residue → Residue) :
    (s.leaveResidue g f).store = s.store.leave g (f (Config.residue s.freeCount)) := rfl

/-- Of which programs a second failure leaves the record DISPENSING (R45). -/
theorem State.handBackOf_eq_some (g : Program) (x : SettleRecord) :
    s.handBackOf g = some x ↔ g.image = .settlement (some x) ∧ x.marker = .owed ∧
      s.handedBack = some x.docket ∧ ∃ e rest, s.commitQueue = e :: rest ∧ e.changed = false := by
  cases hq : s.commitQueue <;> simp only [State.handBackOf] <;> split <;> simp_all
  all_goals (constructor <;> rintro ⟨⟨h1, h2, h3⟩, h4⟩ <;> simp_all)

/-- Without its image a residue is the old contents or corrupt. -/
theorem withoutImage_cases (x : Residue) :
    withoutImage x = .old ∨ ∃ idField, withoutImage x = .corrupt idField := by
  cases x <;> simp [withoutImage]

/-- What a program cut off leaves in the store (R62, R73). -/
theorem State.cutProgram_store :
    (s.program = none → s.cutProgram.store = s.store) ∧
    ∀ g, s.program = some g → s.cutProgram.store = s.store ∨
      ∃ idField, s.cutProgram.store = s.store.corrupt g.record idField := by
  refine ⟨fun h => by simp [State.cutProgram, h], fun g h => ?_⟩
  obtain hx | ⟨k, hx⟩ := withoutImage_cases (Config.residue s.freeCount) <;>
    simp only [State.cutProgram, h, State.leaveResidue, hx, Store.leave]
  · exact .inl trivial
  · exact .inr ⟨k, rfl⟩

/-- Which programs' images their records do not hold after a second failure (R44, R54, R71, R83). -/
theorem Store.imageBarred_iff (m : Store) (g : Program) : m.imageBarred g = true ↔
    g.record = .float ∨ g.record = .settings ∨ ∃ n x, g.record = .settlement n ∧
      g.image = .settlement (some x) ∧ x.marker = .owed ∧
      tableGet m.settlements n = some (.valid { x with marker := .dispensing }) := by
  obtain ⟨r, i, -, -⟩ := g
  cases r <;> rcases i with _ | (_ | _) | _ | _ | _ <;> simp [Store.imageBarred]

/-- What a residue is after a second failure. -/
theorem Store.failureResidue_cases (m : Store) (g : Program) (x : Residue) :
    m.failureResidue g x = .old ∨ (∃ idField, m.failureResidue g x = .corrupt idField) ∨
    (m.failureResidue g x = .image ∧ m.imageBarred g = false) := by
  unfold Store.failureResidue
  split <;> cases x <;> simp_all [withoutImage]

/-- What a program that has failed twice leaves in the store (R45, R68, R71, R83). -/
theorem State.leaveFailed_store (g : Program) :
    (∃ x, s.handBackOf g = some x ∧ (s.leaveFailed g).store =
      s.store.write g.record (.settlement (some { x with marker := .dispensing }))) ∨
    (s.handBackOf g = none ∧ (s.leaveFailed g).store =
      s.store.leave g (s.store.failureResidue g (Config.residue s.freeCount))) := by
  unfold State.leaveFailed
  split <;> rename_i h
  · exact .inl ⟨_, h, rfl⟩
  · exact .inr ⟨h, rfl⟩

@[simp] theorem State.noteFault_faults (k : FaultKind) :
    (s.noteFault k).faults = s.faults.set k ((s.faults.get k).occur s.yardTime) := by
  simp [State.noteFault]

@[simp] theorem State.recordFault_faults (k : FaultKind) :
    (s.recordFault k).faults = s.faults.set k ((s.faults.get k).occur s.yardTime) := by
  simp [State.recordFault]

@[simp] theorem FaultRecord.get_set (r : FaultRecord) (k j : FaultKind) (e : FaultEntry) :
    (r.set k e).get j = if j = k then e else r.get j := by
  cases k <;> cases j <;> rfl

end Machine
end Sys2Proof
end

