-- ==== Sys2Proof/Laws/Commands.lean ====
section
/-! SUPPORT. For each operation that ends or answers a command, one lemma that says all it does. -/
namespace Sys2Proof.Machine

variable {s : State} {p : Port} {c : CommandCode} {ps : List Byte}

/-! ### The checks of R175 -/

theorem State.command_takes (h : s.Takes p c ps) (run : State → State) :
    s.command p c ps run = run s := by
  simp [State.command, h.1, h.2.1, h.2.2]

theorem State.command_notReady (h : (s.ports.get p).phase ≠ .ready) (run : State → State) :
    s.command p c ps run = s := by simp [State.command, h]

theorem State.command_notPermitted (h : (s.ports.get p).phase = .ready) (h2 : c.permitted p = false)
    (run : State → State) : s.command p c ps run = s.refused p c .notPermitted := by
  simp [State.command, h, h2, State.refused]

theorem State.command_invalidLength (h : (s.ports.get p).phase = .ready) (h2 : c.permitted p = true)
    (h3 : ps.length ≠ c.paramBytes) (run : State → State) :
    s.command p c ps run = s.refused p c .invalidLength := by
  simp [State.command, h, h2, h3, State.refused]

/-- Everything that a write of a command can come to (R175, R176). -/
theorem State.command_cases (run : State → State) :
    s.command p c ps run = s ∨
    (∃ rc, (s.ports.get p).phase = .ready ∧ (rc = .notPermitted ∨ rc = .invalidLength) ∧
      s.command p c ps run = s.refused p c rc) ∨
    (s.Takes p c ps ∧ s.command p c ps run = run s) := by
  by_cases h1 : (s.ports.get p).phase = .ready
  · by_cases h2 : c.permitted p = true
    · by_cases h3 : ps.length = c.paramBytes
      · exact .inr (.inr ⟨⟨h1, h2, h3⟩, State.command_takes ⟨h1, h2, h3⟩ run⟩)
      · exact .inr (.inl ⟨_, h1, .inr rfl, State.command_invalidLength h1 h2 h3 run⟩)
    · exact .inr (.inl ⟨_, h1, .inl rfl, State.command_notPermitted h1 (by simpa using h2) run⟩)
  · exact .inl (State.command_notReady h1 run)

/-! ### Results -/

/-- The lines do not look at a port's phase, result or hold timer (R182). -/
theorem State.showing_ruledPins (s : State) (p : Port) (bs : List Byte) :
    (s.showing p bs).ruledPins = s.ruledPins := by
  cases p <;> rfl

theorem State.respond_showing (s : State) (p : Port) (c : CommandCode) (rc : ResultCode) (b : Body) :
    s.respond p c rc b = s.showing p (resultBytes c.byte rc b) := rfl

/-- A result drawn on ruled lines changes its port alone. -/
theorem State.answered_showing (h : s.PinsRuled) (b : Body) :
    s.answered p c b = s.showing p (resultBytes c.byte .ok b) := by
  have : (s.showing p (resultBytes c.byte .ok b)).drivePins =
      { s.showing p (resultBytes c.byte .ok b) with pins := s.ruledPins } := by
    rw [← State.showing_ruledPins]; rfl
  rw [State.answered, State.respond_showing, this, ← h]
  rfl

theorem State.refused_showing (h : s.PinsRuled) (rc : ResultCode) :
    s.refused p c rc = s.showing p (resultBytes c.byte rc []) := by
  have : (s.showing p (resultBytes c.byte rc [])).drivePins =
      { s.showing p (resultBytes c.byte rc []) with pins := s.ruledPins } := by
    rw [← State.showing_ruledPins]; rfl
  rw [State.refused, State.refuse, State.respond_showing, this, ← h]
  rfl

/-- A refusal's four bytes (Table 10-6). -/
@[simp] theorem resultBytes_nil (code : Byte) (rc : ResultCode) :
    resultBytes code rc [] = [code, rc.byte, 0, 0] := rfl

/-! ### Event flags -/

/-- A flag raised is set, and every flag already set stays (R181). -/
theorem State.raise_flagged (s : State) (p : Port) (e : Event) : (s.raise p e).Flagged p e := by
  simp only [State.Flagged, State.raise_ports, PerPort.get_set, if_true]
  ext i
  simp only [BitVec.getElem_and, BitVec.getElem_or]
  cases (e.bit p)[i] <;> simp

theorem State.raise_keeps {e : Event} (h : s.Flagged p e) (q : Port) (x : Event) :
    (s.raise q x).Flagged p e := by
  simp only [State.Flagged, State.raise_ports, PerPort.get_set] at h ⊢
  split
  · rename_i hq; subst hq
    ext i hi
    have := congrArg (fun v : BitVec 16 => v.getLsbD i) h
    simp at this ⊢
    intro hb
    exact .inl (this hb)
  · exact h

/-! ### Encoded widths -/

@[simp] theorem be_length (k n : Nat) : (be k n).length = k := by
  induction k generalizing n with
  | zero => rfl
  | succ k ih => simp [be, ih]

theorem beNat_append (xs : List Byte) (b : Byte) : beNat (xs ++ [b]) = beNat xs * 256 + b.toNat := by
  simp [beNat]

/-- A field of `k` bytes holds a value below 256 ^ k whole (R185). -/
theorem beNat_be {k n : Nat} (h : n < 256 ^ k) : beNat (be k n) = n := by
  induction k generalizing n with
  | zero => simp at h; subst h; rfl
  | succ k ih =>
    have h2 : n / 256 < 256 ^ k := by
      rw [Nat.div_lt_iff_lt_mul (by omega)]; rw [Nat.pow_succ] at h; omega
    rw [be, beNat_append, ih h2]
    simp only [BitVec.toNat_ofNat]
    omega

theorem beNat_lt (bs : List Byte) : beNat bs < 256 ^ bs.length := by
  induction bs using List.reverseRecOn with
  | nil => simp [beNat]
  | append_singleton xs b ih =>
    have hb := b.isLt
    rw [beNat_append]
    simp only [List.length_append, List.length_singleton, Nat.pow_succ]
    omega

/-- A field is below 256 to its width (R185). -/
theorem field_lt (ps : List Byte) (off width : Nat) : field ps off width < 256 ^ width := by
  have h := beNat_lt ((ps.drop off).take width)
  have : ((ps.drop off).take width).length ≤ width := by simp
  exact Nat.lt_of_lt_of_le h (Nat.pow_le_pow_right (by omega) this)

end Sys2Proof.Machine
end

