-- ==== Sys2Proof/Laws/Events.lean ====
section
/-! SUPPORT. For each operation of the lanes, the link, the orders and the store, one lemma that names
every field of the state it leaves as it was, in the form of those of Laws/Ops.lean. -/
namespace Sys2Proof.Machine

/-- What the end of a pass or entry changes (R107, R108). -/
@[simp] theorem State.endPass_frame (s : State) (n : Lane) (c : Cause) :
    (s.endPass n c).pending = s.pending ∧ (s.endPass n c).mode = s.mode ∧
    (s.endPass n c).addrStrap = s.addrStrap ∧ (s.endPass n c).address = s.address ∧
    (s.endPass n c).yardTime = s.yardTime ∧ (s.endPass n c).subSecond = s.subSecond ∧
    (s.endPass n c).handedBack = s.handedBack ∧ (s.endPass n c).resetLow = s.resetLow ∧
    (s.endPass n c).links = s.links ∧ (s.endPass n c).rotation = s.rotation ∧
    (s.endPass n c).turn = s.turn ∧ (s.endPass n c).nextNumber = s.nextNumber ∧
    (s.endPass n c).dispenseTimer = s.dispenseTimer ∧ (s.endPass n c).float = s.float ∧
    (s.endPass n c).floatLow = s.floatLow ∧ (s.endPass n c).shortCause = s.shortCause ∧
    (s.endPass n c).emptyCause = s.emptyCause ∧ (s.endPass n c).faults = s.faults ∧
    (s.endPass n c).settings = s.settings ∧ (s.endPass n c).lockout = s.lockout ∧
    (s.endPass n c).store = s.store ∧ (s.endPass n c).program = s.program ∧
    (s.endPass n c).pins = s.pins ∧ (s.endPass n c).freeCount = s.freeCount := by
  unfold State.endPass; (repeat' split) <;> simp

/-- What leaving the counting states changes (R107). -/
@[simp] theorem State.leaveTo_frame (s : State) (n : Lane) (c : Cause) (f : Detector → Detector) :
    (s.leaveTo n c f).pending = s.pending ∧ (s.leaveTo n c f).mode = s.mode ∧
    (s.leaveTo n c f).addrStrap = s.addrStrap ∧ (s.leaveTo n c f).address = s.address ∧
    (s.leaveTo n c f).yardTime = s.yardTime ∧ (s.leaveTo n c f).subSecond = s.subSecond ∧
    (s.leaveTo n c f).handedBack = s.handedBack ∧ (s.leaveTo n c f).resetLow = s.resetLow ∧
    (s.leaveTo n c f).links = s.links ∧ (s.leaveTo n c f).rotation = s.rotation ∧
    (s.leaveTo n c f).turn = s.turn ∧ (s.leaveTo n c f).nextNumber = s.nextNumber ∧
    (s.leaveTo n c f).dispenseTimer = s.dispenseTimer ∧ (s.leaveTo n c f).float = s.float ∧
    (s.leaveTo n c f).floatLow = s.floatLow ∧ (s.leaveTo n c f).shortCause = s.shortCause ∧
    (s.leaveTo n c f).emptyCause = s.emptyCause ∧ (s.leaveTo n c f).faults = s.faults ∧
    (s.leaveTo n c f).settings = s.settings ∧ (s.leaveTo n c f).lockout = s.lockout ∧
    (s.leaveTo n c f).store = s.store ∧ (s.leaveTo n c f).program = s.program ∧
    (s.leaveTo n c f).pins = s.pins ∧ (s.leaveTo n c f).freeCount = s.freeCount := by
  simp [State.leaveTo]

/-- What a lane's going to OFF changes (R110). -/
@[simp] theorem State.laneOff_frame (s : State) (n : Lane) :
    (s.laneOff n).pending = s.pending ∧ (s.laneOff n).mode = s.mode ∧
    (s.laneOff n).addrStrap = s.addrStrap ∧ (s.laneOff n).address = s.address ∧
    (s.laneOff n).yardTime = s.yardTime ∧ (s.laneOff n).subSecond = s.subSecond ∧
    (s.laneOff n).handedBack = s.handedBack ∧ (s.laneOff n).resetLow = s.resetLow ∧
    (s.laneOff n).rotation = s.rotation ∧ (s.laneOff n).turn = s.turn ∧
    (s.laneOff n).nextNumber = s.nextNumber ∧ (s.laneOff n).dispenseTimer = s.dispenseTimer ∧
    (s.laneOff n).float = s.float ∧ (s.laneOff n).floatLow = s.floatLow ∧
    (s.laneOff n).shortCause = s.shortCause ∧ (s.laneOff n).emptyCause = s.emptyCause ∧
    (s.laneOff n).faults = s.faults ∧ (s.laneOff n).settings = s.settings ∧
    (s.laneOff n).lockout = s.lockout ∧ (s.laneOff n).store = s.store ∧
    (s.laneOff n).program = s.program ∧ (s.laneOff n).pins = s.pins ∧
    (s.laneOff n).freeCount = s.freeCount := by
  simp [State.laneOff]

/-- What the beginning of a turn changes (R132, R143, R147). -/
@[simp] theorem State.beginTurn_frame (s : State) (n : Lane) :
    (s.beginTurn n).pending = s.pending ∧ (s.beginTurn n).mode = s.mode ∧
    (s.beginTurn n).addrStrap = s.addrStrap ∧ (s.beginTurn n).address = s.address ∧
    (s.beginTurn n).yardTime = s.yardTime ∧ (s.beginTurn n).subSecond = s.subSecond ∧
    (s.beginTurn n).handedBack = s.handedBack ∧ (s.beginTurn n).resetLow = s.resetLow ∧
    (s.beginTurn n).links = s.links ∧ (s.beginTurn n).strays = s.strays ∧
    (s.beginTurn n).dockets = s.dockets ∧ (s.beginTurn n).finished = s.finished ∧
    (s.beginTurn n).nextNumber = s.nextNumber ∧ (s.beginTurn n).openDocket = s.openDocket ∧
    (s.beginTurn n).grace = s.grace ∧ (s.beginTurn n).orderQueue = s.orderQueue ∧
    (s.beginTurn n).dispenseTimer = s.dispenseTimer ∧ (s.beginTurn n).float = s.float ∧
    (s.beginTurn n).floatLow = s.floatLow ∧ (s.beginTurn n).shortCause = s.shortCause ∧
    (s.beginTurn n).emptyCause = s.emptyCause ∧ (s.beginTurn n).accounts = s.accounts ∧
    (s.beginTurn n).settlements = s.settlements ∧ (s.beginTurn n).faults = s.faults ∧
    (s.beginTurn n).settings = s.settings ∧ (s.beginTurn n).lockout = s.lockout ∧
    (s.beginTurn n).store = s.store ∧ (s.beginTurn n).commitQueue = s.commitQueue ∧
    (s.beginTurn n).held = s.held ∧ (s.beginTurn n).program = s.program ∧
    (s.beginTurn n).waiters = s.waiters ∧ (s.beginTurn n).ports = s.ports ∧
    (s.beginTurn n).pins = s.pins ∧ (s.beginTurn n).freeCount = s.freeCount := by
  unfold State.beginTurn; dsimp only; (repeat' split) <;> simp

/-- What the beginning of the next turn changes (R147). -/
@[simp] theorem State.nextTurn_frame (s : State) :
    (s.nextTurn).pending = s.pending ∧ (s.nextTurn).mode = s.mode ∧
    (s.nextTurn).addrStrap = s.addrStrap ∧ (s.nextTurn).address = s.address ∧
    (s.nextTurn).yardTime = s.yardTime ∧ (s.nextTurn).subSecond = s.subSecond ∧
    (s.nextTurn).handedBack = s.handedBack ∧ (s.nextTurn).resetLow = s.resetLow ∧
    (s.nextTurn).links = s.links ∧ (s.nextTurn).strays = s.strays ∧
    (s.nextTurn).dockets = s.dockets ∧ (s.nextTurn).finished = s.finished ∧
    (s.nextTurn).nextNumber = s.nextNumber ∧ (s.nextTurn).openDocket = s.openDocket ∧
    (s.nextTurn).grace = s.grace ∧ (s.nextTurn).orderQueue = s.orderQueue ∧
    (s.nextTurn).dispenseTimer = s.dispenseTimer ∧ (s.nextTurn).float = s.float ∧
    (s.nextTurn).floatLow = s.floatLow ∧ (s.nextTurn).shortCause = s.shortCause ∧
    (s.nextTurn).emptyCause = s.emptyCause ∧ (s.nextTurn).accounts = s.accounts ∧
    (s.nextTurn).settlements = s.settlements ∧ (s.nextTurn).faults = s.faults ∧
    (s.nextTurn).settings = s.settings ∧ (s.nextTurn).lockout = s.lockout ∧
    (s.nextTurn).store = s.store ∧ (s.nextTurn).commitQueue = s.commitQueue ∧
    (s.nextTurn).held = s.held ∧ (s.nextTurn).program = s.program ∧
    (s.nextTurn).waiters = s.waiters ∧ (s.nextTurn).ports = s.ports ∧ (s.nextTurn).pins = s.pins ∧
    (s.nextTurn).freeCount = s.freeCount := by
  unfold State.nextTurn; (repeat' split) <;> simp

/-- What the drift check changes (R138, R139). -/
@[simp] theorem State.checkDrift_frame (s : State) (n : Lane) :
    (s.checkDrift n).pending = s.pending ∧ (s.checkDrift n).mode = s.mode ∧
    (s.checkDrift n).addrStrap = s.addrStrap ∧ (s.checkDrift n).address = s.address ∧
    (s.checkDrift n).yardTime = s.yardTime ∧ (s.checkDrift n).subSecond = s.subSecond ∧
    (s.checkDrift n).handedBack = s.handedBack ∧ (s.checkDrift n).resetLow = s.resetLow ∧
    (s.checkDrift n).links = s.links ∧ (s.checkDrift n).rotation = s.rotation ∧
    (s.checkDrift n).turn = s.turn ∧ (s.checkDrift n).strays = s.strays ∧
    (s.checkDrift n).dockets = s.dockets ∧ (s.checkDrift n).finished = s.finished ∧
    (s.checkDrift n).nextNumber = s.nextNumber ∧ (s.checkDrift n).openDocket = s.openDocket ∧
    (s.checkDrift n).grace = s.grace ∧ (s.checkDrift n).orderQueue = s.orderQueue ∧
    (s.checkDrift n).dispenseTimer = s.dispenseTimer ∧ (s.checkDrift n).float = s.float ∧
    (s.checkDrift n).floatLow = s.floatLow ∧ (s.checkDrift n).shortCause = s.shortCause ∧
    (s.checkDrift n).emptyCause = s.emptyCause ∧ (s.checkDrift n).accounts = s.accounts ∧
    (s.checkDrift n).settlements = s.settlements ∧ (s.checkDrift n).faults = s.faults ∧
    (s.checkDrift n).settings = s.settings ∧ (s.checkDrift n).lockout = s.lockout ∧
    (s.checkDrift n).store = s.store ∧ (s.checkDrift n).commitQueue = s.commitQueue ∧
    (s.checkDrift n).held = s.held ∧ (s.checkDrift n).program = s.program ∧
    (s.checkDrift n).waiters = s.waiters ∧ (s.checkDrift n).pins = s.pins ∧
    (s.checkDrift n).freeCount = s.freeCount := by
  unfold State.checkDrift; dsimp only; (repeat' split) <;> simp

/-- What the Docket Table does with what it hears of a sample (R16, R17). -/
@[simp] theorem State.hear_frame (s : State) (n : Lane) (e : SampleEvent) :
    (s.hear n e).pending = s.pending ∧ (s.hear n e).mode = s.mode ∧
    (s.hear n e).addrStrap = s.addrStrap ∧ (s.hear n e).address = s.address ∧
    (s.hear n e).yardTime = s.yardTime ∧ (s.hear n e).subSecond = s.subSecond ∧
    (s.hear n e).handedBack = s.handedBack ∧ (s.hear n e).resetLow = s.resetLow ∧
    (s.hear n e).links = s.links ∧ (s.hear n e).rotation = s.rotation ∧
    (s.hear n e).turn = s.turn ∧ (s.hear n e).nextNumber = s.nextNumber ∧
    (s.hear n e).dispenseTimer = s.dispenseTimer ∧ (s.hear n e).float = s.float ∧
    (s.hear n e).floatLow = s.floatLow ∧ (s.hear n e).shortCause = s.shortCause ∧
    (s.hear n e).emptyCause = s.emptyCause ∧ (s.hear n e).faults = s.faults ∧
    (s.hear n e).settings = s.settings ∧ (s.hear n e).lockout = s.lockout ∧
    (s.hear n e).store = s.store ∧ (s.hear n e).program = s.program ∧ (s.hear n e).pins = s.pins ∧
    (s.hear n e).freeCount = s.freeCount := by
  unfold State.hear; split <;> simp

/-- What a sample processed in a counting state changes (R90). -/
@[simp] theorem State.countingSample_frame (s : State) (n : Lane) (raw : PerChan Nat) :
    (s.countingSample n raw).pending = s.pending ∧ (s.countingSample n raw).mode = s.mode ∧
    (s.countingSample n raw).addrStrap = s.addrStrap ∧
    (s.countingSample n raw).address = s.address ∧ (s.countingSample n raw).yardTime = s.yardTime ∧
    (s.countingSample n raw).subSecond = s.subSecond ∧
    (s.countingSample n raw).handedBack = s.handedBack ∧
    (s.countingSample n raw).resetLow = s.resetLow ∧ (s.countingSample n raw).links = s.links ∧
    (s.countingSample n raw).rotation = s.rotation ∧ (s.countingSample n raw).turn = s.turn ∧
    (s.countingSample n raw).nextNumber = s.nextNumber ∧
    (s.countingSample n raw).dispenseTimer = s.dispenseTimer ∧
    (s.countingSample n raw).float = s.float ∧ (s.countingSample n raw).floatLow = s.floatLow ∧
    (s.countingSample n raw).shortCause = s.shortCause ∧
    (s.countingSample n raw).emptyCause = s.emptyCause ∧
    (s.countingSample n raw).faults = s.faults ∧ (s.countingSample n raw).settings = s.settings ∧
    (s.countingSample n raw).lockout = s.lockout ∧ (s.countingSample n raw).store = s.store ∧
    (s.countingSample n raw).program = s.program ∧ (s.countingSample n raw).pins = s.pins ∧
    (s.countingSample n raw).freeCount = s.freeCount := by
  unfold State.countingSample; dsimp only; (repeat' split) <;> simp

/-- What a fresh sample changes (R89). -/
@[simp] theorem State.freshSample_frame (s : State) (n : Lane) (raw : PerChan Nat) :
    (s.freshSample n raw).pending = s.pending ∧ (s.freshSample n raw).mode = s.mode ∧
    (s.freshSample n raw).addrStrap = s.addrStrap ∧ (s.freshSample n raw).address = s.address ∧
    (s.freshSample n raw).yardTime = s.yardTime ∧ (s.freshSample n raw).subSecond = s.subSecond ∧
    (s.freshSample n raw).handedBack = s.handedBack ∧ (s.freshSample n raw).resetLow = s.resetLow ∧
    (s.freshSample n raw).links = s.links ∧ (s.freshSample n raw).rotation = s.rotation ∧
    (s.freshSample n raw).turn = s.turn ∧ (s.freshSample n raw).nextNumber = s.nextNumber ∧
    (s.freshSample n raw).dispenseTimer = s.dispenseTimer ∧ (s.freshSample n raw).float = s.float ∧
    (s.freshSample n raw).floatLow = s.floatLow ∧ (s.freshSample n raw).shortCause = s.shortCause ∧
    (s.freshSample n raw).emptyCause = s.emptyCause ∧ (s.freshSample n raw).faults = s.faults ∧
    (s.freshSample n raw).settings = s.settings ∧ (s.freshSample n raw).lockout = s.lockout ∧
    (s.freshSample n raw).store = s.store ∧ (s.freshSample n raw).program = s.program ∧
    (s.freshSample n raw).pins = s.pins ∧ (s.freshSample n raw).freeCount = s.freeCount := by
  unfold State.freshSample; dsimp only; (repeat' split) <;> simp

/-- What a rise of the tune count changes (R133, R134). -/
@[simp] theorem State.raiseTuneCount_frame (s : State) (n : Lane) :
    (s.raiseTuneCount n).pending = s.pending ∧ (s.raiseTuneCount n).mode = s.mode ∧
    (s.raiseTuneCount n).addrStrap = s.addrStrap ∧ (s.raiseTuneCount n).address = s.address ∧
    (s.raiseTuneCount n).yardTime = s.yardTime ∧ (s.raiseTuneCount n).subSecond = s.subSecond ∧
    (s.raiseTuneCount n).handedBack = s.handedBack ∧ (s.raiseTuneCount n).resetLow = s.resetLow ∧
    (s.raiseTuneCount n).links = s.links ∧ (s.raiseTuneCount n).rotation = s.rotation ∧
    (s.raiseTuneCount n).turn = s.turn ∧ (s.raiseTuneCount n).strays = s.strays ∧
    (s.raiseTuneCount n).dockets = s.dockets ∧ (s.raiseTuneCount n).finished = s.finished ∧
    (s.raiseTuneCount n).nextNumber = s.nextNumber ∧
    (s.raiseTuneCount n).openDocket = s.openDocket ∧ (s.raiseTuneCount n).grace = s.grace ∧
    (s.raiseTuneCount n).orderQueue = s.orderQueue ∧
    (s.raiseTuneCount n).dispenseTimer = s.dispenseTimer ∧ (s.raiseTuneCount n).float = s.float ∧
    (s.raiseTuneCount n).floatLow = s.floatLow ∧ (s.raiseTuneCount n).shortCause = s.shortCause ∧
    (s.raiseTuneCount n).emptyCause = s.emptyCause ∧ (s.raiseTuneCount n).accounts = s.accounts ∧
    (s.raiseTuneCount n).settlements = s.settlements ∧ (s.raiseTuneCount n).faults = s.faults ∧
    (s.raiseTuneCount n).settings = s.settings ∧ (s.raiseTuneCount n).lockout = s.lockout ∧
    (s.raiseTuneCount n).store = s.store ∧ (s.raiseTuneCount n).commitQueue = s.commitQueue ∧
    (s.raiseTuneCount n).held = s.held ∧ (s.raiseTuneCount n).program = s.program ∧
    (s.raiseTuneCount n).waiters = s.waiters ∧ (s.raiseTuneCount n).pins = s.pins ∧
    (s.raiseTuneCount n).freeCount = s.freeCount := by
  unfold State.raiseTuneCount; dsimp only; (repeat' split) <;> simp

/-- What a miss delivered to a lane changes (R89). -/
@[simp] theorem State.missDelivered_frame (s : State) (n : Lane) :
    (s.missDelivered n).pending = s.pending ∧ (s.missDelivered n).mode = s.mode ∧
    (s.missDelivered n).addrStrap = s.addrStrap ∧ (s.missDelivered n).address = s.address ∧
    (s.missDelivered n).yardTime = s.yardTime ∧ (s.missDelivered n).subSecond = s.subSecond ∧
    (s.missDelivered n).handedBack = s.handedBack ∧ (s.missDelivered n).resetLow = s.resetLow ∧
    (s.missDelivered n).links = s.links ∧ (s.missDelivered n).rotation = s.rotation ∧
    (s.missDelivered n).turn = s.turn ∧ (s.missDelivered n).nextNumber = s.nextNumber ∧
    (s.missDelivered n).dispenseTimer = s.dispenseTimer ∧ (s.missDelivered n).float = s.float ∧
    (s.missDelivered n).floatLow = s.floatLow ∧ (s.missDelivered n).shortCause = s.shortCause ∧
    (s.missDelivered n).emptyCause = s.emptyCause ∧ (s.missDelivered n).faults = s.faults ∧
    (s.missDelivered n).settings = s.settings ∧ (s.missDelivered n).lockout = s.lockout ∧
    (s.missDelivered n).store = s.store ∧ (s.missDelivered n).program = s.program ∧
    (s.missDelivered n).pins = s.pins ∧ (s.missDelivered n).freeCount = s.freeCount := by
  unfold State.missDelivered; dsimp only; (repeat' split) <;> simp

/-- What the band check changes (R135). -/
@[simp] theorem State.bandCheck_frame (s : State) (n : Lane) (counts : PerChan Nat) :
    (s.bandCheck n counts).pending = s.pending ∧ (s.bandCheck n counts).mode = s.mode ∧
    (s.bandCheck n counts).addrStrap = s.addrStrap ∧ (s.bandCheck n counts).address = s.address ∧
    (s.bandCheck n counts).yardTime = s.yardTime ∧ (s.bandCheck n counts).subSecond = s.subSecond ∧
    (s.bandCheck n counts).handedBack = s.handedBack ∧
    (s.bandCheck n counts).resetLow = s.resetLow ∧
    (s.bandCheck n counts).links = s.links ∧ (s.bandCheck n counts).rotation = s.rotation ∧
    (s.bandCheck n counts).turn = s.turn ∧ (s.bandCheck n counts).strays = s.strays ∧
    (s.bandCheck n counts).dockets = s.dockets ∧ (s.bandCheck n counts).finished = s.finished ∧
    (s.bandCheck n counts).nextNumber = s.nextNumber ∧
    (s.bandCheck n counts).openDocket = s.openDocket ∧ (s.bandCheck n counts).grace = s.grace ∧
    (s.bandCheck n counts).orderQueue = s.orderQueue ∧
    (s.bandCheck n counts).dispenseTimer = s.dispenseTimer ∧
    (s.bandCheck n counts).float = s.float ∧ (s.bandCheck n counts).floatLow = s.floatLow ∧
    (s.bandCheck n counts).shortCause = s.shortCause ∧
    (s.bandCheck n counts).emptyCause = s.emptyCause ∧
    (s.bandCheck n counts).accounts = s.accounts ∧
    (s.bandCheck n counts).settlements = s.settlements ∧ (s.bandCheck n counts).faults = s.faults ∧
    (s.bandCheck n counts).settings = s.settings ∧ (s.bandCheck n counts).lockout = s.lockout ∧
    (s.bandCheck n counts).store = s.store ∧ (s.bandCheck n counts).commitQueue = s.commitQueue ∧
    (s.bandCheck n counts).held = s.held ∧ (s.bandCheck n counts).program = s.program ∧
    (s.bandCheck n counts).waiters = s.waiters ∧ (s.bandCheck n counts).pins = s.pins ∧
    (s.bandCheck n counts).freeCount = s.freeCount := by
  unfold State.bandCheck; dsimp only; (repeat' split) <;> simp

/-- What a FRESH answer changes (R153). -/
@[simp] theorem State.freshAnswer_frame (s : State) (n : Lane) :
    (s.freshAnswer n).pending = s.pending ∧ (s.freshAnswer n).mode = s.mode ∧
    (s.freshAnswer n).addrStrap = s.addrStrap ∧ (s.freshAnswer n).address = s.address ∧
    (s.freshAnswer n).yardTime = s.yardTime ∧ (s.freshAnswer n).subSecond = s.subSecond ∧
    (s.freshAnswer n).handedBack = s.handedBack ∧ (s.freshAnswer n).resetLow = s.resetLow ∧
    (s.freshAnswer n).rotation = s.rotation ∧ (s.freshAnswer n).turn = s.turn ∧
    (s.freshAnswer n).nextNumber = s.nextNumber ∧
    (s.freshAnswer n).dispenseTimer = s.dispenseTimer ∧ (s.freshAnswer n).float = s.float ∧
    (s.freshAnswer n).floatLow = s.floatLow ∧ (s.freshAnswer n).shortCause = s.shortCause ∧
    (s.freshAnswer n).emptyCause = s.emptyCause ∧ (s.freshAnswer n).faults = s.faults ∧
    (s.freshAnswer n).settings = s.settings ∧ (s.freshAnswer n).lockout = s.lockout ∧
    (s.freshAnswer n).store = s.store ∧ (s.freshAnswer n).program = s.program ∧
    (s.freshAnswer n).pins = s.pins ∧ (s.freshAnswer n).freeCount = s.freeCount := by
  unfold State.freshAnswer; dsimp only; (repeat' split) <;> simp

/-- What a SAMPLE answer changes (R152). -/
@[simp] theorem State.sampleAnswer_frame (s : State) (t : Turn) (st : AnswerStatus) (seq : Nat)
    (counts : PerChan Nat) :
    (s.sampleAnswer t st seq counts).pending = s.pending ∧
    (s.sampleAnswer t st seq counts).mode = s.mode ∧
    (s.sampleAnswer t st seq counts).addrStrap = s.addrStrap ∧
    (s.sampleAnswer t st seq counts).address = s.address ∧
    (s.sampleAnswer t st seq counts).yardTime = s.yardTime ∧
    (s.sampleAnswer t st seq counts).subSecond = s.subSecond ∧
    (s.sampleAnswer t st seq counts).handedBack = s.handedBack ∧
    (s.sampleAnswer t st seq counts).resetLow = s.resetLow ∧
    (s.sampleAnswer t st seq counts).rotation = s.rotation ∧
    (s.sampleAnswer t st seq counts).turn = s.turn ∧
    (s.sampleAnswer t st seq counts).nextNumber = s.nextNumber ∧
    (s.sampleAnswer t st seq counts).dispenseTimer = s.dispenseTimer ∧
    (s.sampleAnswer t st seq counts).float = s.float ∧
    (s.sampleAnswer t st seq counts).floatLow = s.floatLow ∧
    (s.sampleAnswer t st seq counts).shortCause = s.shortCause ∧
    (s.sampleAnswer t st seq counts).emptyCause = s.emptyCause ∧
    (s.sampleAnswer t st seq counts).faults = s.faults ∧
    (s.sampleAnswer t st seq counts).settings = s.settings ∧
    (s.sampleAnswer t st seq counts).lockout = s.lockout ∧
    (s.sampleAnswer t st seq counts).store = s.store ∧
    (s.sampleAnswer t st seq counts).program = s.program ∧
    (s.sampleAnswer t st seq counts).pins = s.pins ∧
    (s.sampleAnswer t st seq counts).freeCount = s.freeCount := by
  unfold State.sampleAnswer; dsimp only; (repeat' split) <;> simp

/-- What a TUNE answer changes (R133). -/
@[simp] theorem State.tuneAnswer_frame (s : State) (n : Lane) (st : AnswerStatus) :
    (s.tuneAnswer n st).pending = s.pending ∧ (s.tuneAnswer n st).mode = s.mode ∧
    (s.tuneAnswer n st).addrStrap = s.addrStrap ∧ (s.tuneAnswer n st).address = s.address ∧
    (s.tuneAnswer n st).yardTime = s.yardTime ∧ (s.tuneAnswer n st).subSecond = s.subSecond ∧
    (s.tuneAnswer n st).handedBack = s.handedBack ∧ (s.tuneAnswer n st).resetLow = s.resetLow ∧
    (s.tuneAnswer n st).links = s.links ∧ (s.tuneAnswer n st).rotation = s.rotation ∧
    (s.tuneAnswer n st).turn = s.turn ∧ (s.tuneAnswer n st).strays = s.strays ∧
    (s.tuneAnswer n st).dockets = s.dockets ∧ (s.tuneAnswer n st).finished = s.finished ∧
    (s.tuneAnswer n st).nextNumber = s.nextNumber ∧ (s.tuneAnswer n st).openDocket = s.openDocket ∧
    (s.tuneAnswer n st).grace = s.grace ∧ (s.tuneAnswer n st).orderQueue = s.orderQueue ∧
    (s.tuneAnswer n st).dispenseTimer = s.dispenseTimer ∧ (s.tuneAnswer n st).float = s.float ∧
    (s.tuneAnswer n st).floatLow = s.floatLow ∧ (s.tuneAnswer n st).shortCause = s.shortCause ∧
    (s.tuneAnswer n st).emptyCause = s.emptyCause ∧ (s.tuneAnswer n st).accounts = s.accounts ∧
    (s.tuneAnswer n st).settlements = s.settlements ∧ (s.tuneAnswer n st).faults = s.faults ∧
    (s.tuneAnswer n st).settings = s.settings ∧ (s.tuneAnswer n st).lockout = s.lockout ∧
    (s.tuneAnswer n st).store = s.store ∧ (s.tuneAnswer n st).commitQueue = s.commitQueue ∧
    (s.tuneAnswer n st).held = s.held ∧ (s.tuneAnswer n st).program = s.program ∧
    (s.tuneAnswer n st).waiters = s.waiters ∧ (s.tuneAnswer n st).pins = s.pins ∧
    (s.tuneAnswer n st).freeCount = s.freeCount := by
  unfold State.tuneAnswer; dsimp only; (repeat' split) <;> simp

/-- What a CONFIG answer changes (R131). -/
@[simp] theorem State.configAnswer_frame (s : State) (n : Lane) :
    (s.configAnswer n).pending = s.pending ∧ (s.configAnswer n).mode = s.mode ∧
    (s.configAnswer n).addrStrap = s.addrStrap ∧ (s.configAnswer n).address = s.address ∧
    (s.configAnswer n).yardTime = s.yardTime ∧ (s.configAnswer n).subSecond = s.subSecond ∧
    (s.configAnswer n).handedBack = s.handedBack ∧ (s.configAnswer n).resetLow = s.resetLow ∧
    (s.configAnswer n).links = s.links ∧ (s.configAnswer n).rotation = s.rotation ∧
    (s.configAnswer n).turn = s.turn ∧ (s.configAnswer n).strays = s.strays ∧
    (s.configAnswer n).dockets = s.dockets ∧ (s.configAnswer n).finished = s.finished ∧
    (s.configAnswer n).nextNumber = s.nextNumber ∧ (s.configAnswer n).openDocket = s.openDocket ∧
    (s.configAnswer n).grace = s.grace ∧ (s.configAnswer n).orderQueue = s.orderQueue ∧
    (s.configAnswer n).dispenseTimer = s.dispenseTimer ∧ (s.configAnswer n).float = s.float ∧
    (s.configAnswer n).floatLow = s.floatLow ∧ (s.configAnswer n).shortCause = s.shortCause ∧
    (s.configAnswer n).emptyCause = s.emptyCause ∧ (s.configAnswer n).accounts = s.accounts ∧
    (s.configAnswer n).settlements = s.settlements ∧ (s.configAnswer n).faults = s.faults ∧
    (s.configAnswer n).settings = s.settings ∧ (s.configAnswer n).lockout = s.lockout ∧
    (s.configAnswer n).store = s.store ∧ (s.configAnswer n).commitQueue = s.commitQueue ∧
    (s.configAnswer n).held = s.held ∧ (s.configAnswer n).program = s.program ∧
    (s.configAnswer n).waiters = s.waiters ∧ (s.configAnswer n).pins = s.pins ∧
    (s.configAnswer n).freeCount = s.freeCount := by
  unfold State.configAnswer; dsimp only; (repeat' split) <;> simp

/-- What a turn's outcome changes on its lane (R149, R155). -/
@[simp] theorem State.applyVerdict_frame (s : State) (t : Turn) (v : Verdict) :
    (s.applyVerdict t v).pending = s.pending ∧ (s.applyVerdict t v).mode = s.mode ∧
    (s.applyVerdict t v).addrStrap = s.addrStrap ∧ (s.applyVerdict t v).address = s.address ∧
    (s.applyVerdict t v).yardTime = s.yardTime ∧ (s.applyVerdict t v).subSecond = s.subSecond ∧
    (s.applyVerdict t v).handedBack = s.handedBack ∧ (s.applyVerdict t v).resetLow = s.resetLow ∧
    (s.applyVerdict t v).rotation = s.rotation ∧ (s.applyVerdict t v).turn = s.turn ∧
    (s.applyVerdict t v).nextNumber = s.nextNumber ∧
    (s.applyVerdict t v).dispenseTimer = s.dispenseTimer ∧ (s.applyVerdict t v).float = s.float ∧
    (s.applyVerdict t v).floatLow = s.floatLow ∧ (s.applyVerdict t v).shortCause = s.shortCause ∧
    (s.applyVerdict t v).emptyCause = s.emptyCause ∧ (s.applyVerdict t v).faults = s.faults ∧
    (s.applyVerdict t v).settings = s.settings ∧ (s.applyVerdict t v).lockout = s.lockout ∧
    (s.applyVerdict t v).store = s.store ∧ (s.applyVerdict t v).program = s.program ∧
    (s.applyVerdict t v).pins = s.pins ∧ (s.applyVerdict t v).freeCount = s.freeCount := by
  unfold State.applyVerdict; (repeat' split) <;> simp

/-- Only the link's figures change (R158). -/
@[simp] theorem State.countTurn_frame (s : State) (t : Turn) (v : Verdict) :
    (s.countTurn t v).pending = s.pending ∧ (s.countTurn t v).mode = s.mode ∧
    (s.countTurn t v).addrStrap = s.addrStrap ∧ (s.countTurn t v).address = s.address ∧
    (s.countTurn t v).yardTime = s.yardTime ∧ (s.countTurn t v).subSecond = s.subSecond ∧
    (s.countTurn t v).handedBack = s.handedBack ∧ (s.countTurn t v).resetLow = s.resetLow ∧
    (s.countTurn t v).detectors = s.detectors ∧ (s.countTurn t v).rotation = s.rotation ∧
    (s.countTurn t v).turn = s.turn ∧ (s.countTurn t v).strays = s.strays ∧
    (s.countTurn t v).dockets = s.dockets ∧ (s.countTurn t v).finished = s.finished ∧
    (s.countTurn t v).nextNumber = s.nextNumber ∧ (s.countTurn t v).openDocket = s.openDocket ∧
    (s.countTurn t v).grace = s.grace ∧ (s.countTurn t v).orderQueue = s.orderQueue ∧
    (s.countTurn t v).dispenseTimer = s.dispenseTimer ∧ (s.countTurn t v).float = s.float ∧
    (s.countTurn t v).floatLow = s.floatLow ∧ (s.countTurn t v).shortCause = s.shortCause ∧
    (s.countTurn t v).emptyCause = s.emptyCause ∧ (s.countTurn t v).accounts = s.accounts ∧
    (s.countTurn t v).settlements = s.settlements ∧ (s.countTurn t v).faults = s.faults ∧
    (s.countTurn t v).settings = s.settings ∧ (s.countTurn t v).lockout = s.lockout ∧
    (s.countTurn t v).store = s.store ∧ (s.countTurn t v).commitQueue = s.commitQueue ∧
    (s.countTurn t v).held = s.held ∧ (s.countTurn t v).program = s.program ∧
    (s.countTurn t v).waiters = s.waiters ∧ (s.countTurn t v).ports = s.ports ∧
    (s.countTurn t v).pins = s.pins ∧ (s.countTurn t v).freeCount = s.freeCount := by
  simp [State.countTurn]

/-- What the silent run changes (R156, R157). -/
@[simp] theorem State.silence_frame (s : State) (t : Turn) (v : Verdict) :
    (s.silence t v).pending = s.pending ∧ (s.silence t v).mode = s.mode ∧
    (s.silence t v).addrStrap = s.addrStrap ∧ (s.silence t v).address = s.address ∧
    (s.silence t v).yardTime = s.yardTime ∧ (s.silence t v).subSecond = s.subSecond ∧
    (s.silence t v).handedBack = s.handedBack ∧ (s.silence t v).resetLow = s.resetLow ∧
    (s.silence t v).detectors = s.detectors ∧ (s.silence t v).rotation = s.rotation ∧
    (s.silence t v).turn = s.turn ∧ (s.silence t v).strays = s.strays ∧
    (s.silence t v).dockets = s.dockets ∧ (s.silence t v).finished = s.finished ∧
    (s.silence t v).nextNumber = s.nextNumber ∧ (s.silence t v).openDocket = s.openDocket ∧
    (s.silence t v).grace = s.grace ∧ (s.silence t v).orderQueue = s.orderQueue ∧
    (s.silence t v).dispenseTimer = s.dispenseTimer ∧ (s.silence t v).float = s.float ∧
    (s.silence t v).floatLow = s.floatLow ∧ (s.silence t v).shortCause = s.shortCause ∧
    (s.silence t v).emptyCause = s.emptyCause ∧ (s.silence t v).accounts = s.accounts ∧
    (s.silence t v).settlements = s.settlements ∧ (s.silence t v).settings = s.settings ∧
    (s.silence t v).store = s.store ∧ (s.silence t v).program = s.program ∧
    (s.silence t v).waiters = s.waiters ∧ (s.silence t v).pins = s.pins ∧
    (s.silence t v).freeCount = s.freeCount := by
  unfold State.silence; dsimp only; (repeat' split) <;> simp

/-- Only the link's figures change (R154). -/
@[simp] theorem State.missRunAfter_frame (s : State) (t : Turn) (v : Verdict) :
    (s.missRunAfter t v).pending = s.pending ∧ (s.missRunAfter t v).mode = s.mode ∧
    (s.missRunAfter t v).addrStrap = s.addrStrap ∧ (s.missRunAfter t v).address = s.address ∧
    (s.missRunAfter t v).yardTime = s.yardTime ∧ (s.missRunAfter t v).subSecond = s.subSecond ∧
    (s.missRunAfter t v).handedBack = s.handedBack ∧ (s.missRunAfter t v).resetLow = s.resetLow ∧
    (s.missRunAfter t v).detectors = s.detectors ∧ (s.missRunAfter t v).rotation = s.rotation ∧
    (s.missRunAfter t v).turn = s.turn ∧ (s.missRunAfter t v).strays = s.strays ∧
    (s.missRunAfter t v).dockets = s.dockets ∧ (s.missRunAfter t v).finished = s.finished ∧
    (s.missRunAfter t v).nextNumber = s.nextNumber ∧
    (s.missRunAfter t v).openDocket = s.openDocket ∧ (s.missRunAfter t v).grace = s.grace ∧
    (s.missRunAfter t v).orderQueue = s.orderQueue ∧
    (s.missRunAfter t v).dispenseTimer = s.dispenseTimer ∧ (s.missRunAfter t v).float = s.float ∧
    (s.missRunAfter t v).floatLow = s.floatLow ∧ (s.missRunAfter t v).shortCause = s.shortCause ∧
    (s.missRunAfter t v).emptyCause = s.emptyCause ∧ (s.missRunAfter t v).accounts = s.accounts ∧
    (s.missRunAfter t v).settlements = s.settlements ∧ (s.missRunAfter t v).faults = s.faults ∧
    (s.missRunAfter t v).settings = s.settings ∧ (s.missRunAfter t v).lockout = s.lockout ∧
    (s.missRunAfter t v).store = s.store ∧ (s.missRunAfter t v).commitQueue = s.commitQueue ∧
    (s.missRunAfter t v).held = s.held ∧ (s.missRunAfter t v).program = s.program ∧
    (s.missRunAfter t v).waiters = s.waiters ∧ (s.missRunAfter t v).ports = s.ports ∧
    (s.missRunAfter t v).pins = s.pins ∧ (s.missRunAfter t v).freeCount = s.freeCount := by
  unfold State.missRunAfter; split <;> simp

/-- What a deferred off changes (R111). -/
@[simp] theorem State.applyDeferredOff_frame (s : State) (n : Lane) :
    (s.applyDeferredOff n).pending = s.pending ∧ (s.applyDeferredOff n).mode = s.mode ∧
    (s.applyDeferredOff n).addrStrap = s.addrStrap ∧ (s.applyDeferredOff n).address = s.address ∧
    (s.applyDeferredOff n).yardTime = s.yardTime ∧ (s.applyDeferredOff n).subSecond = s.subSecond ∧
    (s.applyDeferredOff n).handedBack = s.handedBack ∧
    (s.applyDeferredOff n).resetLow = s.resetLow ∧
    (s.applyDeferredOff n).rotation = s.rotation ∧ (s.applyDeferredOff n).turn = s.turn ∧
    (s.applyDeferredOff n).nextNumber = s.nextNumber ∧
    (s.applyDeferredOff n).dispenseTimer = s.dispenseTimer ∧
    (s.applyDeferredOff n).float = s.float ∧ (s.applyDeferredOff n).floatLow = s.floatLow ∧
    (s.applyDeferredOff n).shortCause = s.shortCause ∧
    (s.applyDeferredOff n).emptyCause = s.emptyCause ∧ (s.applyDeferredOff n).faults = s.faults ∧
    (s.applyDeferredOff n).settings = s.settings ∧ (s.applyDeferredOff n).lockout = s.lockout ∧
    (s.applyDeferredOff n).store = s.store ∧ (s.applyDeferredOff n).program = s.program ∧
    (s.applyDeferredOff n).pins = s.pins ∧ (s.applyDeferredOff n).freeCount = s.freeCount := by
  unfold State.applyDeferredOff; (repeat' split) <;> simp

/-- What the end of a turn changes (R155). -/
@[simp] theorem State.endTurn_frame (s : State) (t : Turn) (v : Verdict) :
    (s.endTurn t v).pending = s.pending ∧ (s.endTurn t v).mode = s.mode ∧
    (s.endTurn t v).addrStrap = s.addrStrap ∧ (s.endTurn t v).address = s.address ∧
    (s.endTurn t v).yardTime = s.yardTime ∧ (s.endTurn t v).subSecond = s.subSecond ∧
    (s.endTurn t v).handedBack = s.handedBack ∧ (s.endTurn t v).resetLow = s.resetLow ∧
    (s.endTurn t v).nextNumber = s.nextNumber ∧ (s.endTurn t v).dispenseTimer = s.dispenseTimer ∧
    (s.endTurn t v).float = s.float ∧ (s.endTurn t v).floatLow = s.floatLow ∧
    (s.endTurn t v).shortCause = s.shortCause ∧ (s.endTurn t v).emptyCause = s.emptyCause ∧
    (s.endTurn t v).settings = s.settings ∧ (s.endTurn t v).store = s.store ∧
    (s.endTurn t v).program = s.program ∧ (s.endTurn t v).pins = s.pins ∧
    (s.endTurn t v).freeCount = s.freeCount := by
  simp [State.endTurn]

/-- What a reseed changes (R108). -/
@[simp] theorem State.reseed_frame (s : State) (n : Lane) :
    (s.reseed n).pending = s.pending ∧ (s.reseed n).mode = s.mode ∧
    (s.reseed n).addrStrap = s.addrStrap ∧ (s.reseed n).address = s.address ∧
    (s.reseed n).yardTime = s.yardTime ∧ (s.reseed n).subSecond = s.subSecond ∧
    (s.reseed n).handedBack = s.handedBack ∧ (s.reseed n).resetLow = s.resetLow ∧
    (s.reseed n).links = s.links ∧ (s.reseed n).rotation = s.rotation ∧
    (s.reseed n).turn = s.turn ∧ (s.reseed n).nextNumber = s.nextNumber ∧
    (s.reseed n).dispenseTimer = s.dispenseTimer ∧ (s.reseed n).float = s.float ∧
    (s.reseed n).floatLow = s.floatLow ∧ (s.reseed n).shortCause = s.shortCause ∧
    (s.reseed n).emptyCause = s.emptyCause ∧ (s.reseed n).faults = s.faults ∧
    (s.reseed n).settings = s.settings ∧ (s.reseed n).lockout = s.lockout ∧
    (s.reseed n).store = s.store ∧ (s.reseed n).program = s.program ∧ (s.reseed n).pins = s.pins ∧
    (s.reseed n).freeCount = s.freeCount := by
  simp [State.reseed]

/-- What a taken TUNE_LANE changes (R140, R149). -/
@[simp] theorem State.retune_frame (s : State) (n : Lane) :
    (s.retune n).pending = s.pending ∧ (s.retune n).mode = s.mode ∧
    (s.retune n).addrStrap = s.addrStrap ∧ (s.retune n).address = s.address ∧
    (s.retune n).yardTime = s.yardTime ∧ (s.retune n).subSecond = s.subSecond ∧
    (s.retune n).handedBack = s.handedBack ∧ (s.retune n).resetLow = s.resetLow ∧
    (s.retune n).links = s.links ∧ (s.retune n).rotation = s.rotation ∧
    (s.retune n).nextNumber = s.nextNumber ∧ (s.retune n).dispenseTimer = s.dispenseTimer ∧
    (s.retune n).float = s.float ∧ (s.retune n).floatLow = s.floatLow ∧
    (s.retune n).shortCause = s.shortCause ∧ (s.retune n).emptyCause = s.emptyCause ∧
    (s.retune n).faults = s.faults ∧ (s.retune n).settings = s.settings ∧
    (s.retune n).lockout = s.lockout ∧ (s.retune n).store = s.store ∧
    (s.retune n).program = s.program ∧ (s.retune n).pins = s.pins ∧
    (s.retune n).freeCount = s.freeCount := by
  unfold State.retune; split <;> simp [State.markStale]

/-- What an order's return to the head of the queue changes (R43, R44, R54). -/
@[simp] theorem State.returnOrder_frame (s : State) (num : Nat) :
    (s.returnOrder num).pending = s.pending ∧ (s.returnOrder num).mode = s.mode ∧
    (s.returnOrder num).addrStrap = s.addrStrap ∧ (s.returnOrder num).address = s.address ∧
    (s.returnOrder num).yardTime = s.yardTime ∧ (s.returnOrder num).subSecond = s.subSecond ∧
    (s.returnOrder num).handedBack = s.handedBack ∧ (s.returnOrder num).resetLow = s.resetLow ∧
    (s.returnOrder num).detectors = s.detectors ∧ (s.returnOrder num).links = s.links ∧
    (s.returnOrder num).rotation = s.rotation ∧ (s.returnOrder num).turn = s.turn ∧
    (s.returnOrder num).strays = s.strays ∧ (s.returnOrder num).finished = s.finished ∧
    (s.returnOrder num).nextNumber = s.nextNumber ∧ (s.returnOrder num).openDocket = s.openDocket ∧
    (s.returnOrder num).grace = s.grace ∧ (s.returnOrder num).dispenseTimer = s.dispenseTimer ∧
    (s.returnOrder num).float = s.float ∧ (s.returnOrder num).floatLow = s.floatLow ∧
    (s.returnOrder num).shortCause = s.shortCause ∧ (s.returnOrder num).emptyCause = s.emptyCause ∧
    (s.returnOrder num).accounts = s.accounts ∧ (s.returnOrder num).faults = s.faults ∧
    (s.returnOrder num).settings = s.settings ∧ (s.returnOrder num).lockout = s.lockout ∧
    (s.returnOrder num).store = s.store ∧ (s.returnOrder num).program = s.program ∧
    (s.returnOrder num).waiters = s.waiters ∧ (s.returnOrder num).ports = s.ports ∧
    (s.returnOrder num).pins = s.pins ∧ (s.returnOrder num).freeCount = s.freeCount := by
  simp [State.returnOrder]

/-- What an offer changes (R41). -/
@[simp] theorem State.offer_frame (s : State) (p : Port) (num : Nat) :
    (s.offer p num).pending = s.pending ∧ (s.offer p num).mode = s.mode ∧
    (s.offer p num).addrStrap = s.addrStrap ∧ (s.offer p num).address = s.address ∧
    (s.offer p num).yardTime = s.yardTime ∧ (s.offer p num).subSecond = s.subSecond ∧
    (s.offer p num).handedBack = s.handedBack ∧ (s.offer p num).resetLow = s.resetLow ∧
    (s.offer p num).detectors = s.detectors ∧ (s.offer p num).links = s.links ∧
    (s.offer p num).rotation = s.rotation ∧ (s.offer p num).turn = s.turn ∧
    (s.offer p num).strays = s.strays ∧ (s.offer p num).finished = s.finished ∧
    (s.offer p num).nextNumber = s.nextNumber ∧ (s.offer p num).openDocket = s.openDocket ∧
    (s.offer p num).grace = s.grace ∧ (s.offer p num).orderQueue = s.orderQueue ∧
    (s.offer p num).dispenseTimer = s.dispenseTimer ∧ (s.offer p num).float = s.float ∧
    (s.offer p num).floatLow = s.floatLow ∧ (s.offer p num).shortCause = s.shortCause ∧
    (s.offer p num).emptyCause = s.emptyCause ∧ (s.offer p num).accounts = s.accounts ∧
    (s.offer p num).faults = s.faults ∧ (s.offer p num).settings = s.settings ∧
    (s.offer p num).lockout = s.lockout ∧ (s.offer p num).store = s.store ∧
    (s.offer p num).program = s.program ∧ (s.offer p num).pins = s.pins ∧
    (s.offer p num).freeCount = s.freeCount := by
  unfold State.offer; dsimp only; (repeat' split) <;> simp

/-- What the dispense limit changes (R46). -/
@[simp] theorem State.suspend_frame (s : State) (num : Nat) :
    (s.suspend num).pending = s.pending ∧ (s.suspend num).mode = s.mode ∧
    (s.suspend num).addrStrap = s.addrStrap ∧ (s.suspend num).address = s.address ∧
    (s.suspend num).yardTime = s.yardTime ∧ (s.suspend num).subSecond = s.subSecond ∧
    (s.suspend num).handedBack = s.handedBack ∧ (s.suspend num).resetLow = s.resetLow ∧
    (s.suspend num).detectors = s.detectors ∧ (s.suspend num).links = s.links ∧
    (s.suspend num).rotation = s.rotation ∧ (s.suspend num).turn = s.turn ∧
    (s.suspend num).strays = s.strays ∧ (s.suspend num).finished = s.finished ∧
    (s.suspend num).nextNumber = s.nextNumber ∧ (s.suspend num).openDocket = s.openDocket ∧
    (s.suspend num).grace = s.grace ∧ (s.suspend num).float = s.float ∧
    (s.suspend num).floatLow = s.floatLow ∧ (s.suspend num).shortCause = s.shortCause ∧
    (s.suspend num).emptyCause = s.emptyCause ∧ (s.suspend num).accounts = s.accounts ∧
    (s.suspend num).settlements = s.settlements ∧ (s.suspend num).settings = s.settings ∧
    (s.suspend num).store = s.store ∧ (s.suspend num).program = s.program ∧
    (s.suspend num).waiters = s.waiters ∧ (s.suspend num).pins = s.pins ∧
    (s.suspend num).freeCount = s.freeCount := by
  simp [State.suspend]

/-- What lowering the float changes (R50, R58). -/
@[simp] theorem State.lowerFloat_frame (s : State) (amount : Nat) :
    (s.lowerFloat amount).pending = s.pending ∧ (s.lowerFloat amount).mode = s.mode ∧
    (s.lowerFloat amount).addrStrap = s.addrStrap ∧ (s.lowerFloat amount).address = s.address ∧
    (s.lowerFloat amount).yardTime = s.yardTime ∧ (s.lowerFloat amount).subSecond = s.subSecond ∧
    (s.lowerFloat amount).handedBack = s.handedBack ∧ (s.lowerFloat amount).resetLow = s.resetLow ∧
    (s.lowerFloat amount).detectors = s.detectors ∧ (s.lowerFloat amount).links = s.links ∧
    (s.lowerFloat amount).rotation = s.rotation ∧ (s.lowerFloat amount).turn = s.turn ∧
    (s.lowerFloat amount).strays = s.strays ∧ (s.lowerFloat amount).dockets = s.dockets ∧
    (s.lowerFloat amount).finished = s.finished ∧ (s.lowerFloat amount).nextNumber = s.nextNumber ∧
    (s.lowerFloat amount).openDocket = s.openDocket ∧ (s.lowerFloat amount).grace = s.grace ∧
    (s.lowerFloat amount).orderQueue = s.orderQueue ∧
    (s.lowerFloat amount).dispenseTimer = s.dispenseTimer ∧
    (s.lowerFloat amount).shortCause = s.shortCause ∧
    (s.lowerFloat amount).emptyCause = s.emptyCause ∧ (s.lowerFloat amount).accounts = s.accounts ∧
    (s.lowerFloat amount).settlements = s.settlements ∧
    (s.lowerFloat amount).settings = s.settings ∧ (s.lowerFloat amount).store = s.store ∧
    (s.lowerFloat amount).program = s.program ∧ (s.lowerFloat amount).waiters = s.waiters ∧
    (s.lowerFloat amount).pins = s.pins ∧ (s.lowerFloat amount).freeCount = s.freeCount := by
  unfold State.lowerFloat; dsimp only; (repeat' split) <;> simp

/-- What freeing a settlement record changes (R49). -/
@[simp] theorem State.freeSettlement_frame (s : State) (num : Nat) :
    (s.freeSettlement num).pending = s.pending ∧ (s.freeSettlement num).mode = s.mode ∧
    (s.freeSettlement num).addrStrap = s.addrStrap ∧ (s.freeSettlement num).address = s.address ∧
    (s.freeSettlement num).yardTime = s.yardTime ∧ (s.freeSettlement num).subSecond = s.subSecond ∧
    (s.freeSettlement num).handedBack = s.handedBack ∧
    (s.freeSettlement num).resetLow = s.resetLow ∧
    (s.freeSettlement num).detectors = s.detectors ∧ (s.freeSettlement num).links = s.links ∧
    (s.freeSettlement num).rotation = s.rotation ∧ (s.freeSettlement num).turn = s.turn ∧
    (s.freeSettlement num).strays = s.strays ∧ (s.freeSettlement num).dockets = s.dockets ∧
    (s.freeSettlement num).finished = s.finished ∧
    (s.freeSettlement num).nextNumber = s.nextNumber ∧
    (s.freeSettlement num).openDocket = s.openDocket ∧ (s.freeSettlement num).grace = s.grace ∧
    (s.freeSettlement num).orderQueue = s.orderQueue ∧
    (s.freeSettlement num).dispenseTimer = s.dispenseTimer ∧
    (s.freeSettlement num).float = s.float ∧ (s.freeSettlement num).floatLow = s.floatLow ∧
    (s.freeSettlement num).shortCause = s.shortCause ∧
    (s.freeSettlement num).emptyCause = s.emptyCause ∧
    (s.freeSettlement num).accounts = s.accounts ∧ (s.freeSettlement num).faults = s.faults ∧
    (s.freeSettlement num).settings = s.settings ∧ (s.freeSettlement num).lockout = s.lockout ∧
    (s.freeSettlement num).store = s.store ∧ (s.freeSettlement num).program = s.program ∧
    (s.freeSettlement num).waiters = s.waiters ∧ (s.freeSettlement num).ports = s.ports ∧
    (s.freeSettlement num).pins = s.pins ∧ (s.freeSettlement num).freeCount = s.freeCount := by
  unfold State.freeSettlement; dsimp only; (repeat' split) <;> simp

/-- What a port's wait changes (R51). -/
@[simp] theorem State.waitFreed_frame (s : State) (p : Port) (r : Option Nat) (k : WaitKind) :
    (s.waitFreed p r k).pending = s.pending ∧ (s.waitFreed p r k).mode = s.mode ∧
    (s.waitFreed p r k).addrStrap = s.addrStrap ∧ (s.waitFreed p r k).address = s.address ∧
    (s.waitFreed p r k).yardTime = s.yardTime ∧ (s.waitFreed p r k).subSecond = s.subSecond ∧
    (s.waitFreed p r k).handedBack = s.handedBack ∧ (s.waitFreed p r k).resetLow = s.resetLow ∧
    (s.waitFreed p r k).detectors = s.detectors ∧ (s.waitFreed p r k).links = s.links ∧
    (s.waitFreed p r k).rotation = s.rotation ∧ (s.waitFreed p r k).turn = s.turn ∧
    (s.waitFreed p r k).strays = s.strays ∧ (s.waitFreed p r k).dockets = s.dockets ∧
    (s.waitFreed p r k).finished = s.finished ∧ (s.waitFreed p r k).nextNumber = s.nextNumber ∧
    (s.waitFreed p r k).openDocket = s.openDocket ∧ (s.waitFreed p r k).grace = s.grace ∧
    (s.waitFreed p r k).orderQueue = s.orderQueue ∧
    (s.waitFreed p r k).dispenseTimer = s.dispenseTimer ∧ (s.waitFreed p r k).float = s.float ∧
    (s.waitFreed p r k).floatLow = s.floatLow ∧ (s.waitFreed p r k).shortCause = s.shortCause ∧
    (s.waitFreed p r k).emptyCause = s.emptyCause ∧ (s.waitFreed p r k).accounts = s.accounts ∧
    (s.waitFreed p r k).settlements = s.settlements ∧ (s.waitFreed p r k).faults = s.faults ∧
    (s.waitFreed p r k).settings = s.settings ∧ (s.waitFreed p r k).lockout = s.lockout ∧
    (s.waitFreed p r k).store = s.store ∧ (s.waitFreed p r k).commitQueue = s.commitQueue ∧
    (s.waitFreed p r k).held = s.held ∧ (s.waitFreed p r k).program = s.program ∧
    (s.waitFreed p r k).pins = s.pins ∧ (s.waitFreed p r k).freeCount = s.freeCount := by
  unfold State.waitFreed; cases r <;> simp

/-- What a confirmation changes (R49, R50). -/
@[simp] theorem State.pay_frame (s : State) (num amount : Nat) :
    (s.pay num amount).pending = s.pending ∧ (s.pay num amount).mode = s.mode ∧
    (s.pay num amount).addrStrap = s.addrStrap ∧ (s.pay num amount).address = s.address ∧
    (s.pay num amount).yardTime = s.yardTime ∧ (s.pay num amount).subSecond = s.subSecond ∧
    (s.pay num amount).handedBack = s.handedBack ∧ (s.pay num amount).resetLow = s.resetLow ∧
    (s.pay num amount).detectors = s.detectors ∧ (s.pay num amount).links = s.links ∧
    (s.pay num amount).rotation = s.rotation ∧ (s.pay num amount).turn = s.turn ∧
    (s.pay num amount).strays = s.strays ∧ (s.pay num amount).nextNumber = s.nextNumber ∧
    (s.pay num amount).openDocket = s.openDocket ∧ (s.pay num amount).grace = s.grace ∧
    (s.pay num amount).shortCause = s.shortCause ∧ (s.pay num amount).emptyCause = s.emptyCause ∧
    (s.pay num amount).accounts = s.accounts ∧ (s.pay num amount).settings = s.settings ∧
    (s.pay num amount).store = s.store ∧ (s.pay num amount).program = s.program ∧
    (s.pay num amount).waiters = s.waiters ∧ (s.pay num amount).pins = s.pins ∧
    (s.pay num amount).freeCount = s.freeCount := by
  unfold State.pay; dsimp only; (repeat' split) <;> simp

/-- Only an order's state changes (R34). -/
@[simp] theorem State.commitDone_frame (s : State) (num : Nat) :
    (s.commitDone num).pending = s.pending ∧ (s.commitDone num).mode = s.mode ∧
    (s.commitDone num).addrStrap = s.addrStrap ∧ (s.commitDone num).address = s.address ∧
    (s.commitDone num).yardTime = s.yardTime ∧ (s.commitDone num).subSecond = s.subSecond ∧
    (s.commitDone num).handedBack = s.handedBack ∧ (s.commitDone num).resetLow = s.resetLow ∧
    (s.commitDone num).detectors = s.detectors ∧ (s.commitDone num).links = s.links ∧
    (s.commitDone num).rotation = s.rotation ∧ (s.commitDone num).turn = s.turn ∧
    (s.commitDone num).strays = s.strays ∧ (s.commitDone num).finished = s.finished ∧
    (s.commitDone num).nextNumber = s.nextNumber ∧ (s.commitDone num).openDocket = s.openDocket ∧
    (s.commitDone num).grace = s.grace ∧ (s.commitDone num).orderQueue = s.orderQueue ∧
    (s.commitDone num).dispenseTimer = s.dispenseTimer ∧ (s.commitDone num).float = s.float ∧
    (s.commitDone num).floatLow = s.floatLow ∧ (s.commitDone num).shortCause = s.shortCause ∧
    (s.commitDone num).emptyCause = s.emptyCause ∧ (s.commitDone num).accounts = s.accounts ∧
    (s.commitDone num).settlements = s.settlements ∧ (s.commitDone num).faults = s.faults ∧
    (s.commitDone num).settings = s.settings ∧ (s.commitDone num).lockout = s.lockout ∧
    (s.commitDone num).store = s.store ∧ (s.commitDone num).commitQueue = s.commitQueue ∧
    (s.commitDone num).held = s.held ∧ (s.commitDone num).program = s.program ∧
    (s.commitDone num).waiters = s.waiters ∧ (s.commitDone num).ports = s.ports ∧
    (s.commitDone num).pins = s.pins ∧ (s.commitDone num).freeCount = s.freeCount := by
  unfold State.commitDone; (repeat' split) <;> simp

/-- What the end of a hand-over changes (R42, R43). -/
@[simp] theorem State.takeEnds_frame (s : State) (num : Nat) (ok : Bool) :
    (s.takeEnds num ok).pending = s.pending ∧ (s.takeEnds num ok).mode = s.mode ∧
    (s.takeEnds num ok).addrStrap = s.addrStrap ∧ (s.takeEnds num ok).address = s.address ∧
    (s.takeEnds num ok).yardTime = s.yardTime ∧ (s.takeEnds num ok).subSecond = s.subSecond ∧
    (s.takeEnds num ok).handedBack = s.handedBack ∧ (s.takeEnds num ok).resetLow = s.resetLow ∧
    (s.takeEnds num ok).detectors = s.detectors ∧ (s.takeEnds num ok).links = s.links ∧
    (s.takeEnds num ok).rotation = s.rotation ∧ (s.takeEnds num ok).turn = s.turn ∧
    (s.takeEnds num ok).strays = s.strays ∧ (s.takeEnds num ok).finished = s.finished ∧
    (s.takeEnds num ok).nextNumber = s.nextNumber ∧ (s.takeEnds num ok).openDocket = s.openDocket ∧
    (s.takeEnds num ok).grace = s.grace ∧ (s.takeEnds num ok).dispenseTimer = s.dispenseTimer ∧
    (s.takeEnds num ok).float = s.float ∧ (s.takeEnds num ok).floatLow = s.floatLow ∧
    (s.takeEnds num ok).shortCause = s.shortCause ∧ (s.takeEnds num ok).emptyCause = s.emptyCause ∧
    (s.takeEnds num ok).accounts = s.accounts ∧ (s.takeEnds num ok).faults = s.faults ∧
    (s.takeEnds num ok).settings = s.settings ∧ (s.takeEnds num ok).lockout = s.lockout ∧
    (s.takeEnds num ok).store = s.store ∧ (s.takeEnds num ok).program = s.program ∧
    (s.takeEnds num ok).waiters = s.waiters ∧ (s.takeEnds num ok).pins = s.pins ∧
    (s.takeEnds num ok).freeCount = s.freeCount := by
  unfold State.takeEnds; (repeat' split) <;> simp

/-- What a waiter's outcome changes (Table 4-3). -/
@[simp] theorem State.waiterEnds_frame (s : State) (ok : Bool) (w : Waiter) :
    (State.waiterEnds ok s w).pending = s.pending ∧ (State.waiterEnds ok s w).mode = s.mode ∧
    (State.waiterEnds ok s w).addrStrap = s.addrStrap ∧
    (State.waiterEnds ok s w).address = s.address ∧
    (State.waiterEnds ok s w).yardTime = s.yardTime ∧
    (State.waiterEnds ok s w).subSecond = s.subSecond ∧
    (State.waiterEnds ok s w).handedBack = s.handedBack ∧
    (State.waiterEnds ok s w).resetLow = s.resetLow ∧
    (State.waiterEnds ok s w).detectors = s.detectors ∧ (State.waiterEnds ok s w).links = s.links ∧
    (State.waiterEnds ok s w).rotation = s.rotation ∧ (State.waiterEnds ok s w).turn = s.turn ∧
    (State.waiterEnds ok s w).strays = s.strays ∧ (State.waiterEnds ok s w).finished = s.finished ∧
    (State.waiterEnds ok s w).nextNumber = s.nextNumber ∧
    (State.waiterEnds ok s w).openDocket = s.openDocket ∧
    (State.waiterEnds ok s w).grace = s.grace ∧
    (State.waiterEnds ok s w).dispenseTimer = s.dispenseTimer ∧
    (State.waiterEnds ok s w).float = s.float ∧ (State.waiterEnds ok s w).floatLow = s.floatLow ∧
    (State.waiterEnds ok s w).shortCause = s.shortCause ∧
    (State.waiterEnds ok s w).emptyCause = s.emptyCause ∧
    (State.waiterEnds ok s w).accounts = s.accounts ∧ (State.waiterEnds ok s w).faults = s.faults ∧
    (State.waiterEnds ok s w).settings = s.settings ∧
    (State.waiterEnds ok s w).lockout = s.lockout ∧ (State.waiterEnds ok s w).store = s.store ∧
    (State.waiterEnds ok s w).program = s.program ∧ (State.waiterEnds ok s w).waiters = s.waiters ∧
    (State.waiterEnds ok s w).pins = s.pins ∧
    (State.waiterEnds ok s w).freeCount = s.freeCount := by
  unfold State.waiterEnds; split <;> simp

/-- What STORE_VERIFY changes (R71, R72). -/
@[simp] theorem State.verifyFault_frame (s : State) (r : RecordId) :
    (s.verifyFault r).pending = s.pending ∧ (s.verifyFault r).mode = s.mode ∧
    (s.verifyFault r).addrStrap = s.addrStrap ∧ (s.verifyFault r).address = s.address ∧
    (s.verifyFault r).yardTime = s.yardTime ∧ (s.verifyFault r).subSecond = s.subSecond ∧
    (s.verifyFault r).handedBack = s.handedBack ∧ (s.verifyFault r).resetLow = s.resetLow ∧
    (s.verifyFault r).detectors = s.detectors ∧ (s.verifyFault r).links = s.links ∧
    (s.verifyFault r).rotation = s.rotation ∧ (s.verifyFault r).turn = s.turn ∧
    (s.verifyFault r).strays = s.strays ∧ (s.verifyFault r).dockets = s.dockets ∧
    (s.verifyFault r).finished = s.finished ∧ (s.verifyFault r).nextNumber = s.nextNumber ∧
    (s.verifyFault r).openDocket = s.openDocket ∧ (s.verifyFault r).grace = s.grace ∧
    (s.verifyFault r).orderQueue = s.orderQueue ∧
    (s.verifyFault r).dispenseTimer = s.dispenseTimer ∧ (s.verifyFault r).float = s.float ∧
    (s.verifyFault r).floatLow = s.floatLow ∧ (s.verifyFault r).shortCause = s.shortCause ∧
    (s.verifyFault r).emptyCause = s.emptyCause ∧ (s.verifyFault r).accounts = s.accounts ∧
    (s.verifyFault r).settlements = s.settlements ∧ (s.verifyFault r).settings = s.settings ∧
    (s.verifyFault r).store = s.store ∧ (s.verifyFault r).program = s.program ∧
    (s.verifyFault r).waiters = s.waiters ∧ (s.verifyFault r).pins = s.pins ∧
    (s.verifyFault r).freeCount = s.freeCount := by
  unfold State.verifyFault; (repeat' split) <;> simp

/-- What freezing an account changes (R71). -/
@[simp] theorem State.freeze_frame (s : State) (r : RecordId) :
    (s.freeze r).pending = s.pending ∧ (s.freeze r).mode = s.mode ∧
    (s.freeze r).addrStrap = s.addrStrap ∧ (s.freeze r).address = s.address ∧
    (s.freeze r).yardTime = s.yardTime ∧ (s.freeze r).subSecond = s.subSecond ∧
    (s.freeze r).handedBack = s.handedBack ∧ (s.freeze r).resetLow = s.resetLow ∧
    (s.freeze r).detectors = s.detectors ∧ (s.freeze r).links = s.links ∧
    (s.freeze r).rotation = s.rotation ∧ (s.freeze r).turn = s.turn ∧
    (s.freeze r).strays = s.strays ∧ (s.freeze r).dockets = s.dockets ∧
    (s.freeze r).finished = s.finished ∧ (s.freeze r).nextNumber = s.nextNumber ∧
    (s.freeze r).openDocket = s.openDocket ∧ (s.freeze r).grace = s.grace ∧
    (s.freeze r).orderQueue = s.orderQueue ∧ (s.freeze r).dispenseTimer = s.dispenseTimer ∧
    (s.freeze r).float = s.float ∧ (s.freeze r).floatLow = s.floatLow ∧
    (s.freeze r).shortCause = s.shortCause ∧ (s.freeze r).emptyCause = s.emptyCause ∧
    (s.freeze r).settlements = s.settlements ∧ (s.freeze r).faults = s.faults ∧
    (s.freeze r).settings = s.settings ∧ (s.freeze r).lockout = s.lockout ∧
    (s.freeze r).store = s.store ∧ (s.freeze r).commitQueue = s.commitQueue ∧
    (s.freeze r).held = s.held ∧ (s.freeze r).program = s.program ∧
    (s.freeze r).waiters = s.waiters ∧ (s.freeze r).pins = s.pins ∧
    (s.freeze r).freeCount = s.freeCount := by
  unfold State.freeze; (repeat' split) <;> simp

/-- What an office edit's queueing changes (R67, R70). -/
@[simp] theorem State.editAccount_frame (s : State) (p : Port) (n : Nat) (c : CommandCode) :
    (s.editAccount p n c).pending = s.pending ∧ (s.editAccount p n c).mode = s.mode ∧
    (s.editAccount p n c).addrStrap = s.addrStrap ∧ (s.editAccount p n c).address = s.address ∧
    (s.editAccount p n c).yardTime = s.yardTime ∧ (s.editAccount p n c).subSecond = s.subSecond ∧
    (s.editAccount p n c).handedBack = s.handedBack ∧ (s.editAccount p n c).resetLow = s.resetLow ∧
    (s.editAccount p n c).detectors = s.detectors ∧ (s.editAccount p n c).links = s.links ∧
    (s.editAccount p n c).rotation = s.rotation ∧ (s.editAccount p n c).turn = s.turn ∧
    (s.editAccount p n c).strays = s.strays ∧ (s.editAccount p n c).dockets = s.dockets ∧
    (s.editAccount p n c).finished = s.finished ∧ (s.editAccount p n c).nextNumber = s.nextNumber ∧
    (s.editAccount p n c).openDocket = s.openDocket ∧ (s.editAccount p n c).grace = s.grace ∧
    (s.editAccount p n c).orderQueue = s.orderQueue ∧
    (s.editAccount p n c).dispenseTimer = s.dispenseTimer ∧ (s.editAccount p n c).float = s.float ∧
    (s.editAccount p n c).floatLow = s.floatLow ∧ (s.editAccount p n c).shortCause = s.shortCause ∧
    (s.editAccount p n c).emptyCause = s.emptyCause ∧ (s.editAccount p n c).accounts = s.accounts ∧
    (s.editAccount p n c).settlements = s.settlements ∧ (s.editAccount p n c).faults = s.faults ∧
    (s.editAccount p n c).settings = s.settings ∧ (s.editAccount p n c).lockout = s.lockout ∧
    (s.editAccount p n c).store = s.store ∧ (s.editAccount p n c).program = s.program ∧
    (s.editAccount p n c).pins = s.pins ∧ (s.editAccount p n c).freeCount = s.freeCount := by
  simp [State.editAccount]

/-- What CLOSE_DOCKET changes (R15). -/
@[simp] theorem State.close_frame (s : State) (n : Lane) (num : Nat) :
    (s.close n num).pending = s.pending ∧ (s.close n num).mode = s.mode ∧
    (s.close n num).addrStrap = s.addrStrap ∧ (s.close n num).address = s.address ∧
    (s.close n num).yardTime = s.yardTime ∧ (s.close n num).subSecond = s.subSecond ∧
    (s.close n num).handedBack = s.handedBack ∧ (s.close n num).resetLow = s.resetLow ∧
    (s.close n num).detectors = s.detectors ∧ (s.close n num).links = s.links ∧
    (s.close n num).rotation = s.rotation ∧ (s.close n num).turn = s.turn ∧
    (s.close n num).strays = s.strays ∧ (s.close n num).nextNumber = s.nextNumber ∧
    (s.close n num).dispenseTimer = s.dispenseTimer ∧ (s.close n num).float = s.float ∧
    (s.close n num).floatLow = s.floatLow ∧ (s.close n num).shortCause = s.shortCause ∧
    (s.close n num).emptyCause = s.emptyCause ∧ (s.close n num).faults = s.faults ∧
    (s.close n num).settings = s.settings ∧ (s.close n num).lockout = s.lockout ∧
    (s.close n num).store = s.store ∧ (s.close n num).program = s.program ∧
    (s.close n num).pins = s.pins ∧ (s.close n num).freeCount = s.freeCount := by
  unfold State.close; dsimp only; (repeat' split) <;> simp

/-- What the outcomes of a list of waiters change (Table 4-3). -/
@[simp] theorem State.waiterEnds_foldl_frame (s : State) (ok : Bool) (ws : List Waiter) :
    (ws.foldl (State.waiterEnds ok) s).pending = s.pending ∧
    (ws.foldl (State.waiterEnds ok) s).mode = s.mode ∧
    (ws.foldl (State.waiterEnds ok) s).addrStrap = s.addrStrap ∧
    (ws.foldl (State.waiterEnds ok) s).address = s.address ∧
    (ws.foldl (State.waiterEnds ok) s).yardTime = s.yardTime ∧
    (ws.foldl (State.waiterEnds ok) s).subSecond = s.subSecond ∧
    (ws.foldl (State.waiterEnds ok) s).handedBack = s.handedBack ∧
    (ws.foldl (State.waiterEnds ok) s).resetLow = s.resetLow ∧
    (ws.foldl (State.waiterEnds ok) s).detectors = s.detectors ∧
    (ws.foldl (State.waiterEnds ok) s).links = s.links ∧
    (ws.foldl (State.waiterEnds ok) s).rotation = s.rotation ∧
    (ws.foldl (State.waiterEnds ok) s).turn = s.turn ∧
    (ws.foldl (State.waiterEnds ok) s).strays = s.strays ∧
    (ws.foldl (State.waiterEnds ok) s).finished = s.finished ∧
    (ws.foldl (State.waiterEnds ok) s).nextNumber = s.nextNumber ∧
    (ws.foldl (State.waiterEnds ok) s).openDocket = s.openDocket ∧
    (ws.foldl (State.waiterEnds ok) s).grace = s.grace ∧
    (ws.foldl (State.waiterEnds ok) s).dispenseTimer = s.dispenseTimer ∧
    (ws.foldl (State.waiterEnds ok) s).float = s.float ∧
    (ws.foldl (State.waiterEnds ok) s).floatLow = s.floatLow ∧
    (ws.foldl (State.waiterEnds ok) s).shortCause = s.shortCause ∧
    (ws.foldl (State.waiterEnds ok) s).emptyCause = s.emptyCause ∧
    (ws.foldl (State.waiterEnds ok) s).accounts = s.accounts ∧
    (ws.foldl (State.waiterEnds ok) s).faults = s.faults ∧
    (ws.foldl (State.waiterEnds ok) s).settings = s.settings ∧
    (ws.foldl (State.waiterEnds ok) s).lockout = s.lockout ∧
    (ws.foldl (State.waiterEnds ok) s).store = s.store ∧
    (ws.foldl (State.waiterEnds ok) s).program = s.program ∧
    (ws.foldl (State.waiterEnds ok) s).waiters = s.waiters ∧
    (ws.foldl (State.waiterEnds ok) s).pins = s.pins ∧
    (ws.foldl (State.waiterEnds ok) s).freeCount = s.freeCount := by
  induction ws generalizing s with
  | nil => simp
  | cons w ws ih => simp [ih]

/-- What the end of a program's waiters changes (R70). -/
@[simp] theorem State.waitersEnd_frame (s : State) (r : RecordId) (ok : Bool) :
    (s.waitersEnd r ok).pending = s.pending ∧ (s.waitersEnd r ok).mode = s.mode ∧
    (s.waitersEnd r ok).addrStrap = s.addrStrap ∧ (s.waitersEnd r ok).address = s.address ∧
    (s.waitersEnd r ok).yardTime = s.yardTime ∧ (s.waitersEnd r ok).subSecond = s.subSecond ∧
    (s.waitersEnd r ok).handedBack = s.handedBack ∧ (s.waitersEnd r ok).resetLow = s.resetLow ∧
    (s.waitersEnd r ok).detectors = s.detectors ∧ (s.waitersEnd r ok).links = s.links ∧
    (s.waitersEnd r ok).rotation = s.rotation ∧ (s.waitersEnd r ok).turn = s.turn ∧
    (s.waitersEnd r ok).strays = s.strays ∧ (s.waitersEnd r ok).finished = s.finished ∧
    (s.waitersEnd r ok).nextNumber = s.nextNumber ∧ (s.waitersEnd r ok).openDocket = s.openDocket ∧
    (s.waitersEnd r ok).grace = s.grace ∧ (s.waitersEnd r ok).dispenseTimer = s.dispenseTimer ∧
    (s.waitersEnd r ok).float = s.float ∧ (s.waitersEnd r ok).floatLow = s.floatLow ∧
    (s.waitersEnd r ok).shortCause = s.shortCause ∧ (s.waitersEnd r ok).emptyCause = s.emptyCause ∧
    (s.waitersEnd r ok).accounts = s.accounts ∧ (s.waitersEnd r ok).faults = s.faults ∧
    (s.waitersEnd r ok).settings = s.settings ∧ (s.waitersEnd r ok).lockout = s.lockout ∧
    (s.waitersEnd r ok).store = s.store ∧ (s.waitersEnd r ok).program = s.program ∧
    (s.waitersEnd r ok).pins = s.pins ∧ (s.waitersEnd r ok).freeCount = s.freeCount := by
  simp [State.waitersEnd]

/-- What a program that completes changes (R68 to R70). -/
@[simp] theorem State.programCompletes_frame (s : State) (g : Program) :
    (s.programCompletes g).pending = s.pending ∧ (s.programCompletes g).mode = s.mode ∧
    (s.programCompletes g).addrStrap = s.addrStrap ∧ (s.programCompletes g).address = s.address ∧
    (s.programCompletes g).yardTime = s.yardTime ∧ (s.programCompletes g).subSecond = s.subSecond ∧
    (s.programCompletes g).handedBack = s.handedBack ∧
    (s.programCompletes g).resetLow = s.resetLow ∧
    (s.programCompletes g).detectors = s.detectors ∧ (s.programCompletes g).links = s.links ∧
    (s.programCompletes g).rotation = s.rotation ∧ (s.programCompletes g).turn = s.turn ∧
    (s.programCompletes g).strays = s.strays ∧ (s.programCompletes g).finished = s.finished ∧
    (s.programCompletes g).nextNumber = s.nextNumber ∧
    (s.programCompletes g).openDocket = s.openDocket ∧ (s.programCompletes g).grace = s.grace ∧
    (s.programCompletes g).dispenseTimer = s.dispenseTimer ∧
    (s.programCompletes g).float = s.float ∧ (s.programCompletes g).floatLow = s.floatLow ∧
    (s.programCompletes g).shortCause = s.shortCause ∧
    (s.programCompletes g).emptyCause = s.emptyCause ∧
    (s.programCompletes g).accounts = s.accounts ∧ (s.programCompletes g).faults = s.faults ∧
    (s.programCompletes g).settings = s.settings ∧ (s.programCompletes g).lockout = s.lockout ∧
    (s.programCompletes g).pins = s.pins ∧ (s.programCompletes g).freeCount = s.freeCount := by
  simp [State.programCompletes]

/-- What a program that fails twice changes (R68, R71). -/
@[simp] theorem State.programFails_frame (s : State) (g : Program) :
    (s.programFails g).pending = s.pending ∧ (s.programFails g).mode = s.mode ∧
    (s.programFails g).addrStrap = s.addrStrap ∧ (s.programFails g).address = s.address ∧
    (s.programFails g).yardTime = s.yardTime ∧ (s.programFails g).subSecond = s.subSecond ∧
    (s.programFails g).handedBack = s.handedBack ∧ (s.programFails g).resetLow = s.resetLow ∧
    (s.programFails g).detectors = s.detectors ∧ (s.programFails g).links = s.links ∧
    (s.programFails g).rotation = s.rotation ∧ (s.programFails g).turn = s.turn ∧
    (s.programFails g).strays = s.strays ∧ (s.programFails g).finished = s.finished ∧
    (s.programFails g).nextNumber = s.nextNumber ∧ (s.programFails g).openDocket = s.openDocket ∧
    (s.programFails g).grace = s.grace ∧ (s.programFails g).dispenseTimer = s.dispenseTimer ∧
    (s.programFails g).float = s.float ∧ (s.programFails g).floatLow = s.floatLow ∧
    (s.programFails g).shortCause = s.shortCause ∧ (s.programFails g).emptyCause = s.emptyCause ∧
    (s.programFails g).settings = s.settings ∧ (s.programFails g).pins = s.pins := by
  simp [State.programFails]

end Sys2Proof.Machine
end

