-- ==== Sys2Proof/Laws/PerInstr.lean ====
section
/-! SUPPORT. For every row of the opcode table, one lemma: the frame of a row that is a command of Table
10-4 is its code byte and its parameter bytes, and a well-formed row is the one that its code and
parameters make (R175, R185). -/
namespace Sys2Proof.Laws

/-- A row that is a command is written as its code and its parameters, and read back from them. -/
def Written.Statement (i : Instr) : Prop :=
  ∀ p c ps, i.command? = some (p, c, ps) →
    encodeWrite i = some (p, c.byte :: ps) ∧ (i.wf = true → commandOf p c ps = i)

theorem Written.powerOnReset : Written.Statement .powerOnReset := by
  nofun

theorem Written.resetNAsserted : Written.Statement .resetNAsserted := by
  nofun

theorem Written.resetNReleased : Written.Statement .resetNReleased := by
  nofun

theorem Written.softReset (port : Port) (params : List Byte) : Written.Statement (.softReset port params) := by
  rintro _ _ _ ⟨⟩; exact ⟨rfl, fun _ => rfl⟩

theorem Written.softResetDrainEnd : Written.Statement .softResetDrainEnd := by
  nofun

theorem Written.yardSecond : Written.Statement .yardSecond := by
  nofun

theorem Written.setTime (port : Port) (params : List Byte) : Written.Statement (.setTime port params) := by
  rintro _ _ _ ⟨⟩; exact ⟨rfl, fun _ => rfl⟩

theorem Written.invalidCommand (port : Port) (code : Byte) (params : List Byte) : Written.Statement (.invalidCommand port code params) := by
  nofun

theorem Written.writeDiscarded (port : Port) (data : List Byte) : Written.Statement (.writeDiscarded port data) := by
  nofun

theorem Written.writeIgnored (port : Port) (data : List Byte) : Written.Statement (.writeIgnored port data) := by
  nofun

theorem Written.resultConsumed (port : Port) : Written.Statement (.resultConsumed port) := by
  nofun

theorem Written.resultHoldExpiry (port : Port) : Written.Statement (.resultHoldExpiry port) := by
  nofun

theorem Written.openDocket (port : Port) (params : List Byte) : Written.Statement (.openDocket port params) := by
  rintro _ _ _ ⟨⟩; exact ⟨rfl, fun _ => rfl⟩

theorem Written.adjust (port : Port) (params : List Byte) : Written.Statement (.adjust port params) := by
  rintro _ _ _ ⟨⟩; exact ⟨rfl, fun _ => rfl⟩

theorem Written.closeDocket (port : Port) (params : List Byte) : Written.Statement (.closeDocket port params) := by
  rintro _ _ _ ⟨⟩; exact ⟨rfl, fun _ => rfl⟩

theorem Written.voidDocket (port : Port) (params : List Byte) : Written.Statement (.voidDocket port params) := by
  rintro _ _ _ ⟨⟩; exact ⟨rfl, fun _ => rfl⟩

theorem Written.readDocket (port : Port) (params : List Byte) : Written.Statement (.readDocket port params) := by
  rintro _ _ _ ⟨⟩; exact ⟨rfl, fun _ => rfl⟩

theorem Written.nextFinished (port : Port) (params : List Byte) : Written.Statement (.nextFinished port params) := by
  rintro _ _ _ ⟨⟩; exact ⟨rfl, fun _ => rfl⟩

theorem Written.releaseDocket (port : Port) (params : List Byte) : Written.Statement (.releaseDocket port params) := by
  rintro _ _ _ ⟨⟩; exact ⟨rfl, fun _ => rfl⟩

theorem Written.closeGraceExpiry (lane : Lane) : Written.Statement (.closeGraceExpiry lane) := by
  nofun

theorem Written.takeOrder (port : Port) (params : List Byte) : Written.Statement (.takeOrder port params) := by
  rintro _ _ _ ⟨⟩; exact ⟨rfl, fun _ => rfl⟩

theorem Written.dispenseLimitExpiry : Written.Statement .dispenseLimitExpiry := by
  nofun

theorem Written.confirmPayout (port : Port) (params : List Byte) : Written.Statement (.confirmPayout port params) := by
  rintro _ _ _ ⟨⟩; exact ⟨rfl, fun _ => rfl⟩

theorem Written.resolveSuspense (port : Port) (params : List Byte) : Written.Statement (.resolveSuspense port params) := by
  rintro _ _ _ ⟨⟩; refine ⟨rfl, fun h => ?_⟩; simp_all [Instr.wf, commandOf]

theorem Written.resolveSuspenseNotPaid (port : Port) (params : List Byte) : Written.Statement (.resolveSuspenseNotPaid port params) := by
  rintro _ _ _ ⟨⟩; refine ⟨rfl, fun h => ?_⟩; simp_all [Instr.wf, commandOf]

theorem Written.loadFloat (port : Port) (params : List Byte) : Written.Statement (.loadFloat port params) := by
  rintro _ _ _ ⟨⟩; exact ⟨rfl, fun _ => rfl⟩

theorem Written.readFloat (port : Port) (params : List Byte) : Written.Statement (.readFloat port params) := by
  rintro _ _ _ ⟨⟩; exact ⟨rfl, fun _ => rfl⟩

theorem Written.reportDispenser (port : Port) (params : List Byte) : Written.Statement (.reportDispenser port params) := by
  rintro _ _ _ ⟨⟩; exact ⟨rfl, fun _ => rfl⟩

theorem Written.programAttemptEnd (equal : Bool) : Written.Statement (.programAttemptEnd equal) := by
  nofun

theorem Written.programAttemptTimeout : Written.Statement .programAttemptTimeout := by
  nofun

theorem Written.accountAdd (port : Port) (params : List Byte) : Written.Statement (.accountAdd port params) := by
  rintro _ _ _ ⟨⟩; exact ⟨rfl, fun _ => rfl⟩

theorem Written.accountRemove (port : Port) (params : List Byte) : Written.Statement (.accountRemove port params) := by
  rintro _ _ _ ⟨⟩; exact ⟨rfl, fun _ => rfl⟩

theorem Written.accountRewrite (port : Port) (params : List Byte) : Written.Statement (.accountRewrite port params) := by
  rintro _ _ _ ⟨⟩; exact ⟨rfl, fun _ => rfl⟩

theorem Written.accountRead (port : Port) (params : List Byte) : Written.Statement (.accountRead port params) := by
  rintro _ _ _ ⟨⟩; exact ⟨rfl, fun _ => rfl⟩

theorem Written.readStore (port : Port) (params : List Byte) : Written.Statement (.readStore port params) := by
  rintro _ _ _ ⟨⟩; exact ⟨rfl, fun _ => rfl⟩

theorem Written.setClass (port : Port) (params : List Byte) : Written.Statement (.setClass port params) := by
  rintro _ _ _ ⟨⟩; exact ⟨rfl, fun _ => rfl⟩

theorem Written.setParam (port : Port) (params : List Byte) : Written.Statement (.setParam port params) := by
  rintro _ _ _ ⟨⟩; exact ⟨rfl, fun _ => rfl⟩

theorem Written.setLane (port : Port) (params : List Byte) : Written.Statement (.setLane port params) := by
  rintro _ _ _ ⟨⟩; exact ⟨rfl, fun _ => rfl⟩

theorem Written.storeSettings (port : Port) (params : List Byte) : Written.Statement (.storeSettings port params) := by
  rintro _ _ _ ⟨⟩; exact ⟨rfl, fun _ => rfl⟩

theorem Written.readClass (port : Port) (params : List Byte) : Written.Statement (.readClass port params) := by
  rintro _ _ _ ⟨⟩; exact ⟨rfl, fun _ => rfl⟩

theorem Written.laneEnable (port : Port) (params : List Byte) : Written.Statement (.laneEnable port params) := by
  rintro _ _ _ ⟨⟩; exact ⟨rfl, fun _ => rfl⟩

theorem Written.tuneLane (port : Port) (params : List Byte) : Written.Statement (.tuneLane port params) := by
  rintro _ _ _ ⟨⟩; exact ⟨rfl, fun _ => rfl⟩

theorem Written.reseedLane (port : Port) (params : List Byte) : Written.Statement (.reseedLane port params) := by
  rintro _ _ _ ⟨⟩; exact ⟨rfl, fun _ => rfl⟩

theorem Written.readLane (port : Port) (params : List Byte) : Written.Statement (.readLane port params) := by
  rintro _ _ _ ⟨⟩; exact ⟨rfl, fun _ => rfl⟩

theorem Written.readStray (port : Port) (params : List Byte) : Written.Statement (.readStray port params) := by
  rintro _ _ _ ⟨⟩; exact ⟨rfl, fun _ => rfl⟩

theorem Written.clearStray (port : Port) (params : List Byte) : Written.Statement (.clearStray port params) := by
  rintro _ _ _ ⟨⟩; exact ⟨rfl, fun _ => rfl⟩

theorem Written.readLinkStats (port : Port) (params : List Byte) : Written.Statement (.readLinkStats port params) := by
  rintro _ _ _ ⟨⟩; exact ⟨rfl, fun _ => rfl⟩

theorem Written.readFaults (port : Port) (params : List Byte) : Written.Statement (.readFaults port params) := by
  rintro _ _ _ ⟨⟩; exact ⟨rfl, fun _ => rfl⟩

theorem Written.clearFaults (port : Port) (params : List Byte) : Written.Statement (.clearFaults port params) := by
  rintro _ _ _ ⟨⟩; exact ⟨rfl, fun _ => rfl⟩

theorem Written.readEvents (port : Port) (params : List Byte) : Written.Statement (.readEvents port params) := by
  rintro _ _ _ ⟨⟩; exact ⟨rfl, fun _ => rfl⟩

theorem Written.ackReset (port : Port) (params : List Byte) : Written.Statement (.ackReset port params) := by
  rintro _ _ _ ⟨⟩; exact ⟨rfl, fun _ => rfl⟩

theorem Written.lineFree : Written.Statement .lineFree := by
  nofun

theorem Written.lineStuck : Written.Statement .lineStuck := by
  nofun

theorem Written.echo : Written.Statement .echo := by
  nofun

theorem Written.callSent : Written.Statement .callSent := by
  nofun

theorem Written.noAnswer : Written.Statement .noAnswer := by
  nofun

theorem Written.answerTimeout : Written.Statement .answerTimeout := by
  nofun

theorem Written.answerComplete (chars : List AnswerChar) : Written.Statement (.answerComplete chars) := by
  nofun

theorem Written.gateSilent (turnEnd : TurnEnd) : Written.Statement (.gateSilent turnEnd) := by
  nofun

theorem Written.tuneLimit (turnEnd : TurnEnd) : Written.Statement (.tuneLimit turnEnd) := by
  nofun

theorem Written.lost (turnEnd : TurnEnd) : Written.Statement (.lost turnEnd) := by
  nofun

theorem Written.jam (turnEnd : TurnEnd) : Written.Statement (.jam turnEnd) := by
  nofun

theorem Written.powerLoss : Written.Statement .powerLoss := by
  nofun

theorem Written.scanComplete : Written.Statement .scanComplete := by
  nofun

end Sys2Proof.Laws
end

