-- ==== Sys2Proof/Laws/Queue.lean ====
section
/-! SUPPORT. The commit queue: what queueing a record, beginning a program and ending an entry do, said
once for each (R64 to R70), and what the end of an event leaves. -/
namespace Sys2Proof.Machine

variable (s : State)

/-! ### Queueing a record (R64, R66) -/

theorem State.hasEntry_iff (r : RecordId) :
    s.hasEntry r = true ↔ ∃ e ∈ s.commitQueue, e.record = r := by
  simp [State.hasEntry]

theorem State.hasEntry_map (r : RecordId) :
    s.hasEntry r = true ↔ r ∈ s.commitQueue.map (·.record) := by
  simp [State.hasEntry_iff]

/-- Everything that queueing a record can do. -/
theorem State.queueRecord_cases (r : RecordId) (edit : Bool) :
    (s.hasEntry r = true ∧ s.queueRecord r edit = { s with
      commitQueue := s.commitQueue.map fun e =>
        if e.record = r then
          { e with edit := e.edit || edit, changed := e.changed || s.programming r }
        else e }) ∨
    (s.hasEntry r = false ∧ (∃ n ∈ s.held, r = .account n) ∧ s.queueRecord r edit = s) ∨
    (s.hasEntry r = false ∧ (∃ n, r = .account n ∧ n ∉ s.held ∧
      accountEntryLimit ≤ s.accountEntries ∧
      s.queueRecord r edit = { s with held := s.held ++ [n] })) ∨
    (s.hasEntry r = false ∧
      (∀ n, r = .account n → n ∉ s.held ∧ s.accountEntries < accountEntryLimit) ∧
      s.queueRecord r edit =
        { s with commitQueue := s.commitQueue ++ [{ record := r, edit := edit }] }) := by
  unfold State.queueRecord
  by_cases h : s.hasEntry r = true
  · exact .inl ⟨h, by rw [if_pos h]⟩
  · have h' : s.hasEntry r = false := by simpa using h
    rw [if_neg h]
    cases r with
    | account n =>
      dsimp only
      by_cases h2 : n ∈ s.held
      · exact .inr (.inl ⟨h', ⟨n, h2, rfl⟩, by simp [h2]⟩)
      · by_cases h3 : accountEntryLimit ≤ s.accountEntries
        · exact .inr (.inr (.inl ⟨h', n, rfl, h2, h3, by simp [h2, h3]⟩))
        · refine .inr (.inr (.inr ⟨h', fun m hm => ?_, by simp [h2, h3]⟩))
          cases hm; exact ⟨h2, Nat.lt_of_not_le h3⟩
    | settlement n => exact .inr (.inr (.inr ⟨h', (fun m hm => nomatch hm), rfl⟩))
    | float => exact .inr (.inr (.inr ⟨h', (fun m hm => nomatch hm), rfl⟩))
    | fault => exact .inr (.inr (.inr ⟨h', (fun m hm => nomatch hm), rfl⟩))
    | settings => exact .inr (.inr (.inr ⟨h', (fun m hm => nomatch hm), rfl⟩))

/-- The records that stand in the queue after a request. -/
theorem State.queueRecord_records (r : RecordId) (edit : Bool) :
    (s.queueRecord r edit).commitQueue.map (·.record) = s.commitQueue.map (·.record) ∨
    (s.hasEntry r = false ∧
      (s.queueRecord r edit).commitQueue.map (·.record) = s.commitQueue.map (·.record) ++ [r]) := by
  rcases s.queueRecord_cases r edit with ⟨_, h⟩ | ⟨_, _, h⟩ | ⟨_, n, _, _, _, h⟩ | ⟨h0, _, h⟩
  · refine .inl ?_
    rw [h]
    simp only [List.map_map]
    exact List.map_congr_left fun e _ => by
      simp only [Function.comp_apply]
      split <;> rfl
  · exact .inl (by rw [h])
  · exact .inl (by rw [h])
  · exact .inr ⟨h0, by rw [h]; simp⟩

/-- Nothing queued is lost by a request. -/
theorem State.queueRecord_hasEntry {x : RecordId} (h : s.hasEntry x = true) (r : RecordId)
    (edit : Bool) : (s.queueRecord r edit).hasEntry x = true := by
  rw [State.hasEntry_map] at h ⊢
  rcases s.queueRecord_records r edit with hr | ⟨_, hr⟩ <;> rw [hr]
  · exact h
  · exact List.mem_append_left _ h

/-- A record that is no account stands in the queue after its request. -/
theorem State.queueRecord_self {r : RecordId} (h : r.isAccount = false) (edit : Bool) :
    (s.queueRecord r edit).hasEntry r = true := by
  rcases s.queueRecord_cases r edit with ⟨h0, _⟩ | ⟨_, ⟨n, _, hn⟩, _⟩ | ⟨_, n, hn, _⟩ | ⟨_, _, hq⟩
  · exact s.queueRecord_hasEntry h0 r edit
  · subst hn; simp [RecordId.isAccount] at h
  · subst hn; simp [RecordId.isAccount] at h
  · rw [hq]; simp [State.hasEntry]

/-- An account record stands in the queue or in the held-account list after its request (R66). -/
theorem State.queueRecord_queued (r : RecordId) (edit : Bool) : (s.queueRecord r edit).Queued r := by
  rcases s.queueRecord_cases r edit with ⟨h0, _⟩ | ⟨_, ⟨n, hm, hn⟩, hq⟩ | ⟨_, n, hn, _, _, hq⟩ | ⟨_, _, hq⟩
  · exact .inl (s.queueRecord_hasEntry h0 r edit)
  · exact .inr ⟨n, by rw [hq]; exact hm, hn⟩
  · exact .inr ⟨n, by rw [hq]; simp, hn⟩
  · exact .inl (by rw [hq]; simp [State.hasEntry])

/-- No held account is lost by a request. -/
theorem State.queueRecord_held {n : Nat} (h : n ∈ s.held) (r : RecordId) (edit : Bool) :
    n ∈ (s.queueRecord r edit).held := by
  rcases s.queueRecord_cases r edit with ⟨_, hq⟩ | ⟨_, _, hq⟩ | ⟨_, _, _, _, _, hq⟩ | ⟨_, _, hq⟩ <;>
    rw [hq]
  · exact h
  · exact h
  · exact List.mem_append_left _ h
  · exact h

/-! ### Beginning a program (R64, R67, R68, R70) -/

/-- With a program in progress none begins. -/
theorem State.beginProgram_some {g : Program} (h : s.program = some g) : s.beginProgram = s := by
  simp [State.beginProgram, h]

/-- With nothing queued none begins. -/
theorem State.beginProgram_nil (h : s.commitQueue = []) : s.beginProgram = s := by
  unfold State.beginProgram; rw [h]; cases s.program <;> rfl

/-- Otherwise, in service and draining, the program of the head begins. -/
theorem State.beginProgram_head {e : Entry} {rest : List Entry} (h : s.program = none)
    (hq : s.commitQueue = e :: rest) (ha : s.active = true) :
    s.beginProgram = { s with
      program := some ⟨e.record, s.image e.record, .first, { limit := 15 }⟩
      commitQueue := { e with edit := false, changed := false } :: rest
      waiters := s.waiters.map fun w => if w.record = e.record then { w with begun := true } else w } := by
  simp only [State.beginProgram, h, hq, ha, if_true]; rfl

/-- The beginning of a program leaves the records of the queue as they were. -/
@[simp] theorem State.beginProgram_records :
    s.beginProgram.commitQueue.map (·.record) = s.commitQueue.map (·.record) := by
  unfold State.beginProgram
  split
  · rename_i h _ hq
    split
    · rw [hq]; rfl
    · rfl
  · rfl

@[simp] theorem State.beginProgram_hasEntry (r : RecordId) :
    s.beginProgram.hasEntry r = s.hasEntry r := by
  have h1 := s.beginProgram.hasEntry_map r
  have h2 := s.hasEntry_map r
  rw [State.beginProgram_records] at h1
  rw [Bool.eq_iff_iff, h1, h2]

/-! ### The end of an event -/

/-- The end of an event neither adds an entry to the queue nor takes one from it. -/
@[simp] theorem State.conclude_records (b a : State) :
    (State.conclude b a).commitQueue.map (·.record) = a.commitQueue.map (·.record) := by
  simp [State.conclude]

@[simp] theorem State.conclude_hasEntry (b a : State) (r : RecordId) :
    (State.conclude b a).hasEntry r = a.hasEntry r := by
  have h1 := (State.conclude b a).hasEntry_map r
  have h2 := a.hasEntry_map r
  rw [State.conclude_records] at h1
  rw [Bool.eq_iff_iff, h1, h2]

/-- A waiter still waits after the end of an event (R70). -/
theorem State.conclude_waitsFor (b : State) {a : State} {r : RecordId} {k : WaitKind}
    (h : a.WaitsFor r k) : (State.conclude b a).WaitsFor r k := by
  have key : ∀ x : State, x.waiters = a.waiters → x.beginProgram.WaitsFor r k := by
    intro x hx
    obtain ⟨w, hw, h1, h2⟩ := h
    unfold State.beginProgram
    split
    · split
      · refine ⟨if w.record = _ then { w with begun := true } else w,
          List.mem_map.mpr ⟨w, hx ▸ hw, rfl⟩, ?_, ?_⟩ <;> split <;> assumption
      · exact ⟨w, hx ▸ hw, h1, h2⟩
    · exact ⟨w, hx ▸ hw, h1, h2⟩
  obtain ⟨w, hw, h1, h2⟩ := key (State.orderEvents b a) (by simp)
  exact ⟨w, by simpa [State.conclude] using hw, h1, h2⟩

/-! ### The end of an entry (R66, R69) -/

/-- An entry marked changed moves to the tail. -/
theorem State.entryEnds_changed {e : Entry} {rest : List Entry} (hq : s.commitQueue = e :: rest)
    (h : e.changed = true) :
    s.entryEnds = { s with commitQueue := rest ++ [{ e with changed := false }] } := by
  simp [State.entryEnds, hq, h]

/-- Any other leaves; where an account entry leaves, the oldest held account moves in. -/
theorem State.entryEnds_leaves {e : Entry} {rest : List Entry} (hq : s.commitQueue = e :: rest)
    (h : e.changed = false) :
    (∀ n held, e.record.isAccount = true → s.held = n :: held →
      s.entryEnds = { s with commitQueue := rest ++ [{ record := .account n }], held := held }) ∧
    (e.record.isAccount = false ∨ s.held = [] →
      s.entryEnds = { s with commitQueue := rest }) := by
  constructor
  · intro n held ha hh; simp [State.entryEnds, hq, h, ha, hh]
  · rintro (ha | hh)
    · simp [State.entryEnds, hq, h, ha]
    · unfold State.entryEnds
      rw [hq, hh]
      simp only [h, if_neg Bool.false_ne_true]
      cases e.record.isAccount <;> rfl

end Sys2Proof.Machine
end

