-- ==== Sys2Proof/Laws/Reset.lean ====
section
/-! SUPPORT. What the end of SOFT_RESET's drain does before the scan, what holds while RESET_N is low, and
which transactions a port takes up. -/
namespace Sys2Proof.Machine

variable (s : State) (p : Port)

/-! ### The end of the drain (R58 to R61, R88, R188) -/

/-- Where every lane is in OFF already, none of them moves, and LANE_STATE is not raised. -/
theorem State.lanesToOff_ports_off (h : ∀ n, (s.detectors.get n).state = .off) :
    s.lanesToOff.ports = s.ports := by
  have h0 := h .l0; have h1 := h .l1; have h2 := h .l2; have h3 := h .l3
  simp_all [State.lanesToOff, Lane.list, State.moveLane_ports, raisesLaneState, PerLane.get, PerLane.set]

@[simp] theorem State.lanesToOff_detectors : s.lanesToOff.detectors = .all {} := by
  simp [State.lanesToOff, Lane.list, PerLane.set, PerLane.all]

/-- Putting the lanes in OFF leaves the float conditions. -/
@[simp] theorem State.lanesToOff_conditions :
    s.lanesToOff.floatLow = s.floatLow ∧ s.lanesToOff.shortCause = s.shortCause ∧
    s.lanesToOff.emptyCause = s.emptyCause := by
  simp [State.lanesToOff, Lane.list]

@[simp] theorem State.floatToClear_conditions :
    s.floatToClear.floatLow = false ∧ s.floatToClear.shortCause = false ∧
    s.floatToClear.emptyCause = false := by
  simp [State.floatToClear]

/-! ### RESET_N held low (R109, R160, R168, R174, R182) -/

/-- The levels that the rules give the lines of a part held by RESET_N. -/
theorem State.ruledPins_held (h : s.mode = .resetHeld) :
    s.ruledPins = { lstop := .all true, lockout := true, attn := .all false, glDe := false } := by
  simp [State.ruledPins, h]

/-- A power-on reset with RESET_N low leaves the part held, and what comes from outside as it was. -/
@[simp] theorem State.powerUpHeld_kept :
    s.powerUpHeld.mode = .resetHeld ∧ s.powerUpHeld.resetLow = s.resetLow ∧
    s.powerUpHeld.addrStrap = s.addrStrap ∧ s.powerUpHeld.pending = s.pending ∧
    s.powerUpHeld.store = s.cutProgram.store := by
  simp [State.powerUpHeld, State.cleared]

/-! ### Transactions (R174, R176 to R178) -/

theorem State.acknowledges_iff (addr : BitVec 7) : s.acknowledges p addr = true ↔
    addr = s.address ∧ addr ≠ 0 ∧ (s.ports.get p).phase ≠ .starting := by
  simp only [State.acknowledges, Bool.and_eq_true, decide_eq_true_eq]
  exact ⟨fun h => ⟨h.1.2, h.1.1, h.2⟩, fun h => ⟨⟨h.2.1, h.1⟩, h.2.2⟩⟩

theorem State.opens_eq_some (addr : BitVec 7) (x : Transaction) : s.opens p addr = some x ↔
    s.acknowledges p addr = true ∧ x = { port := p, began := (s.ports.get p).phase } := by
  simp only [State.opens, Option.ite_none_right_eq_some, Option.some.injEq, eq_comm (a := x)]

@[simp] theorem Transaction.through_port (x : Transaction) : (x.through s).port = x.port := rfl

@[simp] theorem Transaction.through_began (x : Transaction) : (x.through s).began = x.began := rfl

theorem Transaction.through_cut (x : Transaction) : (x.through s).cut = true ↔
    x.cut = true ∨ (s.ports.get x.port).phase = .starting := by
  simp only [Transaction.through, Bool.or_eq_true, decide_eq_true_eq]

theorem Transaction.acknowledgesData_iff (x : Transaction) (k : Nat) :
    x.acknowledgesData k = true ↔ x.cut = false ∧ x.began = .ready ∧ k < 16 := by
  simp only [Transaction.acknowledgesData, Bool.and_eq_true, Bool.not_eq_true', decide_eq_true_eq]
  exact and_assoc

theorem State.readOver_iff (x : Transaction) : s.readOver x = true ↔
    x.cut = true ∨ (x.began = .result ∧ (s.ports.get x.port).phase ≠ .result) := by
  simp only [State.readOver, Bool.or_eq_true, Bool.and_eq_true, decide_eq_true_eq]

/-- A read that is over reads EEh in every byte (R178 to R180). -/
theorem State.readByte_over (x : Transaction) (k : Nat) (h : s.readOver x = true) :
    s.readByte x k = 0xEE := by
  simp [State.readByte, h]

/-- A read consumes its result exactly at the result's last byte, where it began in RESULT and is not over
(R178). -/
theorem State.readRow_eq_some (x : Transaction) (k : Nat) (c : Instr) : s.readRow x k = some c ↔
    s.readOver x = false ∧ x.began = .result ∧ k = (s.ports.get x.port).result.length ∧
      c = .resultConsumed x.port := by
  simp only [State.readRow, Option.ite_none_right_eq_some, Option.some.injEq, Bool.not_eq_true',
    eq_comm (a := c), and_assoc]

end Sys2Proof.Machine
end

