-- ==== Sys2Proof/Laws/Tables.lean ====
section
/-! SUPPORT. The tables of records: a record read after a write, and that every operation on a table
and on the store keeps their one form. -/
namespace Sys2Proof.Machine

variable {α : Type}

/-! ### A record read after a write -/

@[simp] theorem tableGet_nil (k : Nat) : tableGet ([] : Table α) k = none := rfl

theorem tableGet_cons (e : Nat × α) (t : Table α) (k : Nat) :
    tableGet (e :: t) k = if e.1 = k then some e.2 else tableGet t k := by
  by_cases h : e.1 = k <;> simp [tableGet, h]

@[simp] theorem tableGet_put_self (t : Table α) (k : Nat) (a : α) :
    tableGet (tablePut t k a) k = some a := by
  induction t with
  | nil => simp [tablePut, tableGet_cons]
  | cons e t ih =>
    obtain ⟨k', a'⟩ := e
    by_cases h1 : k < k'
    · simp [tablePut, h1, tableGet_cons]
    · by_cases h2 : k = k'
      · simp [tablePut, h2, tableGet_cons]
      · simp [tablePut, h1, h2, tableGet_cons, ih, Ne.symm h2]

@[simp] theorem tableGet_put_ne (t : Table α) {k j : Nat} (a : α) (h : j ≠ k) :
    tableGet (tablePut t k a) j = tableGet t j := by
  induction t with
  | nil => simp [tablePut, tableGet_cons, Ne.symm h]
  | cons e t ih =>
    obtain ⟨k', a'⟩ := e
    by_cases h1 : k < k'
    · simp [tablePut, h1, tableGet_cons, Ne.symm h]
    · by_cases h2 : k = k'
      · subst h2; simp [tablePut, tableGet_cons, Ne.symm h]
      · simp [tablePut, h1, h2, tableGet_cons, ih]

@[simp] theorem tableGet_del_self (t : Table α) (k : Nat) : tableGet (tableDel t k) k = none := by
  simp [tableGet, tableDel]

@[simp] theorem tableGet_del_ne (t : Table α) {k j : Nat} (h : j ≠ k) :
    tableGet (tableDel t k) j = tableGet t j := by
  induction t with
  | nil => rfl
  | cons e t ih =>
    unfold tableDel at ih ⊢
    by_cases h1 : e.1 = k
    · have hj : e.1 ≠ j := fun h2 => h (h2 ▸ h1)
      simp [h1, tableGet_cons, ih, Ne.symm h]
    · simp [h1, tableGet_cons, ih]

theorem tableGet_mem {t : Table α} {k : Nat} {a : α} (h : tableGet t k = some a) : (k, a) ∈ t := by
  induction t with
  | nil => simp at h
  | cons e t ih =>
    rw [tableGet_cons] at h
    split at h
    · cases h; simp [← ‹e.1 = k›]
    · exact List.mem_cons_of_mem _ (ih h)

/-- In the one form an entry is what its number reads as. -/
theorem Table.Rising.get {t : Table α} (h : Table.Rising t) {k : Nat} {a : α} (m : (k, a) ∈ t) :
    tableGet t k = some a := by
  induction t with
  | nil => simp at m
  | cons e t ih =>
    simp only [Table.Rising, List.map_cons, List.pairwise_cons] at h
    rw [tableGet_cons]
    rcases List.mem_cons.mp m with rfl | m'
    · simp
    · have : e.1 < k := h.1 k (List.mem_map.mpr ⟨_, m', rfl⟩)
      rw [if_neg (Nat.ne_of_lt this)]
      exact ih h.2 m'

/-! ### The one form -/

theorem mem_tablePut {t : Table α} {k : Nat} {a : α} {e : Nat × α} (h : e ∈ tablePut t k a) :
    e = (k, a) ∨ e ∈ t := by
  induction t with
  | nil => simp [tablePut] at h; exact .inl h
  | cons x t ih =>
    simp only [tablePut] at h
    split at h
    · simp only [List.mem_cons] at h ⊢
      tauto
    · split at h
      · simp only [List.mem_cons] at h ⊢
        tauto
      · rcases List.mem_cons.mp h with rfl | h
        · exact .inr List.mem_cons_self
        · rcases ih h with h | h
          · exact .inl h
          · exact .inr (List.mem_cons_of_mem _ h)

theorem Table.Rising.put {t : Table α} (h : Table.Rising t) (k : Nat) (a : α) :
    Table.Rising (tablePut t k a) := by
  induction t with
  | nil => simp [tablePut, Table.Rising]
  | cons x t ih =>
    have h' := h
    simp only [Table.Rising, List.map_cons, List.pairwise_cons] at h
    simp only [tablePut]
    split
    · rename_i hk
      simp only [Table.Rising, List.map_cons, List.pairwise_cons]
      refine ⟨fun y hy => ?_, h⟩
      rcases List.mem_cons.mp hy with rfl | hy
      · exact hk
      · exact Nat.lt_trans hk (h.1 y hy)
    · split
      · rename_i hk; subst hk
        simpa only [Table.Rising, List.map_cons, List.pairwise_cons] using h
      · simp only [Table.Rising, List.map_cons, List.pairwise_cons]
        refine ⟨fun y hy => ?_, ih h.2⟩
        obtain ⟨e, he, rfl⟩ := List.mem_map.mp hy
        rcases mem_tablePut he with rfl | he
        · show x.1 < k; omega
        · exact h.1 _ (List.mem_map.mpr ⟨e, he, rfl⟩)

theorem Table.Rising.del {t : Table α} (h : Table.Rising t) (k : Nat) :
    Table.Rising (tableDel t k) := h.sublist (List.filter_sublist.map _)

theorem Table.Below.put {t : Table α} {b : Nat} (h : Table.Below t b) {k : Nat} (hk : k < b) (a : α) :
    Table.Below (tablePut t k a) b := by
  intro e he
  rcases mem_tablePut he with rfl | he
  · exact hk
  · exact h e he

theorem Table.Below.del {t : Table α} {b : Nat} (h : Table.Below t b) (k : Nat) :
    Table.Below (tableDel t k) b := fun e he => h e (List.mem_filter.mp he).1

theorem Table.NoBlank.put {t : Table (Cell α)} (h : Table.NoBlank t) (k : Nat) {c : Cell α}
    (hc : c.listed = true) : Table.NoBlank (tablePut t k c) := by
  intro e he
  rcases mem_tablePut he with rfl | he
  · exact hc
  · exact h e he

/-- The lowest free number of a table is free, below the size, and every lower number is taken. -/
theorem lowestFree_spec {size : Nat} {t : Table α} {r : Nat} (h : lowestFree size t = some r) :
    r < size ∧ tableGet t r = none ∧ ∀ k < r, tableGet t k ≠ none := by
  unfold lowestFree at h
  rw [List.find?_range_eq_some] at h
  obtain ⟨h1, h2, h3⟩ := h
  exact ⟨by simpa using h2, by simpa using h1,
    fun k hk => by simpa [Option.isSome_iff_ne_none] using h3 k hk⟩

theorem lowestFree_none {size : Nat} {t : Table α} (h : lowestFree size t = none) :
    ∀ k < size, tableGet t k ≠ none := by
  unfold lowestFree at h
  intro k hk
  have := List.find?_eq_none.mp h k (List.mem_range.mpr hk)
  simpa [Option.isNone_iff_eq_none] using this

/-! ### The store keeps its one form -/

theorem Store.Fits.write {m : Store} (h : m.Fits) {r : RecordId} (hr : r.legal = true) (i : Image) :
    (m.write r i).Fits := by
  obtain ⟨h1, h2, h3, h4, h5, h6⟩ := h
  unfold Store.write
  split <;> simp only [RecordId.legal, decide_eq_true_eq] at hr <;>
    first
    | exact ⟨h1.put _ _, h2.put hr _, h3.put _ rfl, h4, h5, h6⟩
    | exact ⟨h1, h2, h3, h4.put _ _, h5.put hr _, h6.put _ rfl⟩
    | exact ⟨h1, h2, h3, h4, h5, h6⟩

theorem Store.Fits.corrupt {m : Store} (h : m.Fits) {r : RecordId} (hr : r.legal = true) (n : Nat) :
    (m.corrupt r n).Fits := by
  obtain ⟨h1, h2, h3, h4, h5, h6⟩ := h
  unfold Store.corrupt
  split <;> simp only [RecordId.legal, decide_eq_true_eq] at hr <;>
    first
    | exact ⟨h1.put _ _, h2.put hr _, h3.put _ rfl, h4, h5, h6⟩
    | exact ⟨h1, h2, h3, h4.put _ _, h5.put hr _, h6.put _ rfl⟩
    | exact ⟨h1, h2, h3, h4, h5, h6⟩

/-- Whatever a program cut off or failed twice leaves, the store keeps its one form (R68, R73). -/
theorem Store.Fits.leave {m : Store} (h : m.Fits) {g : Program} (hr : g.record.legal = true)
    (x : Residue) : (m.leave g x).Fits := by
  cases x with
  | old => exact h
  | image => exact h.write hr _
  | corrupt n => exact h.corrupt hr n

/-- A second failure of any program keeps the store's one form (R45, R68, R71). -/
theorem Store.Fits.leaveFailed {s : State} (h : s.store.Fits) {g : Program}
    (hr : g.record.legal = true) : (s.leaveFailed g).store.Fits := by
  unfold State.leaveFailed
  split
  · exact h.write hr _
  · exact h.leave hr _

/-- Putting what a table holds already changes nothing. -/
theorem Table.Rising.put_same {t : Table α} (h : Table.Rising t) {k : Nat} {a : α}
    (hk : tableGet t k = some a) : tablePut t k a = t := by
  induction t with
  | nil => simp at hk
  | cons e t ih =>
    obtain ⟨j, b⟩ := e
    rw [tableGet_cons] at hk
    have ht : Table.Rising t := (List.pairwise_cons.mp h).2
    have hlt := (List.pairwise_cons.mp h).1
    by_cases hj : j = k
    · simp_all [tablePut]
    · rw [if_neg hj] at hk
      have : j < k := hlt k (List.mem_map.mpr ⟨_, tableGet_mem hk, rfl⟩)
      have h1 : ¬ k < j := by omega
      simp [tablePut, h1, Ne.symm hj, ih ht hk]

/-- Where the store holds the record marked DISPENSING, the failed OWED program of R45 leaves the old
contents, as R68 has it. -/
theorem State.leaveFailed_handBack {s : State} (h : s.store.Fits) {g : Program} {x : SettleRecord}
    {n : Nat} (hx : s.handBackOf g = some x) (hg : g.record = .settlement n)
    (hs : tableGet s.store.settlements n = some (.valid { x with marker := .dispensing })) :
    s.leaveFailed g = s := by
  obtain ⟨-, -, -, h4, -, -⟩ := h
  simp [State.leaveFailed, hx, hg, Store.write, h4.put_same hs]

theorem Store.Fits.blank : ({} : Store).Fits := by decide

end Sys2Proof.Machine
end

