-- ==== Sys2Proof/Tests/Slice0.lean ====
section
/-! SUPPORT. Small tests: what the smoke test of WellFormed refuses, frames and answers written out from
the manual's tables, the manual's worked cases, one or two steps of every row, and for each statement of
the obligations a state and operands that meet its hypotheses. -/
namespace Sys2Proof.Tests
open Sys2Proof.Machine
set_option Elab.async false

/-! ### Small states -/

/-- The state after an event. -/
def run (i : Instr) (s : State) : State :=
  match exec i s with
  | .next t => t
  | .fault _ | .refused _ => s

/-- The result that stands at a port. -/
def shown (p : Port) (s : State) : List Byte := (s.ports.get p).result

/-- The part running, with nothing in hand and no flag set. -/
def base : State :=
  ({ State.reset with mode := .running, ports := .all { phase := .ready, flags := 0 } } : State).drivePins

/-- Rows 0 and 3 of Table 6-2. -/
def rows : Vector ClassRow 12 :=
  ((Vector.replicate 12 ({} : ClassRow)).set 0 ⟨true, 5000, 7000, 1500, 2600, 3000⟩).set 3
    ⟨true, 0, 100, 800, 1000, 150⟩

/-- Figures of a docket that is owed 100. -/
def owed100 : Figures := ⟨100, 0, 0, 0, 100, 0, 100, 0⟩

def restoredDocket (num : Nat) (st : OrderState) : Docket :=
  { number := num, lane := .l3, haulier := 7, state := .awaitingPayout, closedAt := some 5,
    figures := some owed100, order := some { state := st }, restored := true }

/-- A yard at work: lane 0 IDLE under docket 1 of haulier 7, lane 1 PRESENT under docket 2, lane 2
PRESENT under the CLOSING docket 3, lane 3 IDLE; docket 4 owed, docket 5 in SUSPENSE, docket 6
finished. -/
def shop : State :=
  ({ base with
    yardTime := 30600
    settings := { classes := rows, lanes := .all { enable := true } }
    detectors :=
      ⟨{ state := .idle }, { state := .present, pass := { primary := some .cap, dwell := 40 } },
       { state := .present }, { state := .idle }⟩
    dockets :=
      [ { number := 1, lane := .l0, haulier := 7, state := .open, openedAt := some 10,
          tallies := some { accepted := (Vector.replicate 12 0).set 3 39, classified := 39, passes := 39 } },
        { number := 2, lane := .l1, haulier := 0, state := .open, openedAt := some 10,
          tallies := some {} },
        { number := 3, lane := .l2, haulier := 0, state := .closing, openedAt := some 10,
          closedAt := some 20, tallies := some {} },
        restoredDocket 4 .ready, restoredDocket 5 .suspense,
        { number := 6, lane := .l3, haulier := 0, state := .nilPayout, tallies := some {} } ]
    finished := [6]
    nextNumber := 412
    openDocket := ⟨some 1, some 2, some 3, none⟩
    grace := ⟨none, none, some { limit := 10000 }, none⟩
    orderQueue := [4]
    float := 60000
    accounts := [(0, { haulier := 7 }), (1, { haulier := 8, status := .frozen })]
    settlements :=
      [(0, ⟨4, .l3, 7, 5, owed100, .owed⟩), (1, ⟨5, .l3, 7, 5, owed100, .dispensing⟩)] } :
    State).drivePins

/-- The yard with order 4 handed over: its result waits at the Payout port. -/
def handed : State :=
  let d : List Docket := shop.dockets.map fun d =>
    if d.number = 4 then { d with order := some { state := .dispensing } } else d
  let r : List Byte := [0x30, 0, 9, 0, 0, 4, 0, 0, 7, 3, 0, 0, 100]
  ({ shop with
    dockets := d
    settlements :=
      [(0, ⟨4, .l3, 7, 5, owed100, .dispensing⟩), (1, ⟨5, .l3, 7, 5, owed100, .dispensing⟩)]
    ports := { shop.ports with
      payout := { phase := .result, result := r, hold := some { limit := 1000 }, flags := 0 } } } :
    State).drivePins

/-- The same with the result read: the dispense timer runs. -/
def dispensing : State :=
  ({ handed with
    dispenseTimer := some { limit := 90000 }
    ports := { handed.ports with payout := { phase := .ready, flags := 0 } } } : State).drivePins

/-- The yard with a program of a record in progress, on which a command waits at a port. -/
def programming (p : Port) (r : RecordId) (i : Image) (a : Attempt) (k : WaitKind) : State :=
  let q : PortState := { phase := .executing, flags := 0 }
  ({ shop with
    commitQueue := [{ record := r }]
    program := some ⟨r, i, a, { limit := 15 }⟩
    waiters := [{ record := r, begun := true, kind := k }]
    ports := shop.ports.set p q } : State).drivePins

/-- The program of the float record after a LOAD_FLOAT to 80,000. -/
def loading (a : Attempt) : State :=
  { programming .office .float (.float 80000) a (.loadFloat 80000) with float := 80000 }

/-- The program of haulier 8's account. -/
def rewriting (a : Attempt) : State :=
  programming .office (.account 1) (.account (some { haulier := 8, status := .frozen })) a
    (.accountEdit .accountRewrite)

/-- A turn of lane 1. -/
def turn1 (k : CallKind) (p : TurnPhase) : Turn :=
  ⟨.l1, k, 38400, callBytes k .l1 38400 (.all 20000), p, false⟩

/-- The yard with a turn of lane 1 in progress, and its detector in a state given. -/
def turning (k : CallKind) (p : TurnPhase) (d : Detector) (l : LaneLink) : State :=
  ({ shop with
    turn := some (turn1 k p)
    rotation := some .l1
    detectors := shop.detectors.set .l1 d
    links := shop.links.set .l1 l } : State).drivePins

/-- Lane 1 with a keg in the gate (5.15). -/
def keg : Detector := { state := .present, pass := { primary := some .ind, dwell := 40 } }

/-- Lane 1 in an acknowledged TUNING, its targets as sent (7.10). -/
def tuning (count : Nat) : Detector :=
  { state := .tuning, tuneAck := true, tuneCount := count, targetsSent := some (.all 20000) }

/-- Characters whose stop bits were all recessive. -/
def whole (bs : List Byte) : List AnswerChar := bs.map (·, true)

/-- The READY answer of lane 1 with sequence 9 and 20,000 on each channel (Table 10-12). -/
def readyAnswer : List AnswerChar :=
  whole [0xA5, 0x09, 0x01, 0x4E, 0x20, 0x4E, 0x20, 0x4E, 0x20, 0x5C]

/-- The TUNED answers of 7.10, rows 1 and 2. -/
def tunedAnswer : List AnswerChar :=
  whole [0xA5, 0x09, 0x04, 0x53, 0x98, 0x55, 0xF0, 0x46, 0x50, 0x45]

def offBandAnswer : List AnswerChar :=
  whole [0xA5, 0x09, 0x04, 0x53, 0x98, 0x56, 0x86, 0x4D, 0xBC, 0x63]

/-- The drain of a SOFT_RESET taken in `s`, at the second attempt of the program in progress. -/
def drainFailing (s : State) : State :=
  let t := run (.softReset .office []) s
  { t with program := t.program.map fun g => { g with attempt := .second } }

/-- The yard with order 4 OFFERED, its TAKE_ORDER waiting behind a program of the fault record. -/
def offered : State :=
  let q : PortState := { phase := .executing, flags := 0 }
  let x : SettleRecord := ⟨4, .l3, 7, 5, owed100, .dispensing⟩
  (({ shop with
    commitQueue := [{ record := .fault }, { record := .settlement 0 }]
    program := some ⟨.fault, .fault {}, .second, { limit := 15 }⟩
    waiters := [{ record := .settlement 0, kind := .take 4 }]
    settlements := [(0, x), (1, ⟨5, .l3, 7, 5, owed100, .dispensing⟩)]
    ports := shop.ports.set .payout q } : State).setOrderState 4 .offered).drivePins

/-- A store with a corrupt account record of haulier 7, a second record of that ID, and two settlement
records of one docket. -/
def scarred : Store :=
  { accounts := [(2, .corrupt 7), (5, .valid { haulier := 7 })]
    settlements := [(3, .valid ⟨5, .l3, 7, 5, owed100, .dispensing⟩),
      (4, .valid ⟨5, .l3, 7, 5, owed100, .owed⟩)] }

/-! ### WellFormed: an ill-formed term for each check -/

theorem test_wf_unknown_code : (Instr.invalidCommand .lane 0x10 []).wf = false := by decide

theorem test_wf_resolve_not_paid :
    (Instr.resolveSuspense .office [0, 5, 0xFF, 0xFF, 0xFF, 0xFF]).wf = false := by decide

theorem test_wf_not_paid_amount :
    (Instr.resolveSuspenseNotPaid .office [0, 5, 0, 0, 0, 100]).wf = false := by decide

theorem test_wf_discarded_empty : (Instr.writeDiscarded .lane []).wf = false := by decide

theorem test_wf_answer_length : (Instr.answerComplete (whole [0x69, 0x01])).wf = false := by decide

theorem test_wf_turn_end :
    (Instr.gateSilent (.complete [])).wf = false ∧ (Instr.tuneLimit (.complete [])).wf = false ∧
    (Instr.lost (.complete [])).wf = false ∧ (Instr.jam (.complete [])).wf = false := by decide

theorem test_wf_accepts :
    (Instr.invalidCommand .lane 0x99 []).wf = true ∧ (Instr.answerComplete readyAnswer).wf = true ∧
    (Instr.resolveSuspenseNotPaid .office [0, 5, 0xFF, 0xFF, 0xFF, 0xFF]).wf = true := by decide

/-! ### Frames, calls and answers (10.5, Tables 10-4, 10-10 to 10-12, R151) -/

/-- 10.5, step 1: 34h, 00h 00h 4Eh 20h is LOAD_FLOAT 20,000. -/
theorem test_frame_load_float :
    decodeWrite .office [0x34, 0x00, 0x00, 0x4E, 0x20] = .loadFloat .office [0x00, 0x00, 0x4E, 0x20] ∧
    field [0x00, 0x00, 0x4E, 0x20] 0 4 = 20000 := by decide

/-- One frame of each family of Table 10-4. -/
theorem test_frames_families :
    decodeWrite .lane [0x10, 2, 0, 0x10, 0x15] = .openDocket .lane [2, 0, 0x10, 0x15] ∧
    decodeWrite .lane [0x20, 1, 1] = .laneEnable .lane [1, 1] ∧
    decodeWrite .payout [0x30] = .takeOrder .payout [] ∧
    decodeWrite .office [0x40, 0, 0x10, 0x15] = .accountAdd .office [0, 0x10, 0x15] ∧
    decodeWrite .office [0x51, 3, 0, 0, 0, 20] = .setParam .office [3, 0, 0, 0, 20] ∧
    decodeWrite .office [0x60] = .readFaults .office [] ∧
    decodeWrite .office [0x7F] = .softReset .office [] ∧
    decodeWrite .lane [0x99, 1] = .invalidCommand .lane 0x99 [1] ∧
    decodeWrite .lane [] = .writeIgnored .lane [] := by decide

theorem test_frame_not_paid :
    decodeWrite .office [0x32, 0, 5, 0xFF, 0xFF, 0xFF, 0xFF] =
      .resolveSuspenseNotPaid .office [0, 5, 0xFF, 0xFF, 0xFF, 0xFF] ∧
    decodeWrite .office [0x32, 0, 5, 0, 0, 0, 100] = .resolveSuspense .office [0, 5, 0, 0, 0, 100] := by
  decide

/-- R151's CRC of the nine characters "123456789": register FFh, generator 2Fh, no final step. -/
theorem test_crc : crc [0x31, 0x32, 0x33, 0x34, 0x35, 0x36, 0x37, 0x38, 0x39] = 0x20 := by decide +kernel

/-- The calls of lanes 1 and 2 (Tables 10-10 and 10-11). -/
theorem test_calls :
    callBytes .sample .l1 38400 (.all 20000) = [0xA5] ∧
    callBytes .config .l2 38400 (.all 20000) = [0x5A, 2, 0, 0x96, 0, 0, 0, 0x2C] ∧
    callBytes .tune .l1 38400 (.all 20000) = [0x2D, 0x4E, 0x20, 0x4E, 0x20, 0x4E, 0x20, 0x19] := by
  decide +kernel

theorem test_judge_order :
    judge (turn1 .sample .listening) readyAnswer = .accepted .ready 9 (.all 20000) ∧
    judge (turn1 .config .listening) (whole [0x69, 1, 0x24]) = .miss .crc ∧
    judge (turn1 .tune .listening) (whole [0x69, 1, 0x25]) = .miss .address ∧
    judge (turn1 .config .listening) [(0x69, true), (1, false), (0x24, true)] = .miss .framing := by
  decide +kernel

/-! ### The manual's worked cases -/

/-- The settings and rates of 2.12, with the cap given. -/
def settling (cap : Nat) : State :=
  let r := fun n : Nat => ({ rate := n } : ClassRow)
  { base with
    accounts := [(0, { haulier := 4117, carry := 7 })]
    settings := { base.settings with
      foreignFee := 125, roundUnit := 20, cap := cap
      classes := ((((Vector.replicate 12 ({} : ClassRow)).set 0 (r 3000)).set 1 (r 2500)).set 3
        (r 150)).set 4 (r 90) } }

/-- The tallies of case 1 of 2.12. -/
def case1 : Tallies :=
  { accepted := ((((Vector.replicate 12 0).set 0 6).set 1 4).set 3 39).set 4 11
    rejected := (Vector.replicate 12 0).set 3 2, foreign := 2 }

theorem test_settlement_case1 : (settling 500000).settle 4117 case1 =
    { gross := 34540, foreignCharge := 250, uncovered := 0, carryIn := 7, total := 34297,
      referred := 0, payout := 34280, remainder := 17 } := by decide +kernel

theorem test_settlement_case2 :
    (settling 500000).settle 4117 { accepted := (Vector.replicate 12 0).set 3 8, foreign := 12 } =
    { gross := 1200, foreignCharge := 1500, uncovered := 300, carryIn := 7, total := 7,
      referred := 0, payout := 0, remainder := 7 } := by decide +kernel

theorem test_settlement_case3 : ((settling 30010).settle 4117 case1).payout = 30000 ∧
    ((settling 30010).settle 4117 case1).referred = 4297 ∧
    ((settling 30010).settle 4117 case1).remainder = 0 := by decide +kernel

/-- Table 6-2. -/
def table62 : List ClassRow :=
  [⟨true, 5000, 7000, 1500, 2600, 3000⟩, ⟨true, 3500, 4999, 1100, 2000, 2500⟩,
   ⟨true, 2000, 3499, 700, 1500, 2000⟩, ⟨true, 0, 100, 800, 1000, 150⟩,
   ⟨true, 0, 100, 450, 700, 90⟩, ⟨true, 0, 150, 400, 1200, 0⟩, {}, {}, {}, {}, {}, {}]

/-- Table 6-3. -/
theorem test_classification :
    classMatch table62 6100 2000 = .classified 0 ∧ classMatch table62 5000 2600 = .classified 0 ∧
    classMatch table62 4999 1600 = .classified 1 ∧ classMatch table62 3600 2100 = .foreign ∧
    classMatch table62 10 900 = .classified 3 ∧ classMatch table62 10 1100 = .classified 5 ∧
    classMatch table62 130 600 = .classified 5 ∧ classMatch table62 400 900 = .foreign ∧
    classMatch table62 0 0 = .foreign := by decide

/-- The settings of lane 1 in 5.14. -/
def train : LaneSettings := { alpha := 0, gamma := 1, settleLen := 2, refWeight := 0 }

/-- 5.14, sample 1: the baselines move first, and an entry begins on CAP. -/
theorem test_train_entry :
    let r := detect train { state := .idle, baseline := ⟨320000, 319925, 320000⟩,
                            filtered := .all 20000 } ⟨20010, 20300, 20000⟩
    r.detector.state = .entering ∧ r.detector.baseline.cap = 320001 ∧
    r.detector.baseline.ind = 320002 ∧ r.detector.pass.primary = some .cap ∧
    r.detector.pass.peakCap = 300 ∧ r.detector.pass.peakInd = 10 := by decide

/-- 5.14, sample 7: the trailing edge splits the pass, a = 20,519 and dwell 7. -/
theorem test_train_split :
    let q : Pass := { primary := some .cap, peakInd := 10, peakCap := 900, dwell := 6,
                      average := 20887, snapshot := some 900, theta := some 337 }
    let r := detect train { state := .present, baseline := .all 320000, filtered := .all 20000, pass := q,
                            freeze := some ⟨20000, 20000, 20000⟩ } ⟨20010, 20150, 20000⟩
    r.detector.state = .gap ∧ r.detector.pass.fmin = 20150 ∧
    r.event = .resolved .split { q with dwell := 7, average := 20519 } := by decide

/-- 5.14, sample 6: the settle run reaches S, s = 900 and θ = 337. -/
theorem test_train_snapshot :
    let q : Pass := { primary := some .cap, peakCap := 900, dwell := 5, average := 20875, settleRun := 1 }
    let r := detect train { state := .present, baseline := .all 320000, filtered := .all 20000, pass := q,
                            freeze := some ⟨20000, 20000, 20000⟩ } ⟨20010, 20900, 20000⟩
    r.detector.pass.average = 20887 ∧ r.detector.pass.snapshot = some 900 ∧
    r.detector.pass.theta = some 337 := by decide

/-- 7.3.1: compensation up and down, truncated toward zero. -/
theorem test_compensation :
    compensated 2048 20010 20030 19980 = 20035 ∧ compensated 2048 20010 19919 19980 = 19980 := by decide

/-- 7.11: the first and the fourth sample. -/
theorem test_settling_steps :
    stepBaseline {} 320000 19100 = 316400 ∧ stepBaseline {} 311675 19100 = 311581 := by decide

/-- 7.10: the bands' ends, and the upper end clamped to 65535. -/
theorem test_bands :
    inBand 20000 2000 22000 = true ∧ inBand 20000 2000 18000 = true ∧
    inBand 20000 2000 22150 = false ∧ inBand 64500 2000 65535 = true := by decide

/-! ### One or two steps of every row -/

theorem test_power_on_reset :
    let t := run .powerOnReset shop
    t.mode = .scanning ∧ t.dockets = [] ∧ t.yardTime = 0 ∧ (t.ports.get .lane).flags = 1 := by
  decide +kernel

theorem test_reset_n_asserted :
    let t := run .resetNAsserted shop
    t.mode = .resetHeld ∧ t.pins.lockout = true ∧ (t.ports.get .office).phase = .starting := by
  decide +kernel

/-- A DISPENSING record comes back as a docket in SUSPENSE (R191). -/
theorem test_reset_n_released :
    let m : Store := { settlements := [(3, .valid ⟨5, .l3, 7, 5, owed100, .dispensing⟩)] }
    let t := run .resetNReleased { run .resetNAsserted shop with store := m }
    t.orderState? 5 = some .suspense ∧ t.Flagged .payout .suspense ∧
    (t.ports.get .office).flags = 0x0181 := by decide +kernel

/-- With RESET_N held low a power-on reset leaves the part held, its lines asserted, until the release (R168,
Table 4-1 of 00_scope.md). -/
theorem test_power_on_with_reset_low :
    let s := run .powerLoss (run .resetNAsserted shop)
    let t := run .powerOnReset s
    s.resetLow = true ∧ t.mode = .resetHeld ∧ t.pins.lockout = true ∧
    (run .scanComplete t).mode = .resetHeld ∧ (run .resetNReleased t).mode = .scanning := by decide +kernel

/-- The pin keeps its level without supply. -/
theorem test_reset_n_without_supply :
    let s := run .powerLoss shop
    (run .powerOnReset (run .resetNAsserted s)).mode = .resetHeld ∧
    (run .powerOnReset (run .resetNReleased (run .resetNAsserted s))).mode = .scanning := by decide +kernel

theorem test_soft_reset :
    let t := run (.softReset .office []) handed
    t.mode = .draining ∧ t.yardTime = 30600 ∧ t.orderState? 4 = some .ready ∧
    t.hasEntry (.settlement 0) = true := by decide +kernel

/-- The OWED program of SOFT_RESET's drain fails twice: the record is left DISPENSING, and the order comes
back in SUSPENSE (R45). -/
theorem test_owed_program_fails_twice :
    let s := drainFailing handed
    let t := run (.programAttemptEnd false) s
    s.handedBack = some 4 ∧ s.program.map (·.record) = some (.settlement 0) ∧
    tableGet t.store.settlements 0 = some (.valid ⟨4, .l3, 7, 5, owed100, .dispensing⟩) ∧
    (run .softResetDrainEnd { t with commitQueue := [], program := none }).orderState? 4 =
      some .suspense := by decide +kernel

/-- The same where the order was OFFERED and its program not begun: the store held OWED until then
(R45; log entry 1). -/
theorem test_owed_program_of_an_offered_order_fails :
    let u := run (.programAttemptEnd true) (run (.softReset .office []) offered)
    let s := { u with
      store := { settlements := [(0, .valid ⟨4, .l3, 7, 5, owed100, .owed⟩)] }
      program := u.program.map fun g => { g with attempt := .second } }
    let t := run .programAttemptTimeout s
    s.handedBack = some 4 ∧ s.program.map (·.record) = some (.settlement 0) ∧
    tableGet t.store.settlements 0 = some (.valid ⟨4, .l3, 7, 5, owed100, .dispensing⟩) := by
  decide +kernel

/-- A program cut off does not leave its image (R44, R45, R51, R54, R73). -/
theorem test_cut_off_leaves_no_image :
    withoutImage .image = .old ∧ withoutImage (.corrupt 7) = .corrupt 7 := by decide

/-- The image that no second failure leaves: OWED, over a record that the store holds DISPENSING (R44, R54),
and the float (R71); a first OWED record and an account may hold it (R68). -/
theorem test_image_barred :
    let x : SettleRecord := ⟨4, .l3, 7, 5, owed100, .owed⟩
    let g : Program := ⟨.settlement 0, .settlement (some x), .second, { limit := 15 }⟩
    let m : Store := { settlements := [(0, .valid { x with marker := .dispensing })] }
    m.failureResidue g .image = .old ∧ m.failureResidue { g with record := .settlement 1 } .image = .image ∧
    m.failureResidue { g with record := .float, image := .float 5 } .image = .old ∧
    m.failureResidue { g with record := .account 1, image := .account none } .image = .image := by decide

/-- The scan's own rows of Table 11-2: a corrupt account is loaded CORRUPT, a second record of its ID is
freed, and so is a second record of a docket; each is one STORE_CORRUPT, and each record is queued. -/
theorem test_scan_of_bad_records :
    let t := run .resetNReleased { run .resetNAsserted shop with store := scarred }
    t.account? 7 = some (2, { haulier := 7, status := .corrupt }) ∧ tableGet t.accounts 5 = none ∧
    tableGet t.settlements 4 = none ∧ (t.faults.get .storeCorrupt).count = 3 ∧
    t.Queued (.account 2) ∧ t.Queued (.account 5) ∧ t.hasEntry (.settlement 4) = true ∧
    t.hasEntry (.settlement 3) = false ∧ t.hasEntry .fault = true := by decide +kernel

/-- The float is kept over SOFT_RESET, whatever its record holds (R55, R190). -/
theorem test_soft_reset_drain_end :
    let t := run .softResetDrainEnd { shop with mode := .draining, store := { float := .valid 5 } }
    t.mode = .scanning ∧ t.float = 60000 ∧ t.yardTime = 30600 ∧ t.dockets = [] := by decide +kernel

/-- The lanes go to OFF at the end of the drain, and LANE_STATE is raised (R88, R188). -/
theorem test_soft_reset_lanes_off :
    let t := run .softResetDrainEnd { shop with mode := .draining }
    (t.detectors.get .l0).state = .off ∧ t.Flagged .lane .laneState := by decide +kernel

/-- The empty cause clears at the end of the drain, and FLOAT_OUT is raised (R60, R61). -/
theorem test_soft_reset_causes_clear :
    let t := run .softResetDrainEnd { shop with mode := .draining, emptyCause := true }
    t.emptyCause = false ∧ t.Flagged .payout .floatOut := by decide +kernel

theorem test_yard_second_wraps :
    (run .yardSecond { base with yardTime := 4294967295 }).yardTime = 0 := by decide +kernel

theorem test_set_time :
    let t := run (.setTime .office [0, 0, 1, 0]) shop
    t.yardTime = 256 ∧ shown .office t = [0x72, 0, 4, 0, 0, 0, 1, 0] := by decide +kernel

theorem test_invalid_command : shown .lane (run (.invalidCommand .lane 0x99 [1]) shop) =
    [0x99, 0x10, 0, 0] := by decide +kernel

/-- R175's order: a wrong port is told before a wrong length. -/
theorem test_port_checks :
    shown .lane (run (.takeOrder .lane [1]) shop) = [0x30, 0x12, 0, 0] ∧
    shown .payout (run (.takeOrder .payout [1]) shop) = [0x30, 0x11, 0, 0] := by decide +kernel

theorem test_write_discarded : run (.writeDiscarded .office [0x60]) shop = shop := by decide +kernel

theorem test_write_ignored : run (.writeIgnored .office []) shop = shop := by decide +kernel

theorem test_result_consumed :
    let t := run (.resultConsumed .payout) handed
    (t.ports.get .payout).phase = .ready ∧ t.dispenseTimer = some { limit := 90000 } := by
  decide +kernel

/-- A read that began before the port entered RESULT does not consume it, and one that a reset cut off in
STARTING reads EEh from its status byte on (R178, R180). -/
theorem test_result_read_too_early :
    let x : Transaction := ⟨.payout, .executing, false⟩
    let y : Transaction := ⟨.payout, .result, false⟩
    let t := run .resetNAsserted handed
    handed.readRow x 13 = none ∧ handed.readRow y 13 = some (.resultConsumed .payout) ∧
    handed.readByte x 1 = 0xEE ∧ handed.readByte y 1 = 0x30 ∧
    t.readByte (y.through t) 0 = 0xEE ∧ t.readRow (y.through t) 0 = none := by decide +kernel

/-- A port answers to its own address, 3Ch with the strap low, and not to the general call (R174). -/
theorem test_port_address :
    shop.address = 0x3C ∧ shop.opens .lane 0x3C = some ⟨.lane, .ready, false⟩ ∧
    shop.opens .lane 0x3D = none ∧ shop.opens .lane 0 = none ∧
    (run .powerOnReset { shop with addrStrap := true }).address = 0x3D := by decide +kernel

/-- A write that began in RESULT is discarded though the hold limit expires during it, and so is one that
began in READY and that a reset cut off (R176, R180). -/
theorem test_write_keeps_its_phase :
    let t := run (.resultHoldExpiry .payout) handed
    let r := run .scanComplete (run .resetNReleased (run .resetNAsserted shop))
    let x := (Transaction.mk .payout .result false).through t
    let y := (Transaction.mk .lane .ready false).through (run .resetNAsserted shop) |>.through r
    (t.ports.get .payout).phase = .ready ∧ x.acknowledgesData 1 = false ∧
    x.writeRow [0x30, 0x60] true = .writeDiscarded .payout [0x30, 0x60] ∧
    (r.ports.get .lane).phase = .ready ∧ y.acknowledgesData 1 = false ∧
    y.writeRow [0x60] true = .writeDiscarded .lane [0x60] ∧
    (Transaction.mk .lane .ready false).writeRow [0x60] true = .readFaults .lane [] := by decide +kernel

theorem test_result_hold_expiry :
    let t := run (.resultHoldExpiry .payout) handed
    t.orderState? 4 = some .ready ∧ t.Flagged .payout .resultLost ∧
    (tableGet t.settlements 0).map (·.marker) = some .owed := by decide +kernel

/-- 1.13, step 1: the counter stands at 412. -/
theorem test_open_docket :
    let t := run (.openDocket .lane [3, 0, 0, 7]) shop
    shown .lane t = [0x10, 0, 2, 0, 0x01, 0x9C] ∧ t.nextNumber = 413 ∧
    t.openDocket.get .l3 = some 412 := by decide +kernel

theorem test_open_docket_frozen :
    shown .lane (run (.openDocket .lane [3, 0, 0, 8]) shop) = [0x10, 0x1A, 0, 0] := by decide +kernel

/-- 1.13, step 3: REJECT of 2 under class 3. -/
theorem test_adjust_reject :
    shown .lane (run (.adjust .lane [0, 1, 3, 2, 0, 2]) shop) = [0x11, 0, 4, 0, 0, 39, 0, 2] := by
  decide +kernel

/-- 1.13, step 7: a CLOSING docket takes no ADJUST. -/
theorem test_adjust_closing :
    shown .lane (run (.adjust .lane [0, 3, 0, 1, 0, 1]) shop) = [0x11, 0x14, 0, 0] := by decide +kernel

/-- 1.13, step 6: WAITING on a pass in PRESENT. -/
theorem test_close_docket_waits :
    let t := run (.closeDocket .lane [1]) shop
    shown .lane t = [0x12, 0, 3, 0, 0, 2, 1] ∧ t.grace.get .l1 = some { limit := 10000 } := by
  decide +kernel

/-- Docket 1's 39 crates at 150 are paid to haulier 7. -/
theorem test_close_docket_settles :
    let t := run (.closeDocket .lane [0]) shop
    t.payoutOf 1 = 5850 ∧ t.orderQueue = [4, 1] ∧ t.hasEntry (.account 0) = true ∧
    t.Flagged .lane .docketDone := by decide +kernel

theorem test_void_docket :
    let t := run (.voidDocket .office [0, 2]) shop
    t.openDocket.get .l1 = none ∧ t.finished = [6, 2] := by decide +kernel

/-- Docket 6 has neither times, figures nor order: its tallies alone are present, bit 3 (R186). -/
theorem test_read_docket :
    (shown .payout (run (.readDocket .payout [0, 6]) shop)).take 12 =
      [0x14, 0, 74, 0x08, 0, 6, 3, 0, 0, 0, 5, 0] := by decide +kernel

theorem test_next_finished :
    (shown .office (run (.nextFinished .office []) shop)).take 6 = [0x15, 0, 74, 0x08, 0, 6] := by
  decide +kernel

theorem test_release_docket :
    let t := run (.releaseDocket .office [0, 6]) shop
    t.finished = [] ∧ t.docket? 6 = none := by decide +kernel

/-- 1.14, step 2: one UNRESOLVED outcome, and the close reason GRACE_EXPIRED. -/
theorem test_close_grace_expiry :
    let t := run (.closeGraceExpiry .l2) shop
    (t.docket? 3).map (·.closeReason) = some (some .graceExpired) ∧
    ((t.docket? 3).bind (·.tallies)).map (·.unresolved) = some 1 ∧
    (t.detectors.get .l2).state = .present := by decide +kernel

theorem test_take_order :
    let t := run (.takeOrder .payout []) shop
    t.orderState? 4 = some .offered ∧ (t.ports.get .payout).phase = .executing ∧
    t.program.map (·.record) = some (.settlement 0) := by decide +kernel

theorem test_take_order_locked :
    shown .payout (run (.takeOrder .payout []) { shop with lockout := true }) = [0x30, 0x20, 0, 0] := by
  decide +kernel

theorem test_dispense_limit_expiry :
    let t := run .dispenseLimitExpiry dispensing
    t.orderState? 4 = some .suspense ∧ t.orderQueue = [] ∧ t.lockout = true ∧
    (t.faults.get .payoutSuspense).count = 1 := by decide +kernel

/-- 90 paid for 100: PAYOUT_MISMATCH, and the float is lowered by what was paid (R49, R50). -/
theorem test_confirm_payout :
    let t := run (.confirmPayout .payout [0, 4, 0, 0, 0, 90]) dispensing
    t.float = 59910 ∧ t.finished = [6, 4] ∧ (t.faults.get .payoutMismatch).count = 1 ∧
    t.dispenseTimer = none := by decide +kernel

theorem test_resolve_suspense :
    let t := run (.resolveSuspense .office [0, 5, 0, 0, 0, 100]) shop
    t.float = 59900 ∧ t.orderState? 5 = some .paid ∧ tableGet t.settlements 1 = none := by
  decide +kernel

theorem test_resolve_suspense_not_paid :
    let t := run (.resolveSuspenseNotPaid .office [0, 5, 0xFF, 0xFF, 0xFF, 0xFF]) shop
    t.orderQueue = [5, 4] ∧ shown .office t = [0x32, 0, 2, 0, 0, 5] := by decide +kernel

/-- 10.5, step 1: float 80,000 at once, and the port waits. -/
theorem test_load_float :
    let t := run (.loadFloat .office [0x00, 0x00, 0x4E, 0x20]) shop
    t.float = 80000 ∧ (t.ports.get .office).phase = .executing := by decide +kernel

theorem test_read_float :
    shown .lane (run (.readFloat .lane []) dispensing) =
      [0x35, 0, 17, 1, 0, 0, 0xEA, 0x60, 0, 0, 0, 0, 0, 0x4E, 0x20, 0, 0, 0x9C, 0x40, 0, 4] := by
  decide +kernel

theorem test_report_dispenser_empty :
    let t := run (.reportDispenser .payout [1]) shop
    t.emptyCause = true ∧ t.Flagged .payout .floatOut := by decide +kernel

theorem test_report_dispenser_fault :
    let t := run (.reportDispenser .payout [3]) shop
    t.emptyCause = false ∧ (t.faults.get .dispenserFault).count = 1 ∧ t.lockout = false := by
  decide +kernel

/-- 10.5, steps 4 and 6: header 34h 00h 04h, then 00013880h. -/
theorem test_program_attempt_end :
    let t := run (.programAttemptEnd true) (loading .first)
    shown .office t = [0x34, 0, 4, 0, 0x00, 0x01, 0x38, 0x80] ∧ t.store.float = .valid 80000 := by
  decide +kernel

/-- A second failure freezes the account, and the office reads STORE_FAILED (R71). -/
theorem test_program_attempt_end_fails :
    let s := { rewriting .second with accounts := [(0, { haulier := 7 }), (1, { haulier := 8 })] }
    let t := run (.programAttemptEnd false) s
    (tableGet t.accounts 1).map (·.status) = some .frozen ∧ shown .office t = [0x42, 0x28, 0, 0] ∧
    (t.faults.get .storeVerify).count = 1 := by decide +kernel

theorem test_program_attempt_timeout :
    let t := run .programAttemptTimeout (loading .first)
    t.program.map (·.attempt) = some .second ∧ t.faults = {} := by decide +kernel

theorem test_account_add :
    let t := run (.accountAdd .office [0, 0x10, 0x15]) shop
    (tableGet t.accounts 2).map (·.haulier) = some 4117 ∧
    (t.ports.get .office).phase = .executing := by decide +kernel

theorem test_account_remove_busy :
    shown .office (run (.accountRemove .office [0, 0, 7]) shop) = [0x41, 0x14, 0, 0] := by
  decide +kernel

theorem test_account_remove :
    tableGet (run (.accountRemove .office [0, 0, 8]) shop).accounts 1 = none := by decide +kernel

theorem test_account_rewrite :
    (tableGet (run (.accountRewrite .office [0, 0, 8, 99]) shop).accounts 1).map
      (fun a => (a.carry, a.status)) = some (99, .active) := by decide +kernel

/-- A frozen account never settled: its last field is the commit state NONE, 1 (R78). -/
theorem test_account_read :
    shown .office (run (.accountRead .office [0, 0, 8]) shop) =
      [0x43, 0, 16, 0, 0, 0, 8, 2, 0, 0, 0, 0, 0, 0, 0, 0, 0, 0, 0, 1] := by decide +kernel

/-- One entry, the float record's, in its second attempt (R85). -/
theorem test_read_store :
    let s := { loading .second with ports := .all { phase := .ready, flags := 0 } }
    shown .office (run (.readStore .office []) s) = [0x44, 0, 8, 1, 1, 0, 0, 0, 0, 3, 2, 0] := by
  decide +kernel

/-- An upper bound below its lower bound is clamped up to it (R80). -/
theorem test_set_class :
    shown .office (run (.setClass .office [0, 1, 0, 10, 0, 5, 0, 1, 0, 2, 0, 3]) shop) =
      [0x50, 0, 11, 0, 1, 0, 10, 0, 10, 0, 1, 0, 2, 0, 3] := by decide +kernel

/-- FLOAT_LOW set is clamped to FLOAT_LOW clear (R58, R79): 65,536 above 40,000. -/
theorem test_set_param :
    shown .office (run (.setParam .office [6, 0, 1, 0, 0]) shop) =
      [0x51, 0, 4, 0, 0, 0, 0x9C, 0x40] := by decide +kernel

theorem test_set_param_mask :
    let s := { shop with faults := { dispenserFault := { count := 1, times := some (1, 1) } } }
    (run (.setParam .office [11, 0, 0, 0, 0x10]) s).lockout = true := by decide +kernel

/-- T_out_IND 5,000 is clamped to T_in_IND 300 (R79). -/
theorem test_set_lane :
    shown .office (run (.setLane .office [1, 4, 0x13, 0x88]) shop) = [0x52, 0, 2, 0, 0x01, 0x2C] := by
  decide +kernel

theorem test_store_settings :
    (run (.storeSettings .office []) shop).program.map (·.record) = some .settings := by decide +kernel

theorem test_read_class :
    shown .lane (run (.readClass .lane [3]) shop) =
      [0x26, 0, 11, 0, 1, 0, 0, 0, 100, 0x03, 0x20, 0x03, 0xE8, 0, 150] := by decide +kernel

theorem test_lane_enable_off :
    let t := run (.laneEnable .lane [3, 0]) shop
    shown .lane t = [0x20, 0, 2, 0, 0, 1] ∧ t.Flagged .lane .laneState := by decide +kernel

theorem test_lane_enable_busy :
    shown .lane (run (.laneEnable .lane [0, 0]) shop) = [0x20, 0x17, 0, 0] := by decide +kernel

theorem test_tune_lane :
    let t := run (.tuneLane .lane [3]) shop
    shown .lane t = [0x21, 0, 1, 0, 3] ∧ (t.detectors.get .l3).tuneCount = 0 := by decide +kernel

/-- A pass that RESEED ends is UNRESOLVED, booked to docket 2 (R108). -/
theorem test_reseed_lane :
    let t := run (.reseedLane .lane [1]) shop
    (t.detectors.get .l1).state = .idle ∧
    ((t.docket? 2).bind (·.tallies)).map (·.unresolved) = some 1 := by decide +kernel

/-- State 6 of Table 5-1, enabled, ON_DOCKET, no lane stop, an open docket: docket 1. -/
theorem test_read_lane :
    (shown .lane (run (.readLane .lane [0]) shop)).take 11 =
      [0x23, 0, 26, 0x01, 6, 1, 2, 0, 1, 0, 1] := by decide +kernel

theorem test_read_stray :
    let s := { shop with strays := shop.strays.set .l1 { unresolved := 3, since := 5 } }
    (shown .office (run (.readStray .office [1]) s)).drop 28 = [0, 0, 0, 3, 0, 0, 0, 0, 5] := by
  decide +kernel

theorem test_clear_stray :
    let s := { shop with strays := shop.strays.set .l1 { unresolved := 3 } }
    (run (.clearStray .office [1]) s).strays.get .l1 = { since := 30600 } := by decide +kernel

theorem test_read_link_stats :
    let s := turning .sample .listening keg { missRun := 2, stats := { crc := 5 } }
    let t := run (.readLinkStats .office [1]) s
    (t.links.get .l1).stats = { since := 30600 } ∧ (t.links.get .l1).missRun = 2 ∧
    (shown .office t).take 10 = [0x27, 0, 23, 2, 0, 0, 0, 0, 0, 5] := by decide +kernel

theorem test_read_faults :
    (shown .lane (run (.readFaults .lane []) shop)) =
      [0x60, 0, 13, 0, 0, 0, 0, 0, 0, 0, 0, 0, 0x4E, 0x4E, 0, 1, 1] := by decide +kernel

theorem test_clear_faults_suspense :
    shown .office (run (.clearFaults .office []) shop) = [0x61, 0x26, 0, 0] := by decide +kernel

/-- READ_EVENTS leaves RESET set and clears the rest (R183). -/
theorem test_read_events :
    let s := { shop with ports := shop.ports.set .office { phase := .ready, flags := 0x0003 } }
    let t := run (.readEvents .office []) s
    shown .office t = [0x70, 0, 4, 0, 0, 3, 0x03, 0xFF] ∧ (t.ports.get .office).flags = 1 := by
  decide +kernel

theorem test_ack_reset :
    let s := { shop with ports := shop.ports.set .lane { phase := .ready, flags := 0x0003 } }
    (((run (.ackReset .lane []) s).ports.get .lane).flags) = 2 := by decide +kernel

theorem test_line_free :
    let t := run .lineFree (turning .sample .watching keg {})
    t.turn.map (·.phase) = some .calling ∧ t.pins.glDe = true := by decide +kernel

theorem test_line_stuck :
    let t := run .lineStuck (turning .sample .watching keg {})
    (t.links.get .l1).stats.lineStuck = 1 ∧ t.turn.map (·.lane) = some .l2 := by decide +kernel

theorem test_echo :
    ((run .echo (turning .sample .calling keg {})).links.get .l1).stats.echo = 1 := by decide +kernel

theorem test_call_sent :
    let t := run .callSent (turning .sample .calling keg {})
    t.turn.map (·.phase) = some .listening ∧ t.pins.glDe = false := by decide +kernel

/-- 5.15: the second miss of a run is a held sample, and dwell goes on. -/
theorem test_no_answer_held :
    let t := run .noAnswer (turning .sample .listening keg { missRun := 1 })
    (t.links.get .l1).missRun = 2 ∧ (t.links.get .l1).stats.noAnswer = 1 := by decide +kernel

theorem test_answer_timeout :
    ((run .answerTimeout (turning .sample .listening keg {})).links.get .l1).stats.answerTimeout = 1 := by
  decide +kernel

/-- A fresh sample ends the miss run and stands as the last fresh one (R152, R154). -/
theorem test_answer_complete :
    let t := run (.answerComplete readyAnswer) (turning .sample .listening keg { missRun := 2 })
    (t.links.get .l1).missRun = 0 ∧ (t.links.get .l1).lastSeq = some 9 ∧
    (t.detectors.get .l1).lastRaw = .all 20000 := by decide +kernel

/-- 7.10: the first row passes the band check, the second fails it on CAP. -/
theorem test_answer_band :
    let a := run (.answerComplete tunedAnswer) (turning .sample .listening (tuning 40) {})
    let b := run (.answerComplete offBandAnswer) (turning .sample .listening (tuning 40) {})
    (a.detectors.get .l1).state = .settling ∧
    (a.detectors.get .l1).baseline = ⟨342400, 352000, 288000⟩ ∧
    (b.detectors.get .l1).tuneFailure = some ⟨.band, ⟨false, true, false⟩⟩ := by decide +kernel

/-- The 200th miss in a run opens the silent episode (R156). -/
theorem test_gate_silent :
    let t := run (.gateSilent .noAnswer) (turning .sample .listening keg { silentRun := 199 })
    (t.links.get .l1).silentOpen = true ∧ (t.faults.get .gateSilent).count = 1 ∧
    t.faults.silentLanes = ⟨false, true, false, false⟩ := by decide +kernel

theorem test_tune_limit :
    let t := run (.tuneLimit .noAnswer) (turning .sample .listening (tuning 254) {})
    (t.detectors.get .l1).tuneFailure = some ⟨.limit, .all false⟩ ∧ t.Flagged .lane .tuneError := by
  decide +kernel

/-- 5.15: the third miss takes lane 0 past H = 2; the keg is UNRESOLVED to its docket. -/
theorem test_lost :
    let t := run (.lost .noAnswer) (turning .sample .listening keg { missRun := 2 })
    (t.detectors.get .l1).state = .lost ∧ t.pins.lstop.get .l1 = true ∧
    ((t.docket? 2).bind (·.tallies)).map (·.unresolved) = some 1 := by decide +kernel

/-- Dwell 1,199 becomes 1,200, the jam limit (R97). -/
theorem test_jam :
    let d : Detector :=
      { state := .present, filtered := .all 21000, lastRaw := .all 21000, baseline := .all 320000,
        pass := { dwell := 1199 }, freeze := some ⟨20000, 20000, 20000⟩ }
    let t := run (.jam .noAnswer) (turning .sample .listening d {})
    (t.detectors.get .l1).jam = true ∧ t.Flagged .lane .jam := by decide +kernel

theorem test_power_loss :
    let t := run .powerLoss { shop with store := { float := .valid 5 } }
    t.mode = .unpowered ∧ t.store.float = .valid 5 ∧ t.dockets = [] := by decide +kernel

/-- The ports open, enabled lanes go to CONFIGURING, and lane 0 has the first turn (R147, R189). -/
theorem test_scan_complete :
    let g : Settings := { lanes := .all { enable := true } }
    let t := run .scanComplete { run .powerOnReset base with settings := g }
    t.mode = .running ∧ (t.detectors.get .l3).state = .configuring ∧ t.turn.map (·.lane) = some .l0 ∧
    t.turn.map (·.kind) = some .config := by decide +kernel

/-- An order restored and a blank float record: at SCAN_COMPLETE the head is larger than the float, and
FLOAT_OUT is raised beside FLOAT_LOW and ORDER_READY (R59, R61). -/
theorem test_scan_complete_short :
    let m : Store := { settlements := [(3, .valid ⟨5, .l3, 7, 5, owed100, .owed⟩)] }
    let t := run .scanComplete (run .powerOnReset { base with store := m })
    t.orderQueue = [5] ∧ t.shortCause = true ∧ (t.ports.get .payout).flags = 0x000F := by
  decide +kernel

/-- A tick on an empty queue counts toward the next second and the close grace. -/
theorem test_tick :
    let t := shop.tick
    t.subSecond = 1 ∧ t.pending = [] ∧ t.grace.get .l2 = some { limit := 10000, elapsed := 1 } := by
  decide +kernel

/-! ### Witnesses: for each statement with hypotheses, what meets them, clause by clause -/

theorem base_fits : base.Fits := by constructor <;> decide +kernel
theorem shop_fits : shop.Fits := by constructor <;> decide +kernel
theorem handed_fits : handed.Fits := by constructor <;> decide +kernel
theorem dispensing_fits : dispensing.Fits := by constructor <;> decide +kernel
theorem loading_fits : (loading .first).Fits := by constructor <;> decide +kernel
theorem loading2_fits : (loading .second).Fits := by constructor <;> decide +kernel
theorem rewriting_fits : (rewriting .second).Fits := by constructor <;> decide +kernel

theorem lines_ruled : base.PinsRuled ∧ shop.PinsRuled ∧ handed.PinsRuled ∧ dispensing.PinsRuled := by
  decide +kernel

theorem witness_EmptyQueueTicks : (shop.pending = [] ∧ shop.mode ≠ .unpowered ∧ shop.active = true) ∧
    (State.reset.pending = [] ∧ State.reset.active = false) ∧
    (run .powerLoss shop).pending = [] ∧ (run .powerLoss shop).mode = .unpowered := by decide +kernel

theorem witness_FramesDecodeToTheirRows :
    (Instr.openDocket .lane [4]).wf = true ∧
    encodeWrite (.openDocket .lane [4]) = some (.lane, [0x10, 4]) := by decide

/-- States in which each row of log entry 5 has nothing to do. -/
theorem witness_NothingStopsThePart :
    shop.turn = none ∧ (turning .sample .calling keg {}).turn.map (·.phase) = some .calling ∧
    (turning .sample .listening keg {}).turn.map (·.kind) = some .sample ∧
    ([] : List AnswerChar).length ≠ answerLength .sample ∧ shop.grace.get .l0 = none ∧
    shop.dispenseTimer = none ∧ (shop.ports.get .lane).phase ≠ .result ∧ shop.program = none ∧
    shop.mode ≠ .scanning ∧ shop.mode ≠ .resetHeld ∧ shop.mode ≠ .draining ∧
    (run .powerLoss shop).mode = .unpowered ∧
    shop.verdictOf .noAnswer = none ∧
    (let s := turning .sample .listening keg {}
     ∃ x v, s.verdictOf .noAnswer = some (x, v) ∧ opensEpisode s x v = false ∧
       reachesTuneLimit s x v = false ∧ losesLane s x v = false ∧ raisesJam s x v = false) := by
  refine ⟨rfl, rfl, rfl, by decide, rfl, rfl, by decide, rfl, by decide, by decide, by decide, rfl, rfl, ?_⟩
  exact ⟨turn1 .sample .listening, .miss .noAnswer, by decide +kernel⟩

theorem witness_StepKeepsTheLinesRuled : shop.PinsRuled ∧ step shop = .next shop.tick :=
  ⟨by decide +kernel, rfl⟩

/-- The hypotheses of StepKeepsPortsFit, StepKeepsTablesFit, StepKeepsQueueFit, StepKeepsDocketsFit,
StepKeepsOrdersFit and StepKeepsConditionsFit. -/
theorem witness_StepKeeps : shop.Fits ∧ step shop = .next shop.tick := ⟨shop_fits, rfl⟩

/-- The program of settlement record 0 on which order 4, PENDING_COMMIT, waits. -/
def pendingOrder : State :=
  (programming .lane (.settlement 0) (.settlement (some ⟨4, .l3, 7, 5, owed100, .owed⟩)) .first
    (.order 4)).setOrderState 4 .pendingCommit

theorem pendingOrder_fits : pendingOrder.Fits := by constructor <;> decide +kernel

/-- A step that makes the head READY, and one that sets the empty cause. -/
theorem witness_StepKeepsConditionsFit :
    let s := { pendingOrder with pending := [.programAttemptEnd true] }
    let u := { shop with pending := [.reportDispenser .payout [1]] }
    let a := run (.programAttemptEnd true) pendingOrder
    let b := run (.reportDispenser .payout [1]) shop
    (s.Fits ∧ s.active = true ∧ step s = .next a ∧ a.mode = s.mode ∧ s.headReady = false ∧
      a.headReady = true) ∧
    u.Fits ∧ u.active = true ∧ step u = .next b ∧ b.mode = u.mode ∧ b.emptyCause ≠ u.emptyCause :=
  ⟨⟨by constructor <;> decide +kernel, rfl, rfl, by decide +kernel⟩,
    by constructor <;> decide +kernel, rfl, rfl, by decide +kernel⟩

/-- A step that changes the short cause: the float falls below the head's payout. -/
theorem witness_StepKeepsConditionsFit_short :
    let u : State := { shop with float := 150 }
    let b := run (.resolveSuspense .office [0, 5, 0, 0, 0, 100]) u
    u.Fits ∧ step { u with pending := [.resolveSuspense .office [0, 5, 0, 0, 0, 100]] } = .next b ∧
    b.mode = u.mode ∧ b.shortCause ≠ u.shortCause :=
  ⟨by constructor <;> decide +kernel, rfl, by decide +kernel⟩

theorem witness_StepKeepsQueueFit : (loading .first).QueueFits := by decide +kernel

/-- A step that closes a docket: its tallies stand and its figures are new. -/
theorem witness_StepKeepsCountsFit :
    let i := Instr.closeDocket .lane [0]
    { shop with pending := [i] }.CountsFit ∧
    step { shop with pending := [i] } = .next (run i shop) ∧
    (run i shop).dockets ≠ shop.dockets :=
  ⟨by decide +kernel, rfl, by decide +kernel⟩

theorem witness_LinesFollowTheirRules :
    (shop.PinsRuled ∧ shop.Fits ∧ shop.mode = .running) ∧
    (State.reset.PinsRuled ∧ State.reset.Fits ∧ State.reset.mode = .scanning) :=
  ⟨⟨by decide +kernel, shop_fits, rfl⟩, by decide +kernel, by constructor <;> decide +kernel, rfl⟩

/-- The same with RESET_N held low, at its own event and at a power-on reset. -/
theorem witness_LinesFollowTheirRules_held :
    let s := run .resetNAsserted shop
    let t := run .powerOnReset (run .powerLoss s)
    (s.PinsRuled ∧ s.Fits ∧ s.mode ≠ .unpowered ∧ s.resetLow = true) ∧
    (t.PinsRuled ∧ t.Fits ∧ t.mode ≠ .unpowered ∧ t.resetLow = true) :=
  ⟨⟨by decide +kernel, by constructor <;> decide +kernel, by decide +kernel⟩, by decide +kernel,
    by constructor <;> decide +kernel, by decide +kernel⟩

theorem witness_OnlyProgramsChangeTheStore :
    exec (.programAttemptEnd true) (loading .first) = .next (run (.programAttemptEnd true) (loading .first)) ∧
    (run (.programAttemptEnd true) (loading .first)).store ≠ (loading .first).store :=
  ⟨rfl, by decide +kernel⟩

theorem witness_OnlyTheseChangeFloatAndTime :
    (Instr.yardSecond).wf = true ∧ exec .yardSecond shop = .next (run .yardSecond shop) ∧
    (run .yardSecond shop).yardTime ≠ shop.yardTime ∧
    exec .powerLoss shop = .next (run .powerLoss shop) ∧ (run .powerLoss shop).float ≠ shop.float :=
  ⟨rfl, rfl, by decide +kernel, rfl, by decide +kernel⟩

theorem witness_RefusedCommandsChangeNothing :
    let i := Instr.clearFaults .office []
    shop.PinsRuled ∧ i.command? = some (.office, .clearFaults, []) ∧
    (shop.ports.get .office).phase = .ready ∧ exec i shop = .next (run i shop) ∧
    ((run i shop).ports.get .office).phase = .result ∧
    ((run i shop).ports.get .office).result = CommandCode.clearFaults.byte :: 0x26 :: [0, 0] :=
  ⟨by decide +kernel, rfl, rfl, rfl, by decide +kernel, by decide +kernel⟩

theorem witness_PortsCheckWrites :
    shop.PinsRuled ∧ (shop.ports.get .lane).phase = .ready ∧ CommandCode.ofByte 0x0F = none ∧
    CommandCode.ofByte 0x12 = some .closeDocket ∧ CommandCode.closeDocket.permitted .payout = false ∧
    CommandCode.closeDocket.permitted .lane = true ∧
    ([] : List Byte).length ≠ CommandCode.closeDocket.paramBytes ∧
    (handed.ports.get .payout).phase = .result ∧ ((loading .first).ports.get .office).phase = .executing ∧
    (State.reset.ports.get .lane).phase = .starting ∧ shop.address = 0x3C ∧
    handed.address = 0x3C ∧ (0x3D : BitVec 7) ≠ shop.address ∧ (0x3C : BitVec 7) ≠ 0 := by
  decide +kernel

/-- Steps by which a port leaves READY: its own command, a code that is none, and a reset. -/
theorem witness_PortsCheckWrites_leaving :
    ∀ i ∈ [Instr.readClass .lane [3], .invalidCommand .lane 0x0F [], .softReset .office []],
      exec i shop = .next (run i shop) ∧ ((run i shop).ports.get .lane).phase ≠ .ready := by
  intro i h
  simp only [List.mem_cons, List.not_mem_nil, or_false] at h
  obtain rfl | rfl | rfl := h <;> exact ⟨rfl, by decide +kernel⟩

theorem witness_ConsumedResultFreesThePort :
    (handed.ports.get .payout).phase = .result ∧ (handed.ports.get .payout).holdsTake = true ∧
    handed.dispenseTimer = none ∧
    (∃ d ∈ handed.dockets, ∃ o ∈ d.order, o.state = .dispensing) ∧
    ((run (.readClass .lane [3]) shop).ports.get .lane).phase = .result ∧
    ((run (.readClass .lane [3]) shop).ports.get .lane).holdsTake = false := by decide +kernel

theorem witness_UnreadResultsAreLost :
    (handed.ports.get .payout).phase = .result ∧ handed.Fits ∧
    (handed.ports.get .payout).holdsTake = true ∧ handed.dispenseTimer = none ∧
    handed.orderState? 4 = some .dispensing ∧ handed.settlementOf 4 = some 0 ∧
    ((run (.readClass .lane [3]) shop).ports.get .lane).phase = .result ∧
    ((run (.readClass .lane [3]) shop).ports.get .lane).holdsTake = false :=
  ⟨by decide +kernel, handed_fits, by decide +kernel⟩

theorem witness_EventCommands :
    shop.Takes .lane .readEvents [] ∧ shop.Takes .office .ackReset [] := by decide +kernel

theorem witness_ReadTransactions :
    (State.reset.ports.get .lane).phase = .starting ∧ (shop.ports.get .lane).phase = .ready ∧
    ((loading .first).ports.get .office).phase = .executing ∧
    (handed.ports.get .payout).phase = .result ∧ (handed.ports.get .payout).result.length = 13 ∧
    (handed.ports.get .payout).result[12]? = some 100 ∧
    handed.acknowledges .payout 0x3C = true ∧ handed.acknowledges .payout 0x3D = false ∧
    State.reset.acknowledges .payout 0x3C = false ∧
    ((run (.resultHoldExpiry .payout) handed).ports.get .payout).phase ≠ .result := by decide +kernel

theorem witness_ReadsAnswerAndChangeNothing :
    shop.PinsRuled ∧ (shop.Takes .lane .readDocket [0, 1] ∧ (shop.docket? 1).isSome = true) ∧
    (shop.Takes .office .nextFinished [] ∧ shop.finished = [6] ∧ (shop.docket? 6).isSome = true) ∧
    (shop.Takes .lane .readLane [3] ∧ lane? (field [3] 0 1) = some .l3) ∧
    shop.Takes .office .readStray [3] ∧
    (shop.Takes .payout .readClass [11] ∧ class? (field [11] 0 1) = some 11) ∧
    shop.Takes .lane .readFloat [] ∧
    (shop.Takes .office .accountRead [0, 0, 8] ∧ (shop.account? (field [0, 0, 8] 0 3)).isSome = true) ∧
    shop.Takes .office .readStore [] ∧ shop.Takes .payout .readFaults [] := by decide +kernel

/-- The refusals, each at the first value out of range. -/
theorem witness_ReadsAnswerAndChangeNothing_refused :
    (shop.Takes .lane .readDocket [0, 7] ∧ shop.docket? (field [0, 7] 0 2) = none) ∧
    (shop.Takes .lane .readLane [4] ∧ 3 < field [4] 0 1) ∧ shop.Takes .office .readStray [4] ∧
    (shop.Takes .payout .readClass [12] ∧ 11 < field [12] 0 1) ∧
    (shop.Takes .office .accountRead [0, 0, 0] ∧ field [0, 0, 0] 0 3 = 0) ∧
    (shop.Takes .office .accountRead [0, 0, 9] ∧ 0 < field [0, 0, 9] 0 3 ∧
      shop.account? (field [0, 0, 9] 0 3) = none) := by decide +kernel

/-- The yard with all sixteen slots taken. -/
def full : State :=
  { shop with dockets := shop.dockets ++ (List.range 10).map fun k =>
      { number := 20 + k, lane := .l3, haulier := 0, state := .voided } }

theorem witness_OpenDocketChecksAndOpens :
    (shop.PinsRuled ∧ shop.Takes .lane .openDocket [4, 0, 0, 0] ∧
      lane? (field [4, 0, 0, 0] 0 1) = none) ∧
    (lane? (field [1, 0, 0, 0] 0 1) = some .l1 ∧ (shop.detectors.get .l1).state ≠ .idle) ∧
    ((shop.settings.lanes.get .l0).enable = true ∧ (shop.detectors.get .l0).state = .idle ∧
      (shop.openDocket.get .l0).isSome = true) ∧
    (full.PinsRuled ∧ (full.settings.lanes.get .l3).enable = true ∧
      (full.detectors.get .l3).state = .idle ∧ full.openDocket.get .l3 = none ∧
      full.dockets.length = 16) ∧
    (shop.openDocket.get .l3 = none ∧ shop.dockets.length < 16 ∧ field [3, 0, 0, 9] 1 3 ≠ 0 ∧
      shop.account? (field [3, 0, 0, 9] 1 3) = none) ∧
    ((shop.account? (field [3, 0, 0, 8] 1 3)).map (·.2.status) = some .frozen) ∧
    field [3, 0, 0, 0] 1 3 = 0 ∧
    ((shop.account? (field [3, 0, 0, 7] 1 3)).map (·.2.status) = some .active) := by decide +kernel

theorem witness_AdjustChecksAndCounts :
    (shop.PinsRuled ∧ shop.Takes .lane .adjust [0, 1, 12, 1, 0, 1] ∧
      class? (field [0, 1, 12, 1, 0, 1] 2 1) = none) ∧
    (field [0, 1, 11, 3, 0, 1] 3 1 = 3) ∧ (field [0, 1, 11, 1, 0x27, 0x10] 4 2 = 10000) ∧
    (class? (field [0, 1, 11, 1, 0x27, 0x0F] 2 1) = some 11 ∧
      field [0, 1, 11, 1, 0x27, 0x0F] 4 2 = 9999) ∧
    shop.docket? (field [0, 99, 11, 1, 0, 1] 0 2) = none ∧
    ((shop.docket? (field [0, 3, 11, 1, 0, 1] 0 2)).map (·.state) = some .closing) ∧
    ((shop.docket? 1).bind (·.tallies)).map (fun t => (t.accepted[3], t.rejected[3])) = some (39, 0) := by
  decide +kernel

theorem witness_CloseDocketWaitsOrCompletes :
    (shop.PinsRuled ∧ shop.Takes .lane .closeDocket [4] ∧ lane? (field [4] 0 1) = none) ∧
    (lane? (field [3] 0 1) = some .l3 ∧ shop.laneDocket .l3 = none) ∧
    ((shop.laneDocket .l2).map (·.state) = some .closing) ∧
    ((shop.laneDocket .l1).map (·.state) = some .open ∧ (shop.detectors.get .l1).state = .present) ∧
    ((shop.laneDocket .l0).map (·.state) = some .open ∧ (shop.detectors.get .l0).state = .idle ∧
      (shop.laneDocket .l0).map (·.haulier) = some 7 ∧ (shop.account? 7).isSome = true) := by
  decide +kernel

theorem witness_CloseGraceExpiryCloses :
    shop.Fits ∧ shop.active = true ∧ shop.grace.get .l2 = some { limit := 10000 } ∧
    (shop.laneDocket .l2).map (fun d => (d.state, d.tallies, d.closedAt, d.haulier)) =
      some (.closing, some {}, some 20, 0) := ⟨shop_fits, by decide +kernel⟩

/-- The same with the docket's passes at their ceiling. -/
theorem witness_CloseGraceExpiryCloses_ceiling :
    let s := shop.updateDocket 3 fun d => { d with tallies := some { passes := 4294967295 } }
    s.Fits ∧ ((s.laneDocket .l2).bind (·.tallies)).map (·.passes) = some 4294967295 :=
  ⟨by constructor <;> decide +kernel, by decide +kernel⟩

theorem witness_TalliesTakeOutcomes :
    ({ passes := 4294967295 } : Tallies).take .foreign = none ∧
    ({ passes := 4294967294 } : Tallies).passes < 4294967295 ∧
    ({ accepted := Vector.replicate 12 9998 } : Tallies).accepted[0] < 9999 ∧
    9999 ≤ ({ accepted := Vector.replicate 12 9999 } : Tallies).accepted[0] := by decide +kernel

theorem witness_VoidAndReleaseDockets :
    (shop.PinsRuled ∧ shop.Takes .office .voidDocket [0, 2] ∧ shop.Takes .office .nextFinished [] ∧
      shop.Takes .office .releaseDocket [0, 6]) ∧
    shop.docket? (field [0, 99] 0 2) = none ∧
    ((shop.docket? (field [0, 4] 0 2)).map (·.state) = some .awaitingPayout) ∧
    ((shop.docket? (field [0, 2] 0 2)).map (·.state) = some .open) ∧
    ((shop.docket? (field [0, 6] 0 2)).map (·.state) = some .nilPayout) ∧ base.finished = [] := by
  decide +kernel

theorem witness_SettlementFigures :
    0 < (settling 500000).settings.roundUnit ∧ (settling 500000).account? 4117 ≠ none ∧
    34297 ≤ 500000 / 20 * 20 ∧ 30010 / 20 * 20 < 34297 := by decide +kernel

theorem witness_TakeOrderOffersTheHead :
    (shop.PinsRuled ∧ shop.Takes .payout .takeOrder [] ∧ shop.lockout = false ∧ shop.inHand? = none ∧
      shop.orderQueue = [4] ∧ shop.orderState? 4 = some .ready ∧ shop.emptyCause = false ∧
      shop.payoutOf 4 = 100 ∧ shop.float = 60000) ∧
    dispensing.inHand?.isSome = true ∧ base.orderQueue = [] ∧
    (shop.setOrderState 4 .pendingCommit).orderState? 4 = some .pendingCommit ∧
    (run (.reportDispenser .payout [1]) shop).emptyCause = true ∧
    ({ shop with float := 99 } : State).float < shop.payoutOf 4 ∧
    (run .dispenseLimitExpiry dispensing).lockout = true := by decide +kernel

theorem witness_DispenseLimitSuspends :
    dispensing.Fits ∧ dispensing.active = true ∧ dispensing.dispenseTimer.isSome = true ∧
    dispensing.orderState? 4 = some .dispensing := ⟨dispensing_fits, by decide +kernel⟩

theorem witness_ConfirmedOrdersArePaid :
    (dispensing.PinsRuled ∧ dispensing.Takes .payout .confirmPayout [0, 4, 0, 0, 0, 90] ∧
      dispensing.Takes .office .resolveSuspense [0, 5, 0, 0, 0, 90]) ∧
    field [0, 4, 1, 0, 0, 0] 2 4 = 16777216 ∧ field [0, 4, 0, 0xFF, 0xFF, 0xFF] 2 4 = 16777215 ∧
    dispensing.docket? (field [0, 99, 0, 0, 0, 0] 0 2) = none ∧
    ((dispensing.docket? 1).bind (·.order)) = none ∧
    dispensing.orderState? 4 = some .dispensing ∧ dispensing.orderState? 5 = some .suspense ∧
    dispensing.settlementOf 4 = some 0 ∧ dispensing.settlementOf 5 = some 1 := by decide +kernel

theorem witness_ResolvedNotPaidReturns :
    (shop.PinsRuled ∧ shop.Takes .office .resolveSuspense [0, 5, 0xFF, 0xFF, 0xFF, 0xFF] ∧
      field [0, 5, 0xFF, 0xFF, 0xFF, 0xFF] 2 4 = 4294967295) ∧
    field [0, 5, 0xFF, 0xFF, 0xFF, 0xFE] 2 4 = 4294967294 ∧ shop.docket? 99 = none ∧
    ((shop.docket? 4).isSome = true ∧ shop.orderState? 4 ≠ some .suspense) ∧
    shop.orderState? 5 = some .suspense ∧ shop.settlementOf 5 = some 1 := by decide +kernel

theorem witness_LoadFloatRaisesTheFloat :
    shop.PinsRuled ∧ shop.Takes .office .loadFloat [0xFF, 0xFF, 0x15, 0x9F] ∧
    shop.float + field [0xFF, 0xFF, 0x15, 0x9F] 0 4 = 4294967295 ∧
    shop.float + field [0xFF, 0xFF, 0x15, 0xA0] 0 4 = 4294967296 ∧
    field [0, 0, 0, 0] 0 4 = 0 := by decide +kernel

theorem witness_ReportDispenserReports :
    shop.Fits ∧ shop.PinsRuled ∧ shop.Takes .payout .reportDispenser [4] ∧ field [1] 0 1 = 1 ∧
    field [2] 0 1 = 2 ∧ field [3] 0 1 = 3 ∧ field [0] 0 1 = 0 ∧ 3 < field [4] 0 1 :=
  ⟨shop_fits, by decide +kernel⟩

/-- The queue at its bound of account entries, with an account held. -/
def crowded : State :=
  { base with
    commitQueue := (List.range 21).map fun n => { record := .account n }, held := [30]
    program := some ⟨.account 0, .account none, .first, { limit := 15 }⟩ }

theorem witness_CommitRequestsMerge :
    crowded.hasEntry (.account 20) = true ∧ crowded.hasEntry (.account 30) = false ∧
    30 ∈ crowded.held ∧ 31 ∉ crowded.held ∧ 21 ≤ crowded.accountEntries ∧
    shop.accountEntries < 21 ∧ shop.hasEntry .float = false := by decide +kernel

theorem witness_ProgramsComplete :
    (loading .first).Fits ∧ (loading .first).program.isSome = true ∧ crowded.Fits :=
  ⟨loading_fits, rfl, by constructor <;> decide +kernel⟩

theorem witness_FailedAttemptsAreRepeated :
    (loading .first).program.map (·.attempt) = some .first ∧ (rewriting .second).Fits ∧
    (rewriting .second).program.map (·.attempt) = some .second ∧
    (∀ w ∈ (rewriting .second).waiters, w.isTake = false) ∧
    (rewriting .second).commitQueue.map (·.changed) = [false] ∧ (loading .second).Fits :=
  ⟨rfl, rewriting_fits, rfl, by decide, rfl, loading2_fits⟩

/-- The same with a held account, an ACTIVE account, and an entry marked changed. -/
theorem witness_FailedAttemptsAreRepeated_accounts :
    let s : State := { crowded with
      accounts := [(0, { haulier := 7 })]
      program := some ⟨.account 0, .account none, .second, { limit := 15 }⟩ }
    let u : State := { s with commitQueue := ⟨.account 0, false, true⟩ :: s.commitQueue.tail }
    s.Fits ∧ u.Fits ∧ s.held = [30] ∧ (tableGet s.accounts 0).map (·.status) = some .active :=
  ⟨by constructor <;> decide +kernel, by constructor <;> decide +kernel, by decide +kernel⟩

/-- The same with a TAKE_ORDER that waits on the record. -/
theorem witness_FailedAttemptsAreRepeated_take :
    let x : SettleRecord := ⟨4, .l3, 7, 5, owed100, .dispensing⟩
    let s := (programming .payout (.settlement 0) (.settlement (some x)) .second (.take 4)).setOrderState 4
      .offered
    s.Fits ∧ s.waiters.map (·.isTake) = [true] := ⟨by constructor <;> decide +kernel, by decide +kernel⟩

/-- The same with the OWED program of an order that SOFT_RESET handed back (R45). -/
theorem witness_FailedAttemptsAreRepeated_handBack :
    let x : SettleRecord := ⟨4, .l3, 7, 5, owed100, .owed⟩
    let s := drainFailing handed
    s.Fits ∧ s.handedBack = some 4 ∧ s.commitQueue.map (·.changed) = [false] ∧
    s.program.map (·.image) = some (.settlement (some x)) ∧
    s.program.map (·.attempt) = some .second :=
  ⟨by constructor <;> decide +kernel, by decide +kernel⟩

/-- The same with an OWED program over a record that the store holds DISPENSING (R44, R54), and one over a
record that it does not hold. -/
theorem witness_FailedAttemptsAreRepeated_barred :
    let x : SettleRecord := ⟨4, .l3, 7, 5, owed100, .owed⟩
    let g : Program := ⟨.settlement 0, .settlement (some x), .second, { limit := 15 }⟩
    let m : Store := { settlements := [(0, .valid { x with marker := .dispensing })] }
    let s : State := { pendingOrder with program := some g, waiters := [], store := m }
    s.Fits ∧ s.handedBack = none ∧ m.imageBarred g = true ∧ pendingOrder.store.imageBarred g = false :=
  ⟨by constructor <;> decide +kernel, by decide +kernel⟩

theorem witness_WaitersReceiveTheirOutcome :
    let w : Waiter := ⟨.float, true, .loadFloat 80000⟩
    (loading .second).Fits ∧ (loading .second).program.map (·.record) = some .float ∧
    w ∈ (loading .second).waiters ∧ w.begun = true ∧ w.kind.port = some .office ∧
    ((loading .second).ports.get .office).phase = .executing ∧ (loading .second).waiters = [w] :=
  ⟨loading2_fits, by decide +kernel⟩

/-- The same for a TAKE_ORDER and for an order, on settlement record 0. -/
theorem witness_WaitersReceiveTheirOutcome_orders :
    let x : SettleRecord := ⟨4, .l3, 7, 5, owed100, .dispensing⟩
    let s := (programming .payout (.settlement 0) (.settlement (some x)) .second (.take 4)).setOrderState 4
      .offered
    let u := (programming .lane (.settlement 0) (.settlement (some x)) .second (.order 4)).setOrderState 4
      .pendingCommit
    s.Fits ∧ u.Fits ∧ u.orderState? 4 = some .pendingCommit ∧ s.waiters.length = 1 :=
  ⟨by constructor <;> decide +kernel, by constructor <;> decide +kernel, by decide +kernel⟩

/-- An order that waits on two records, the second of them not yet programmed. -/
theorem witness_WaitersReceiveTheirOutcome_pending :
    let w : Waiter := ⟨.settlement 0, true, .order 4⟩
    let v : Waiter := ⟨.account 1, false, .order 4⟩
    let s : State := { pendingOrder with
      waiters := [w, v], commitQueue := pendingOrder.commitQueue ++ [{ record := .account 1 }] }
    s.Fits ∧ s.orderState? 4 = some .pendingCommit ∧ s.program.map (·.record) = some w.record ∧
    w ∈ s.waiters ∧ v ∈ s.waiters ∧
    (run (.programAttemptEnd true) s).orderState? 4 = some .pendingCommit ∧
    (∀ v ∈ pendingOrder.waiters, v.kind = .order 4 → v.begun = true ∧ v.record = .settlement 0) :=
  ⟨by constructor <;> decide +kernel, by decide +kernel⟩

theorem witness_AccountEditsCheckAndQueue :
    (shop.PinsRuled ∧ shop.Takes .office .accountAdd [0, 0, 9] ∧
      shop.Takes .office .accountRemove [0, 0, 8] ∧ shop.Takes .office .accountRewrite [0, 0, 8, 99]) ∧
    field [0, 0, 0] 0 3 = 0 ∧ (shop.account? 7).isSome = true ∧ shop.account? 9 = none ∧
    (tableGet shop.accounts 2 = none ∧ (∀ k < 2, tableGet shop.accounts k ≠ none) ∧
      shop.storeBusy 2 = false) ∧
    (crowded.hasEntry (.account 22) = false ∧ 21 ≤ crowded.accountEntries) ∧
    shop.haulierBusy 7 = true ∧ shop.haulierBusy 8 = false ∧ field [0, 0, 8, 100] 3 1 = 100 ∧
    shop.Fits := by
  refine ⟨?_, ?_, ?_, ?_, ?_, ?_, ?_, ?_, ?_, shop_fits⟩ <;> decide +kernel

/-- The account table full. -/
theorem witness_AccountEditsCheckAndQueue_full :
    let s := { base with accounts := (List.range 256).map fun n => (n, { haulier := n + 1 }) }
    s.account? 4117 = none ∧ lowestFree 256 s.accounts = none := by decide +kernel

theorem witness_SettingsCommandsSet :
    (shop.PinsRuled ∧ shop.Takes .office .setClass [11, 1, 0, 0, 0, 0, 0, 0, 0, 0, 0xEA, 0x60] ∧
      class? 11 = some 11 ∧ class? 12 = none ∧ onOff? 1 = some true ∧ onOff? 2 = none ∧
      field [11, 1, 0, 0, 0, 0, 0, 0, 0, 0, 0xEA, 0x60] 10 2 = 60000 ∧
      field [11, 1, 0, 0, 0, 0, 0, 0, 0, 0, 0xEA, 0x61] 10 2 = 60001) ∧
    (shop.Takes .office .setParam [1, 0, 0, 0, 60] ∧ (shop.settings.setParam 1 60).isSome = true ∧
      shop.settings.setParam 1 61 = none) ∧
    (shop.Takes .office .setLane [3, 6, 0, 8] ∧ lane? 3 = some .l3 ∧ lane? 4 = none ∧
      ((shop.settings.lanes.get .l3).setLane 6 8).isSome = true ∧
      (shop.settings.lanes.get .l3).setLane 6 9 = none) ∧
    (shop.Takes .office .storeSettings [] ∧ shop.program = none) ∧
    (pendingOrder.Takes .office .storeSettings [] ∧ pendingOrder.program.isSome = true ∧
      pendingOrder.hasEntry .settings = false) ∧
    (let s := programming .lane .settings (.settings {}) .first (.order 4)
     s.Takes .office .storeSettings [] ∧ s.hasEntry .settings = true) := by decide +kernel

theorem witness_SettingsRanges :
    ({} : Settings).setParam 11 0 = none ∧ (({} : Settings).setParam 14 0x3FF).isSome = true ∧
    ({} : Settings).setParam 14 0x400 = none ∧ (({} : LaneSettings).setLane 26 65535).isSome = true ∧
    ({} : LaneSettings).setLane 27 0 = none ∧ ({} : LaneSettings).setLane 13 15 = none ∧
    (({} : LaneSettings).setLane 13 16).isSome = true := by decide +kernel

theorem witness_MaskAndClearFaults :
    shop.PinsRuled ∧ shop.Takes .office .setParam [11, 0, 0, 0, 127] ∧
    field [11, 0, 0, 0, 127] 1 4 = 127 ∧ field [11, 0, 0, 0, 128] 1 4 = 128 ∧
    shop.Takes .office .clearFaults [] ∧ 0 < shop.suspenseCount ∧ base.suspenseCount = 0 ∧
    base.Takes .office .clearFaults [] ∧ base.mode = .running := by decide +kernel

theorem witness_FilterAndBaselineStayInRange :
    moveToward 0 65535 0 = 65535 ∧ moveToward 65535 0 1 = 32768 ∧
    stepBaseline { betaFast := 1 } 0 65535 = 524280 ∧
    (((20399 : Int) - ((320000 / 16 : Nat) : Int)).natAbs < ({} : LaneSettings).fastBand ∧
      ({} : LaneSettings).fastBand = ((20400 : Int) - ((320000 / 16 : Nat) : Int)).natAbs) ∧
    (({ state := .gap, freeze := some ⟨20000, 20000, 20000⟩ } : Detector).freeze.isSome = true) ∧
    LaneState.settling.counting = false ∧ LaneState.tuning.counting = false := by decide +kernel

/-- A detector in each counting state, and deltas on each side of its tests. -/
theorem witness_SamplesMoveTheDetector :
    let raw (n : Nat) : PerChan Nat := ⟨20000, n, 20000⟩
    let at_ (st : LaneState) : Detector :=
      { state := st, baseline := .all 320000, filtered := .all 20000,
        pass := { primary := some .cap, entryCount := 1, exitCount := 1, average := 20900,
                  snapshot := some 900, theta := some 337, fmin := 20100 },
        freeze := some ⟨20000, 20000, 20000⟩ }
    let x (st : LaneState) (n : Nat) := deltasOf train ((at_ st).track train (raw n))
    (entryCond train (x .idle 20100) = false ∧ entryCond train (x .idle 20300) = true ∧
      1 < train.entryLen ∧ ({ train with entryLen := 1 } : LaneSettings).entryLen ≤ 1) ∧
    (entryCond train (x .entering 20199) = false ∧ entryCond train (x .entering 20200) = true ∧
      train.entryLen ≤ (at_ .entering).pass.entryCount + 1 ∧
      (0 : Nat) + 1 < train.entryLen) ∧
    (exitCond train (x .present 20099) = true ∧ exitCond train (x .present 20100) = false ∧
      train.exitLen ≤ (at_ .present).pass.exitCount + 1 ∧ (0 : Nat) + 1 < train.exitLen) ∧
    (exitCond train (x .gap 20099) = true ∧ exitCond train (x .gap 20100) = false ∧
      (20100 : Nat) + 337 < 20438 ∧ (20437 : Nat) ≤ 20100 + 337) := by
  decide +kernel

/-- A PRESENT sample before the snapshot, on each side of the settle band, with the run short of S and at
S, and with the dwell at the jam limit. -/
theorem witness_SamplesMoveTheDetector_settles :
    let d (run dwell : Nat) : Detector :=
      { state := .present, baseline := .all 320000, filtered := .all 20000,
        pass := { primary := some .cap, average := 20900, settleRun := run, dwell := dwell },
        freeze := some ⟨20000, 20000, 20000⟩ }
    let r (n run dwell : Nat) := detect train (d run dwell) ⟨20000, n, 20000⟩
    train.settleLen = 2 ∧ (r 20900 1 40).detector.pass.snapshot = some 900 ∧
    (r 20900 0 40).detector.pass.settleRun = 1 ∧ (r 22900 1 40).detector.pass.settleRun = 0 ∧
    (r 20900 0 (train.jamLimit - 1)).jam = true ∧ (r 20900 0 (train.jamLimit - 2)).jam = false := by
  decide +kernel

/-- The split test on each side of θ. -/
theorem witness_SamplesMoveTheDetector_split :
    let d : Detector := { pass := { snapshot := some 900, theta := some 337 } }
    SplitHolds train d 20438 20100 ∧ ¬ SplitHolds train d 20437 20100 :=
  ⟨⟨rfl, rfl, 337, rfl, by decide⟩, fun ⟨_, _, t, h, k⟩ => by cases h; omega⟩

theorem witness_LaneEnableSwitches :
    (shop.Fits ∧ shop.PinsRuled) ∧ shop.Takes .lane .laneEnable [4, 1] ∧ field [4, 1] 0 1 = 4 ∧
    field [3, 2] 1 1 = 2 ∧ shop.Takes .lane .laneEnable [3, 1] ∧
    lane? (field [3, 1] 0 1) = some .l3 ∧ field [3, 1] 1 1 = 1 ∧ field [0, 0] 1 1 = 0 ∧
    (shop.openDocket.get .l0).isSome = true ∧ shop.openDocket.get .l3 = none ∧ shop.turn = none ∧
    shop.onLink .l3 = false ∧ (shop.detectors.get .l3).state ≠ .off ∧
    (base.detectors.get .l3).state = .off ∧
    (turning .sample .listening keg {}).onLink .l1 = true ∧
    (turning .sample .listening keg {}).turn.isSome = true :=
  ⟨⟨shop_fits, by decide +kernel⟩, by decide +kernel⟩

theorem witness_TuneLaneTunes :
    (shop.Fits ∧ shop.PinsRuled) ∧ shop.Takes .lane .tuneLane [3] ∧ lane? (field [4] 0 1) = none ∧
    (shop.openDocket.get .l0).isSome = true ∧ shop.openDocket.get .l3 = none ∧
    shop.enabled .l3 = true ∧ (shop.detectors.get .l3).state ≠ .configuring ∧
    base.openDocket.get .l3 = none ∧ base.enabled .l3 = false :=
  ⟨⟨shop_fits, by decide +kernel⟩, by decide +kernel⟩

theorem witness_TuneLaneTunes_configuring :
    let s := (shop.setDetector .l3 { state := .configuring }).drivePins
    s.Fits ∧ s.PinsRuled ∧ s.Takes .lane .tuneLane [3] ∧ (s.detectors.get .l3).state = .configuring :=
  ⟨by constructor <;> decide +kernel, by decide +kernel⟩

theorem witness_ReseedLaneReseeds :
    (shop.Fits ∧ shop.PinsRuled) ∧ shop.Takes .lane .reseedLane [3] ∧ lane? (field [4] 0 1) = none ∧
    (base.detectors.get .l3).state.counting = false ∧ (shop.detectors.get .l3).state = .idle ∧
    (shop.detectors.get .l1).state = .present ∧ (shop.laneDocket .l1).map (·.state) = some .open ∧
    (shop.detectors.get .l2).state = .present ∧
    (shop.laneDocket .l2).map (fun d => (d.state, d.closedAt)) = some (.closing, some 20) :=
  ⟨⟨shop_fits, by decide +kernel⟩, by decide +kernel⟩

theorem witness_ReseedLaneReseeds_other :
    let e := (shop.setDetector .l2 { state := .entering }).drivePins
    let f := (shop.setDetector .l3 { state := .present }).drivePins
    e.Fits ∧ (e.detectors.get .l2).state = .entering ∧ f.Fits ∧ f.laneDocket .l3 = none ∧
    (f.detectors.get .l3).state = .present :=
  ⟨by constructor <;> decide +kernel, by decide +kernel, by constructor <;> decide +kernel,
    by decide +kernel⟩

/-- Lanes under an OPEN and a CLOSING docket whose passes stand at the ceiling (R8). -/
theorem witness_ReseedLaneReseeds_ceiling :
    let tl : Tallies := { passes := 4294967295, overflow := 4294967295 }
    let s : State := { shop with
      dockets := shop.dockets.map fun d => { d with tallies := d.tallies.map fun _ => tl } }
    s.Fits ∧ (s.laneDocket .l1).map (·.state) = some .open ∧
    (s.laneDocket .l1).map (·.tallies) = some (some tl) ∧
    (s.laneDocket .l2).map (·.state) = some .closing ∧ tl.take .unresolved = none ∧
    ((run (.reseedLane .lane [1]) s).strays.get .l1).unresolved = 1 ∧
    (run (.reseedLane .lane [2]) s).finished = [6, 3] :=
  ⟨by constructor <;> decide +kernel, by decide +kernel⟩

theorem witness_ReadAndEmpty :
    shop.PinsRuled ∧ shop.Takes .office .clearStray [3] ∧ shop.Takes .office .readLinkStats [3] ∧
    lane? (field [3] 0 1) = some .l3 ∧ lane? (field [4] 0 1) = none := by decide +kernel

theorem witness_TurnsMoveOn :
    (turning .sample .watching keg {}).turn = some (turn1 .sample .watching) ∧
    (turning .sample .calling keg {}).turn = some (turn1 .sample .calling) ∧
    (turning .sample .calling keg {}).active = true := by decide +kernel

/-- A turn of lane 1 that a miss can end, in each place. -/
theorem witness_MissesEndTurns :
    let s (p : TurnPhase) := turning .sample p keg { missRun := 2, silentRun := 199 }
    (s .watching).Fits ∧ (s .calling).Fits ∧ (s .listening).Fits ∧
    (s .listening).StaysAtTurnEnd .l1 ∧ (s .listening).turn = some (turn1 .sample .listening) ∧
    (s .watching).turn.map (·.phase) = some .watching ∧ (s .calling).turn.map (·.phase) = some .calling :=
  ⟨by constructor <;> decide +kernel, by constructor <;> decide +kernel,
    by constructor <;> decide +kernel, by decide +kernel⟩

/-- A turn of lane 3, whose `LANE_ENABLE` off was deferred. -/
def leaving (p : TurnPhase) (d : Detector) : State :=
  ({ shop with
    turn := some ⟨.l3, .sample, 38400, callBytes .sample .l3 38400 (.all 20000), p, false⟩
    rotation := some .l3
    detectors := shop.detectors.set .l3 d
    settings := { shop.settings with
      lanes := shop.settings.lanes.set .l3 { enable := false } } } : State).drivePins

/-- The deferred off, with a pass under way that the turn's end resolves. -/
theorem witness_MissesEndTurns_off :
    (leaving .watching keg).Fits ∧ (leaving .calling keg).Fits ∧ (leaving .listening keg).Fits ∧
    (leaving .listening keg).enabled .l3 = false ∧ keg.state ≠ .off ∧
    (leaving .listening keg).openDocket.get .l3 = none :=
  ⟨by constructor <;> decide +kernel, by constructor <;> decide +kernel,
    by constructor <;> decide +kernel, by decide +kernel⟩

/-- A turn that outlasts the drain: its lane is in OFF. -/
theorem witness_MissesEndTurns_drained :
    let s := run .softResetDrainEnd (run (.softReset .office [])
      (turning .sample .listening keg {}))
    s.Fits ∧ s.mode = .scanning ∧ s.turn.map (·.lane) = some .l1 ∧ s.StaysAtTurnEnd .l1 :=
  ⟨by constructor <;> decide +kernel, by decide +kernel⟩

/-- A turn of lane 2, whose CLOSING docket waits on what the turn's end brings: a pass that goes LOST, and
an entry. -/
theorem witness_MissesEndTurns_closing :
    let s (d : Detector) : State := ({ shop with
      turn := some ⟨.l2, .sample, 38400, callBytes .sample .l2 38400 (.all 20000), .listening, false⟩
      rotation := some .l2
      detectors := shop.detectors.set .l2 d
      links := shop.links.set .l2 { missRun := 2 } } : State).drivePins
    (s keg).Fits ∧ (s { state := .entering }).Fits ∧
    ((s keg).laneDocket .l2).map (fun d => (d.state, d.closedAt, d.haulier)) =
      some (.closing, some 20, 0) ∧
    (run .noAnswer (s keg)).finished = [6, 3] ∧
    (run .noAnswer (s { state := .entering })).finished = [6, 3] :=
  ⟨by constructor <;> decide +kernel, by constructor <;> decide +kernel, by decide +kernel⟩

theorem witness_AnswersEndTurns :
    let s := turning .sample .listening keg {}
    s.Fits ∧ s.turn = some (turn1 .sample .listening) ∧ s.StaysAtTurnEnd .l1 ∧
    readyAnswer.length = answerLength .sample ∧
    judge (turn1 .sample .listening) readyAnswer = .accepted .ready 9 (.all 20000) ∧
    judge (turn1 .sample .listening) ((0, false) :: readyAnswer.drop 1) = .miss .framing :=
  ⟨by constructor <;> decide +kernel, by decide +kernel⟩

/-- SETTLING at its last sample, LOST at its last fresh sample, and IDLE with a baseline past the retune
band, under a docket. -/
theorem witness_AnswersEndTurns_states :
    let z : Detector := { state := .settling, settleCount := 15 }
    let q : Detector := { state := .lost, freshRun := 3 }
    let e : Detector := { state := .idle, baseline := .all 640000, filtered := .all 40000 }
    let s (d : Detector) := turning .sample .listening d {}
    (s z).Fits ∧ (s q).Fits ∧ (s e).Fits ∧ (s keg).Fits ∧
    (s z).settings.lanes.l1.settleSamples = 16 ∧ (s q).settings.lanes.l1.recovery = 4 ∧
    Drifts (s e).settings.lanes.l1 e.baseline ∧ ((s e).openDocket.get .l1).isSome = true :=
  ⟨by constructor <;> decide +kernel, by constructor <;> decide +kernel,
    by constructor <;> decide +kernel, by constructor <;> decide +kernel, by decide +kernel⟩

/-- FRESH, READY and NOT_READY answers of lane 3 at a deferred off. -/
theorem witness_AnswersEndTurns_off :
    let a (b : Byte) : List AnswerChar :=
      let bs : List Byte := [callByte .sample .l3, 9, b, 0x4E, 0x20, 0x4E, 0x20, 0x4E, 0x20]
      whole (bs ++ [crc bs])
    let x : Turn := ⟨.l3, .sample, 38400, callBytes .sample .l3 38400 (.all 20000), .listening, false⟩
    (leaving .listening keg).Fits ∧ (leaving .listening keg).turn = some x ∧
    judge x (a 5) = .accepted .fresh 9 (.all 20000) ∧
    judge x (a 1) = .accepted .ready 9 (.all 20000) ∧
    judge x (a 2) = .accepted .notReady 9 (.all 20000) ∧
    ((run (.answerComplete (a 1)) (leaving .listening keg)).detectors.get .l3).state = .off ∧
    ((run (.answerComplete (a 5)) (leaving .listening keg)).strays.get .l3).unresolved = 1 :=
  ⟨by constructor <;> decide +kernel, by decide +kernel⟩

theorem witness_NamedTurnEndsHappen :
    let s := turning .sample .listening keg { missRun := 2, silentRun := 199 }
    let u := turning .sample .listening (tuning 254) {}
    (s.Fits ∧ s.verdictOf .noAnswer = some (turn1 .sample .listening, .miss .noAnswer)) ∧
    (u.Fits ∧ u.verdictOf .noAnswer = some (turn1 .sample .listening, .miss .noAnswer)) ∧
    s.enabled .l1 = true ∧ (s.links.get .l1).silentOpen = false ∧ s.settings.silentLimit = 200 ∧
    (s.settings.lanes.get .l1).holdLimit = 2 ∧ (u.detectors.get .l1).tuneCount = 254 :=
  ⟨⟨by constructor <;> decide +kernel, by decide +kernel⟩,
    ⟨by constructor <;> decide +kernel, by decide +kernel⟩, by decide +kernel⟩

theorem witness_NamedTurnEndsHappen_jam :
    let d := { keg with pass := { primary := some .ind, dwell := 1199 } }
    let s := turning .sample .listening d { missRun := 1 }
    s.Fits ∧ s.verdictOf .noAnswer = some (turn1 .sample .listening, .miss .noAnswer) ∧
    s.verdictOf (.complete readyAnswer) =
      some (turn1 .sample .listening, .accepted .ready 9 (.all 20000)) ∧
    (s.detectors.get .l1).jam = false ∧ (s.settings.lanes.get .l1).jamLimit = 1200 ∧
    (s.links.get .l1).lastSeq ≠ some 9 :=
  ⟨by constructor <;> decide +kernel, by decide +kernel⟩

/-- A TUNE answer that brings the count to 255, and a lane in OFF while the part drains. -/
theorem witness_NamedTurnEndsHappen_tune :
    let bs : List Byte := [callByte .tune .l1, 1]
    let s := turning .tune .listening { tuning 254 with tuneAck := false } {}
    let u : State := { run (.softReset .office []) base with
      turn := some (turn1 .sample .listening), rotation := some .l1
      links := base.links.set .l1 { silentRun := 199 } }
    s.Fits ∧ s.verdictOf (.complete (whole (bs ++ [crc bs]))) =
      some (turn1 .tune .listening, .accepted .ready 0 (.all 0)) ∧
    (s.detectors.get .l1).tuneCount = 254 ∧ s.StaysAtTurnEnd .l1 ∧
    ((run (.tuneLimit (.complete (whole (bs ++ [crc bs])))) s).detectors.get .l1).state = .tuneFailed ∧
    u.Fits ∧ u.StaysAtTurnEnd .l1 ∧ (u.links.get .l1).silentRun = 199 ∧
    u.verdictOf .noAnswer = some (turn1 .sample .listening, .miss .noAnswer) :=
  ⟨by constructor <;> decide +kernel, by decide +kernel, by decide +kernel, by decide +kernel,
    by decide +kernel, by constructor <;> decide +kernel, by decide +kernel⟩

/-- A deferred off after a turn that is each of the four rows. -/
theorem witness_NamedTurnEndsHappen_off :
    let s (d : Detector) (l : LaneLink) : State :=
      ({ leaving .listening d with links := shop.links.set .l3 l } : State).drivePins
    let m : LaneLink := { missRun := 2, silentRun := 199 }
    let j : Detector := { keg with pass := { primary := some .ind, dwell := 1199 } }
    (s keg m).Fits ∧ (s (tuning 254) {}).Fits ∧ (s j { missRun := 1 }).Fits ∧
    (s keg m).EndsInOff .l3 ∧ (s (tuning 254) {}).EndsInOff .l3 ∧ (s j { missRun := 1 }).EndsInOff .l3 ∧
    (s keg m).settings.silentLimit = 200 ∧ ((s keg m).settings.lanes.get .l3).holdLimit = 2 ∧
    ((s j {}).settings.lanes.get .l3).jamLimit = 1200 ∧
    (s keg m).verdictOf .noAnswer =
      some (⟨.l3, .sample, 38400, callBytes .sample .l3 38400 (.all 20000), .listening, false⟩,
        .miss .noAnswer) :=
  ⟨by constructor <;> decide +kernel, by constructor <;> decide +kernel, by constructor <;> decide +kernel,
    by decide +kernel⟩

theorem witness_YardTimeAdvancesAndIsSet :
    shop.mode ≠ .unpowered ∧ shop.PinsRuled ∧ shop.Takes .office .setTime [0xFF, 0xFF, 0xFF, 0xFF] := by
  decide +kernel

theorem witness_ResetsDiscardAllButTheStore :
    (run .resetNAsserted (loading .first)).mode = .resetHeld ∧
    (run .resetNAsserted (loading .first)).program = none ∧ (loading .first).mode ≠ .unpowered ∧
    (loading .first).resetLow = false ∧ (run .resetNAsserted (loading .first)).resetLow = true := by
  exact ⟨rfl, rfl, by decide, rfl, rfl⟩

theorem witness_SoftResetDrainsThenScans :
    handed.Fits ∧ handed.Takes .office .softReset [] ∧ handed.orderState? 4 = some .dispensing ∧
    handed.dispenseTimer = none ∧ handed.settlementOf 4 = some 0 ∧ shop.inHand? = none ∧
    offered.Takes .office .softReset [] ∧ offered.orderState? 4 = some .offered ∧
    dispensing.Takes .office .softReset [] ∧ dispensing.dispenseTimer.isSome = true ∧
    (run (.softReset .office []) shop).mode = .draining ∧
    (run (.softReset .office []) shop).commitQueue = [] ∧
    ((run (.softReset .office []) shop).detectors.get .l0).state ≠ .off ∧
    (run (.softReset .office []) base).detectors = .all {} :=
  ⟨handed_fits, by decide +kernel⟩

theorem witness_SoftResetDrainsThenScans_offered : offered.Fits ∧ dispensing.Fits :=
  ⟨by constructor <;> decide +kernel, dispensing_fits⟩

/-- A store of one account and one settlement record. -/
def stored : Store :=
  { accounts := [(0, .valid { haulier := 7 })]
    settlements := [(3, .valid ⟨5, .l3, 7, 5, owed100, .dispensing⟩)] }

theorem stored_intact : stored.Intact := by
  refine ⟨fun n c h i => ?_, fun n c h i => ?_, nofun, nofun, nofun, fun n k a b h1 h2 _ => ?_,
    fun n k a b h1 h2 _ => ?_⟩ <;>
    simp only [stored, tableGet, List.find?] at * <;> (try split at h) <;> (try split at h1) <;>
    (try split at h2) <;> simp_all
  all_goals (subst h; simp)

theorem witness_ScanRebuildsWorkingCopies :
    let s := { run .resetNAsserted base with store := stored }
    s.store.Fits ∧ s.mode = .resetHeld ∧ s.program = none ∧ s.store.Intact :=
  ⟨by decide +kernel, rfl, rfl, stored_intact⟩

/-- The scan of records that are corrupt or repeated, at each event that scans the store. -/
theorem witness_ScanRebuildsWorkingCopies_scarred :
    let m : Store := { scarred with float := .corrupt 0, fault := .corrupt 0, settings := .corrupt 0 }
    let s := { run .resetNAsserted base with store := m }
    let u := { run (.softReset .office []) base with store := m }
    m.Fits ∧ (run .powerOnReset { s with resetLow := false }).store = m ∧ s.mode = .resetHeld ∧
    (run .resetNReleased s).store = m ∧ u.mode = .draining ∧ u.commitQueue = [] ∧ u.held = [] ∧
    u.program = none ∧ (run .softResetDrainEnd u).store = m ∧
    (run .softResetDrainEnd u).corruptCount = 6 := by decide +kernel

/-- Account records freed by the scan: a corrupt one without a haulier ID, and two of an ID loaded from a
lower record. -/
theorem witness_ScanRebuildsWorkingCopies_freed :
    let m : Store := { accounts := [(0, .corrupt 0), (1, .valid { haulier := 7 }), (2, .corrupt 7),
      (3, .valid { haulier := 7 }), (4, .empty)], settlements := [(0, .corrupt 0), (1, .empty)] }
    let t := run .resetNReleased { run .resetNAsserted base with store := m }
    m.Fits ∧ t.store = m ∧ t.LoadedBelow 2 7 ∧ t.LoadedBelow 3 7 ∧ ¬ t.LoadedBelow 1 7 ∧
    t.corruptCount = 4 ∧ t.accounts = [(1, { haulier := 7 })] := by decide +kernel

theorem witness_ScanCompleteOpensThePart :
    let s := { State.reset with settings := { lanes := .all { enable := true } } }
    (State.reset.Fits ∧ State.reset.mode = .scanning ∧
      State.reset.settings.lanes = .all { enable := false }) ∧
    s.Fits ∧ s.mode = .scanning ∧ s.enabled .l3 = true ∧ (s.detectors.get .l3).state ≠ .configuring ∧
    (run .scanComplete s).floatLow ≠ s.floatLow :=
  ⟨⟨by constructor <;> decide +kernel, by decide +kernel⟩, by constructor <;> decide +kernel,
    by decide +kernel⟩

end Sys2Proof.Tests
end

section
/-! SUPPORT. What an event of the part does where it cannot arise (log entry 5), and how a write of a
command can end (R1, R175, R176). -/
namespace Sys2Proof.Machine

/-! ### Events of a turn that find no turn in their place (R143, R144, R150) -/

/-- The place of a turn in which an event can end it. -/
def turnPlace : TurnEnd → TurnPhase
  | .lineStuck => .watching
  | .echo => .calling
  | .noAnswer | .answerTimeout | .complete _ => .listening

/-- A turn is ended only by an event of its place, and by an answer only of its call's length. -/
theorem State.verdictOf_place {s : State} {e : TurnEnd} {x : Turn} {v : Verdict}
    (h : s.verdictOf e = some (x, v)) :
    s.turn = some x ∧ x.phase = turnPlace e ∧
      ∀ chars, e = .complete chars → chars.length = answerLength x.kind := by
  simp only [State.verdictOf, Option.bind_eq_some_iff] at h
  obtain ⟨y, hy, h⟩ := h
  split at h <;> simp_all [turnPlace]

/-- With no turn in its place an event ends none. -/
theorem State.verdictOf_none {s : State} {e : TurnEnd}
    (h : ∀ x, s.turn = some x → x.phase ≠ turnPlace e) : s.verdictOf e = none := by
  refine Option.eq_none_iff_forall_ne_some.mpr fun ⟨x, v⟩ hv => ?_
  obtain ⟨hturn, hplace, -⟩ := State.verdictOf_place hv
  exact h x hturn hplace

/-- An answer of another length than its call's ends no turn. -/
theorem State.verdictOf_complete_none {s : State} {chars : List AnswerChar}
    (h : ∀ x, s.turn = some x → x.phase = .listening → chars.length ≠ answerLength x.kind) :
    s.verdictOf (.complete chars) = none := by
  refine Option.eq_none_iff_forall_ne_some.mpr fun ⟨x, v⟩ hv => ?_
  obtain ⟨hturn, hplace, hlen⟩ := State.verdictOf_place hv
  exact h x hturn hplace (hlen chars rfl)

theorem State.turnEnds_of_none {s : State} {e : TurnEnd} (h : s.verdictOf e = none) :
    s.turnEnds e = s := by simp [State.turnEnds, h]

/-- A row that names what a turn's end brings about changes nothing where it does not (log entry 4). -/
theorem State.turnEndsIf_of_false {s : State} {e : TurnEnd} {test : State → Turn → Verdict → Bool}
    (h : ∀ x v, s.verdictOf e = some (x, v) → test s x v = false) : s.turnEndsIf e test = s := by
  unfold State.turnEndsIf
  split
  · rename_i x v hv
    simp [h x v hv]
  · rfl

theorem State.turnMoves_of_ne {s : State} {a b : TurnPhase}
    (h : ∀ x, s.turn = some x → x.phase ≠ a) : s.turnMoves a b = s := by
  unfold State.turnMoves
  split
  · rename_i x hx
    simp [h x hx]
  · rfl

/-! ### Limits, results, programs and resets that find nothing to do -/

theorem execCloseGraceExpiry_of_none {s : State} {n : Lane} (h : s.grace.get n = none) :
    execCloseGraceExpiry n s = .next s := by simp [execCloseGraceExpiry, h]

theorem execDispenseLimitExpiry_of_none {s : State} (h : s.dispenseTimer = none) :
    execDispenseLimitExpiry s = .next s := by simp [execDispenseLimitExpiry, h]

theorem execResultConsumed_of_ne {s : State} {p : Port} (h : (s.ports.get p).phase ≠ .result) :
    execResultConsumed p s = .next s := by simp [execResultConsumed, h]

theorem execResultHoldExpiry_of_ne {s : State} {p : Port} (h : (s.ports.get p).phase ≠ .result) :
    execResultHoldExpiry p s = .next s := by simp [execResultHoldExpiry, h]

theorem execProgramAttemptEnd_of_none {s : State} (h : s.program = none) (equal : Bool) :
    execProgramAttemptEnd equal s = .next s := by simp [execProgramAttemptEnd, h]

theorem execProgramAttemptTimeout_of_none {s : State} (h : s.program = none) :
    execProgramAttemptTimeout s = .next s := by simp [execProgramAttemptTimeout, h]

theorem execScanComplete_of_ne {s : State} (h : s.mode ≠ .scanning) :
    execScanComplete s = .next s := by simp [execScanComplete, h]

theorem execResetNReleased_of_ne {s : State} (h : s.mode ≠ .resetHeld) :
    execResetNReleased s = .next { s with resetLow := false } := by simp [execResetNReleased, h]

/-- The drain is over when the queue, the held-account list and the program are gone (R188). -/
theorem State.drained_iff (s : State) :
    s.drained = true ↔ s.commitQueue = [] ∧ s.held = [] ∧ s.program = none := by
  simp [State.drained, and_assoc]

theorem execSoftResetDrainEnd_of_not {s : State}
    (h : s.mode ≠ .draining ∨ s.commitQueue ≠ [] ∨ s.held ≠ [] ∨ s.program ≠ none) :
    execSoftResetDrainEnd s = .next s := by
  have : ¬ (s.mode = .draining ∧ s.drained) := by rw [State.drained_iff]; tauto
  simp [execSoftResetDrainEnd, this]

/-- Without supply RESET_N changes its own level, and the loss of power and the clock nothing (log
entries 14 and 33). -/
theorem exec_unpowered {s : State} (h : s.mode = .unpowered) :
    execResetNAsserted s = .next { s with resetLow := true } ∧ execPowerLoss s = .next s ∧
    execYardSecond s = .next s := by
  simp [execResetNAsserted, execPowerLoss, execYardSecond, h]

/-! ### What the end of an event leaves of a port -/

theorem State.raise_samePhases (s : State) (p : Port) (e : Event) : SamePhases s (s.raise p e) := by
  intro q
  simp only [State.raise_ports, PerPort.get_set]
  split
  · rename_i h; subst h; exact ⟨rfl, rfl, rfl⟩
  · exact ⟨rfl, rfl, rfl⟩

theorem State.checkShort_samePhases (s : State) : SamePhases s s.checkShort := by
  intro q
  rw [State.checkShort, State.setShortCause_ports]
  split
  · exact ⟨rfl, rfl, rfl⟩
  · exact s.raise_samePhases .payout .floatOut q

theorem SamePhases.trans {s t u : State} (h : SamePhases s t) (h' : SamePhases t u) :
    SamePhases s u := fun q =>
  have ⟨hphase, hresult, hhold⟩ := h q
  have ⟨hphase', hresult', hhold'⟩ := h' q
  ⟨hphase'.trans hphase, hresult'.trans hresult, hhold'.trans hhold⟩

/-- The order events raise flags alone on the ports (R40, R61). -/
theorem State.orderEvents_samePhases (b a : State) : SamePhases a (State.orderEvents b a) := by
  have hready : SamePhases a
      (if a.headReady && !b.headReady then a.raise .payout .orderReady else a) := by
    split
    · exact a.raise_samePhases .payout .orderReady
    · exact fun _ => ⟨rfl, rfl, rfl⟩
  unfold State.orderEvents
  dsimp only
  split
  · exact hready
  · exact hready.trans (State.checkShort_samePhases _)

/-- The end of an event leaves each port's phase, result and hold timer. -/
theorem State.conclude_samePhases (b a : State) : SamePhases a (State.conclude b a) := by
  simpa only [SamePhases, State.conclude, State.drivePins_frame, State.beginProgram_frame]
    using State.orderEvents_samePhases b a

/-! ### How a command can end (R1, R175, R176) -/

/-- What a write of a command can leave: the state as it was, where the port did not take it; a refusal;
an accepted command's result; or a port that shows none, since it waits in EXECUTING or stands in
STARTING. -/
inductive State.Ends (s : State) (p : Port) (c : CommandCode) (t : State) : Prop
  | untaken (h : t = s)
  | refused (rc : ResultCode) (h : t = s.refused p c rc)
  | accepted (b : Body) (h : (t.ports.get p).result = resultBytes c.byte .ok b)
  | silent (h : (t.ports.get p).phase ≠ .result)

section
variable {s t : State} {p : Port} {c : CommandCode} {ps : List Byte}

/-- A check of a command's own: it refuses, or the command goes on. -/
theorem State.Ends.check {P : Prop} [Decidable P] {rc : ResultCode} (h : s.Ends p c t) :
    s.Ends p c (if P then s.refused p c rc else t) := by
  split
  · exact .refused rc rfl
  · exact h

theorem State.Ends.answered (u : State) (b : Body) : s.Ends p c (u.answered p c b) :=
  .accepted b (by simp [State.answered])

theorem State.Ends.concluded (u : State) (b : Body) :
    s.Ends p c (State.conclude s (u.respond p c .ok b)) := by
  obtain ⟨-, hresult, -⟩ := State.conclude_samePhases s (u.respond p c .ok b) p
  exact .accepted b (by simp [hresult])

/-- A command that waits on a program leaves its port in EXECUTING. -/
theorem State.Ends.waits (u : State) : s.Ends p c (State.conclude s (u.toExecuting p)) := by
  obtain ⟨hphase, -, -⟩ := State.conclude_samePhases s (u.toExecuting p) p
  exact .silent (by simp [hphase])

/-- A command ends by the checks of R175 and R176, or as its own rule has it end. -/
theorem State.Ends.command {run : State → State} (hrun : s.Ends p c (run s)) :
    s.Ends p c (s.command p c ps run) := by
  obtain h | ⟨rc, -, -, h⟩ | ⟨-, h⟩ := State.command_cases (s := s) (p := p) (c := c) (ps := ps) run
  · exact .untaken h
  · exact .refused rc h
  · rw [h]; exact hrun

/-- On ruled lines a command that leaves a READY port with a refusal's code was refused, and changes
its port alone. -/
theorem State.Ends.of_refusal {code : Byte} {rest : List Byte} (h : s.Ends p c t) (hpins : s.PinsRuled)
    (hready : (s.ports.get p).phase = .ready) (hphase : (t.ports.get p).phase = .result)
    (hresult : (t.ports.get p).result = c.byte :: code :: rest) (hcode : 0x10 ≤ code.toNat) :
    rest = [0, 0] ∧ t = s.showing p [c.byte, code, 0, 0] := by
  cases h with
  | untaken h =>
    subst h
    simp [hready] at hphase
  | refused rc h =>
    rw [State.refused_showing hpins, resultBytes_nil] at h
    subst h
    simp only [State.showing, PerPort.get_set, if_true, List.cons.injEq, true_and] at hresult
    obtain ⟨rfl, rfl⟩ := hresult
    exact ⟨rfl, rfl⟩
  | accepted b h =>
    have hok : ResultCode.ok.byte = code := by
      simp only [h, resultBytes, List.cons_append, List.cons.injEq] at hresult
      obtain ⟨-, hok, -⟩ := hresult
      exact hok
    subst hok
    exact absurd hcode (by decide)
  | silent h => exact absurd hphase h

/-! ### How each command ends -/

/-! #### The clock, the faults and the events (R172, R173, R183, R184, R192) -/

theorem execSetTime_ends : ∃ t, execSetTime p ps s = .next t ∧ s.Ends p .setTime t :=
  ⟨_, rfl, .command (.answered ..)⟩

theorem execReadFaults_ends : ∃ t, execReadFaults p ps s = .next t ∧ s.Ends p .readFaults t :=
  ⟨_, rfl, .command (.answered ..)⟩

theorem execClearFaults_ends : ∃ t, execClearFaults p ps s = .next t ∧ s.Ends p .clearFaults t :=
  ⟨_, rfl, .command (.check (.concluded ..))⟩

theorem execReadEvents_ends : ∃ t, execReadEvents p ps s = .next t ∧ s.Ends p .readEvents t :=
  ⟨_, rfl, .command (.answered ..)⟩

theorem execAckReset_ends : ∃ t, execAckReset p ps s = .next t ∧ s.Ends p .ackReset t :=
  ⟨_, rfl, .command (.answered ..)⟩

theorem execSoftReset_ends : ∃ t, execSoftReset p ps s = .next t ∧ s.Ends p .softReset t :=
  ⟨_, rfl, .command (.silent (by simp))⟩

/-! #### Dockets (chapter 1) -/

theorem execOpenDocket_ends : ∃ t, execOpenDocket p ps s = .next t ∧ s.Ends p .openDocket t := by
  refine ⟨_, rfl, .command ?_⟩
  dsimp only
  split
  · exact .refused _ rfl
  · refine .check (.check (.check ?_))
    split
    · exact .refused _ rfl
    · exact .answered ..

theorem execAdjust_ends : ∃ t, execAdjust p ps s = .next t ∧ s.Ends p .adjust t := by
  refine ⟨_, rfl, .command ?_⟩
  dsimp only
  split
  · refine .check ?_
    split
    · exact .refused _ rfl
    · refine .check ?_
      split
      · exact .refused _ rfl
      · exact .answered ..
  · exact .refused _ rfl

theorem execCloseDocket_ends : ∃ t, execCloseDocket p ps s = .next t ∧ s.Ends p .closeDocket t := by
  refine ⟨_, rfl, .command ?_⟩
  split
  · exact .refused _ rfl
  · split
    · exact .refused _ rfl
    · exact .check (.concluded ..)

theorem execVoidDocket_ends : ∃ t, execVoidDocket p ps s = .next t ∧ s.Ends p .voidDocket t := by
  refine ⟨_, rfl, .command ?_⟩
  dsimp only
  split
  · exact .refused _ rfl
  · exact .check (.answered ..)

theorem execReadDocket_ends : ∃ t, execReadDocket p ps s = .next t ∧ s.Ends p .readDocket t := by
  refine ⟨_, rfl, .command ?_⟩
  split
  · exact .refused _ rfl
  · exact .answered ..

theorem execNextFinished_ends : ∃ t, execNextFinished p ps s = .next t ∧ s.Ends p .nextFinished t := by
  refine ⟨_, rfl, .command ?_⟩
  split
  · exact .refused _ rfl
  · exact .answered ..

theorem execReleaseDocket_ends :
    ∃ t, execReleaseDocket p ps s = .next t ∧ s.Ends p .releaseDocket t := by
  refine ⟨_, rfl, .command ?_⟩
  dsimp only
  split
  · exact .refused _ rfl
  · exact .check (.answered ..)

/-! #### Orders and the float (chapter 3) -/

theorem execTakeOrder_ends : ∃ t, execTakeOrder p ps s = .next t ∧ s.Ends p .takeOrder t := by
  refine ⟨_, rfl, .command ?_⟩
  split
  · exact .waits _
  · exact .refused _ rfl
  · exact .refused _ rfl

theorem execConfirmPayout_ends :
    ∃ t, execConfirmPayout p ps s = .next t ∧ s.Ends p .confirmPayout t := by
  refine ⟨_, rfl, .command (.check (.check ?_))⟩
  split
  · exact .waits _
  · exact .waits _
  · exact .refused _ rfl

/-- Both rows of RESOLVE_SUSPENSE (R53, R54). -/
theorem State.resolveFrame_ends : s.Ends p .resolveSuspense (s.resolveFrame p ps) := by
  refine .command (.check (.check (.check ?_)))
  split
  · exact .waits _
  · exact .concluded ..

theorem execLoadFloat_ends : ∃ t, execLoadFloat p ps s = .next t ∧ s.Ends p .loadFloat t :=
  ⟨_, rfl, .command (.check (.waits _))⟩

theorem execReadFloat_ends : ∃ t, execReadFloat p ps s = .next t ∧ s.Ends p .readFloat t :=
  ⟨_, rfl, .command (.answered ..)⟩

theorem execReportDispenser_ends :
    ∃ t, execReportDispenser p ps s = .next t ∧ s.Ends p .reportDispenser t := by
  refine ⟨_, rfl, .command ?_⟩
  split
  · exact .concluded ..
  · exact .concluded ..
  · exact .concluded ..
  · exact .refused _ rfl

/-! #### The record store (chapter 4) -/

theorem execAccountAdd_ends : ∃ t, execAccountAdd p ps s = .next t ∧ s.Ends p .accountAdd t := by
  refine ⟨_, rfl, .command (.check (.check ?_))⟩
  split
  · exact .refused _ rfl
  · exact .check (.waits _)

theorem execAccountRemove_ends :
    ∃ t, execAccountRemove p ps s = .next t ∧ s.Ends p .accountRemove t := by
  refine ⟨_, rfl, .command (.check ?_)⟩
  split
  · exact .refused _ rfl
  · exact .check (.check (.waits _))

theorem execAccountRewrite_ends :
    ∃ t, execAccountRewrite p ps s = .next t ∧ s.Ends p .accountRewrite t := by
  refine ⟨_, rfl, .command (.check ?_)⟩
  split
  · exact .refused _ rfl
  · exact .check (.waits _)

theorem execAccountRead_ends : ∃ t, execAccountRead p ps s = .next t ∧ s.Ends p .accountRead t := by
  refine ⟨_, rfl, .command (.check ?_)⟩
  split
  · exact .refused _ rfl
  · exact .answered ..

theorem execReadStore_ends : ∃ t, execReadStore p ps s = .next t ∧ s.Ends p .readStore t :=
  ⟨_, rfl, .command (.answered ..)⟩

theorem execStoreSettings_ends :
    ∃ t, execStoreSettings p ps s = .next t ∧ s.Ends p .storeSettings t :=
  ⟨_, rfl, .command (.waits _)⟩

theorem execSetClass_ends : ∃ t, execSetClass p ps s = .next t ∧ s.Ends p .setClass t := by
  refine ⟨_, rfl, .command ?_⟩
  dsimp only
  split
  · exact .check (.answered ..)
  · exact .refused _ rfl

theorem execReadClass_ends : ∃ t, execReadClass p ps s = .next t ∧ s.Ends p .readClass t := by
  refine ⟨_, rfl, .command ?_⟩
  split
  · exact .answered ..
  · exact .refused _ rfl

theorem execSetParam_ends : ∃ t, execSetParam p ps s = .next t ∧ s.Ends p .setParam t := by
  refine ⟨_, rfl, .command ?_⟩
  dsimp only
  split
  · exact .check (.concluded ..)
  · split
    · exact .answered ..
    · exact .refused _ rfl

theorem execSetLane_ends : ∃ t, execSetLane p ps s = .next t ∧ s.Ends p .setLane t := by
  refine ⟨_, rfl, .command ?_⟩
  split
  · exact .refused _ rfl
  · split
    · exact .answered ..
    · exact .refused _ rfl

/-! #### Lanes (chapters 5 to 8) -/

theorem execLaneEnable_ends : ∃ t, execLaneEnable p ps s = .next t ∧ s.Ends p .laneEnable t := by
  refine ⟨_, rfl, .command ?_⟩
  dsimp only
  split
  · exact .check (.concluded ..)
  · exact .refused _ rfl

theorem execTuneLane_ends : ∃ t, execTuneLane p ps s = .next t ∧ s.Ends p .tuneLane t := by
  refine ⟨_, rfl, .command ?_⟩
  dsimp only
  split
  · exact .refused _ rfl
  · exact .check (.check (.concluded ..))

theorem execReseedLane_ends : ∃ t, execReseedLane p ps s = .next t ∧ s.Ends p .reseedLane t := by
  refine ⟨_, rfl, .command ?_⟩
  dsimp only
  split
  · exact .refused _ rfl
  · exact .check (.concluded ..)

theorem execReadLane_ends : ∃ t, execReadLane p ps s = .next t ∧ s.Ends p .readLane t := by
  refine ⟨_, rfl, .command ?_⟩
  split
  · exact .refused _ rfl
  · exact .answered ..

theorem execReadStray_ends : ∃ t, execReadStray p ps s = .next t ∧ s.Ends p .readStray t := by
  refine ⟨_, rfl, .command ?_⟩
  split
  · exact .refused _ rfl
  · exact .answered ..

theorem execClearStray_ends : ∃ t, execClearStray p ps s = .next t ∧ s.Ends p .clearStray t := by
  refine ⟨_, rfl, .command ?_⟩
  split
  · exact .refused _ rfl
  · exact .answered ..

theorem execReadLinkStats_ends :
    ∃ t, execReadLinkStats p ps s = .next t ∧ s.Ends p .readLinkStats t := by
  refine ⟨_, rfl, .command ?_⟩
  dsimp only
  split
  · exact .refused _ rfl
  · exact .answered ..

end

/-- Every row that is a command has a next state, and ends as `State.Ends` says. -/
theorem exec_command_ends {i : Instr} {s : State} {p : Port} {c : CommandCode} {ps : List Byte}
    (hi : i.command? = some (p, c, ps)) : ∃ t, exec i s = .next t ∧ s.Ends p c t := by
  cases i <;> cases hi
  case softReset => exact execSoftReset_ends
  case setTime => exact execSetTime_ends
  case openDocket => exact execOpenDocket_ends
  case adjust => exact execAdjust_ends
  case closeDocket => exact execCloseDocket_ends
  case voidDocket => exact execVoidDocket_ends
  case readDocket => exact execReadDocket_ends
  case nextFinished => exact execNextFinished_ends
  case releaseDocket => exact execReleaseDocket_ends
  case takeOrder => exact execTakeOrder_ends
  case confirmPayout => exact execConfirmPayout_ends
  case resolveSuspense => exact ⟨_, rfl, State.resolveFrame_ends⟩
  case resolveSuspenseNotPaid => exact ⟨_, rfl, State.resolveFrame_ends⟩
  case loadFloat => exact execLoadFloat_ends
  case readFloat => exact execReadFloat_ends
  case reportDispenser => exact execReportDispenser_ends
  case accountAdd => exact execAccountAdd_ends
  case accountRemove => exact execAccountRemove_ends
  case accountRewrite => exact execAccountRewrite_ends
  case accountRead => exact execAccountRead_ends
  case readStore => exact execReadStore_ends
  case setClass => exact execSetClass_ends
  case setParam => exact execSetParam_ends
  case setLane => exact execSetLane_ends
  case storeSettings => exact execStoreSettings_ends
  case readClass => exact execReadClass_ends
  case laneEnable => exact execLaneEnable_ends
  case tuneLane => exact execTuneLane_ends
  case reseedLane => exact execReseedLane_ends
  case readLane => exact execReadLane_ends
  case readStray => exact execReadStray_ends
  case clearStray => exact execClearStray_ends
  case readLinkStats => exact execReadLinkStats_ends
  case readFaults => exact execReadFaults_ends
  case clearFaults => exact execClearFaults_ends
  case readEvents => exact execReadEvents_ends
  case ackReset => exact execAckReset_ends

/-! ### The obligations -/

/-- An event that looks at the state once has a next state where both of its branches have. -/
theorem next_ite {P : Prop} [Decidable P] {a b : Host.Outcome State Fault Refusal}
    (ha : ∃ t, a = .next t) (hb : ∃ t, b = .next t) : ∃ t, (if P then a else b) = .next t := by
  split
  · exact ha
  · exact hb

/-- Every row has a next state: a command and most events by one equation, the other events on each of
their branches. -/
theorem exec_next (i : Instr) (s : State) : ∃ t, exec i s = .next t := by
  cases i
  case resetNAsserted | softResetDrainEnd | yardSecond | invalidCommand | resultConsumed | powerLoss |
      scanComplete => exact next_ite ⟨_, rfl⟩ ⟨_, rfl⟩
  case resultHoldExpiry p =>
    refine next_ite ?_ ⟨_, rfl⟩
    split <;> exact ⟨_, rfl⟩
  case closeGraceExpiry n =>
    show ∃ t, execCloseGraceExpiry n s = .next t
    unfold execCloseGraceExpiry
    split
    · exact next_ite ⟨_, rfl⟩ ⟨_, rfl⟩
    · exact ⟨_, rfl⟩
  case dispenseLimitExpiry =>
    show ∃ t, execDispenseLimitExpiry s = .next t
    unfold execDispenseLimitExpiry
    split
    · exact next_ite ⟨_, rfl⟩ ⟨_, rfl⟩
    · exact ⟨_, rfl⟩
  case programAttemptEnd equal =>
    show ∃ t, execProgramAttemptEnd equal s = .next t
    unfold execProgramAttemptEnd
    split <;> exact ⟨_, rfl⟩
  case programAttemptTimeout =>
    show ∃ t, execProgramAttemptTimeout s = .next t
    unfold execProgramAttemptTimeout
    split <;> exact ⟨_, rfl⟩
  all_goals exact ⟨_, rfl⟩

end Sys2Proof.Machine

namespace Sys2Proof.Proofs
open Sys2Proof.Machine

/-- Settles O3: every row has a next state, and each row of log entry 5 finds nothing to do. -/
theorem nothingStopsThePart : Obligations.NothingStopsThePart := by
  refine ⟨exec_next, fun s => ⟨?watching, ?calling, ?listening, ?answer, ?silent, ?tuneLimit, ?lost,
    ?jam, ?grace, ?dispense, ?result, ?program, ?scan, ?release, ?drain, ?unpowered⟩⟩
  case watching =>
    exact fun h => ⟨congrArg _ (State.turnMoves_of_ne h),
      congrArg _ (State.turnEnds_of_none (State.verdictOf_none h))⟩
  case calling =>
    exact fun h => ⟨congrArg _ (State.turnEnds_of_none (State.verdictOf_none h)),
      congrArg _ (State.turnMoves_of_ne h)⟩
  case listening =>
    exact fun h => ⟨congrArg _ (State.turnEnds_of_none (State.verdictOf_none h)),
      congrArg _ (State.turnEnds_of_none (State.verdictOf_none h))⟩
  case answer =>
    exact fun _ h => congrArg _ (State.turnEnds_of_none (State.verdictOf_complete_none h))
  case silent => exact fun _ h => congrArg _ (State.turnEndsIf_of_false h)
  case tuneLimit => exact fun _ h => congrArg _ (State.turnEndsIf_of_false h)
  case lost => exact fun _ h => congrArg _ (State.turnEndsIf_of_false h)
  case jam => exact fun _ h => congrArg _ (State.turnEndsIf_of_false h)
  case grace => exact fun _ => execCloseGraceExpiry_of_none
  case dispense => exact execDispenseLimitExpiry_of_none
  case result => exact fun _ h => ⟨execResultHoldExpiry_of_ne h, execResultConsumed_of_ne h⟩
  case program =>
    exact fun h => ⟨execProgramAttemptTimeout_of_none h, execProgramAttemptEnd_of_none h⟩
  case scan => exact execScanComplete_of_ne
  case release => exact execResetNReleased_of_ne
  case drain => exact execSoftResetDrainEnd_of_not
  case unpowered => exact exec_unpowered

/-- Settles O17: a command taken on a READY port is refused, accepted with OK, or shows no result, and
of these only a refusal has a code of 10h or above. -/
theorem refusedCommandsChangeNothing : Obligations.RefusedCommandsChangeNothing := by
  intro i p c ps s t code rest hpins hi hready hexec hphase hresult hcode
  obtain ⟨u, hu, hends⟩ := exec_command_ends (s := s) hi
  obtain rfl : u = t := by simpa [hu] using hexec
  exact hends.of_refusal hpins hready hphase hresult hcode

end Sys2Proof.Proofs
end

section
/-! SUPPORT. The docket table read by number, and its invariant in those terms (R2 to R6, R9, R34). -/
namespace Sys2Proof.Machine

variable {s t : State}

/-! ### A docket read after an update -/

theorem State.docket?_congr (h : t.dockets = s.dockets) (num : Nat) : t.docket? num = s.docket? num := by
  simp [State.docket?, h]

theorem State.docket?_number {num : Nat} {d : Docket} (h : s.docket? num = some d) : d.number = num := by
  simpa using List.find?_some h

theorem State.docket?_mem {num : Nat} {d : Docket} (h : s.docket? num = some d) : d ∈ s.dockets :=
  List.mem_of_find?_eq_some h

/-- An update of the docket that bears a number is read at that number alone. -/
theorem State.docket?_updateDocket (s : State) (num m : Nat) {f : Docket → Docket}
    (hf : ∀ d, (f d).number = d.number) :
    (s.updateDocket num f).docket? m =
      if m = num then (s.docket? num).map f else s.docket? m := by
  have hnum (d : Docket) : (if d.number = num then f d else d).number = d.number := by
    split <;> simp [hf]
  simp only [State.docket?, State.updateDocket_dockets, List.find?_map, Function.comp_def, hnum]
  split
  · rename_i h
    subst h
    cases hd : s.dockets.find? fun d => d.number == m with
    | none => rfl
    | some d =>
      have := List.find?_some hd
      simp_all
  · rename_i h
    cases hd : s.dockets.find? fun d => d.number == m with
    | none => rfl
    | some d =>
      have hm : d.number = m := by simpa using List.find?_some hd
      have : d.number ≠ num := hm ▸ h
      simp [this]

/-- With distinct numbers a docket in the table is the one its number reads as. -/
theorem State.docket?_of_mem (h : (s.dockets.map (·.number)).Nodup) {d : Docket} (hd : d ∈ s.dockets) :
    s.docket? d.number = some d := by
  unfold State.docket?
  generalize s.dockets = l at h hd
  induction l with
  | nil => simp at hd
  | cons x l ih =>
    obtain ⟨hx, hl⟩ := List.nodup_cons.mp h
    rcases List.mem_cons.mp hd with rfl | hd
    · simp
    · have : x.number ≠ d.number := fun he => hx (List.mem_map.mpr ⟨d, hd, he.symm⟩)
      rw [List.find?_cons_of_neg (by simpa using this)]
      exact ih hl hd

theorem State.docket?_exists (h : (s.dockets.map (·.number)).Nodup) (num : Nat) (q : Docket → Prop) :
    (∃ d ∈ s.dockets, d.number = num ∧ q d) ↔ ∃ d, s.docket? num = some d ∧ q d := by
  constructor
  · rintro ⟨d, hd, rfl, hq⟩
    exact ⟨d, State.docket?_of_mem h hd, hq⟩
  · rintro ⟨d, hd, hq⟩
    exact ⟨d, State.docket?_mem hd, State.docket?_number hd, hq⟩

/-! ### The ledger: the docket table with all that names its dockets -/

/-- DocketsFit and SettlementsFit with every docket read by its number, and the docket numbers of the
settlement records distinct. -/
structure State.Ledger (s : State) : Prop where
  slots : s.dockets.length ≤ 16
  numbers : (s.dockets.map (·.number)).Nodup
  orders : ∀ num d, s.docket? num = some d → d.fits = true
  lanes : ∀ n num, s.openDocket.get n = some num ↔
    ∃ d, s.docket? num = some d ∧ d.lane = n ∧ d.state.holdsLane = true
  finishedNodup : s.finished.Nodup
  finished : ∀ num, num ∈ s.finished ↔ ∃ d, s.docket? num = some d ∧ d.state.finished = true
  records : ∀ num, (∃ e ∈ s.settlements, e.2.docket = num) ↔
    ∃ d, s.docket? num = some d ∧ d.state = .awaitingPayout
  recordsNodup : (s.settlements.map (·.2.docket)).Nodup

theorem State.ledger_iff : s.Ledger ↔
    s.DocketsFit ∧ s.SettlementsFit ∧ (s.settlements.map (·.2.docket)).Nodup := by
  constructor
  · intro h
    have hmem {d : Docket} (hd : d ∈ s.dockets) := State.docket?_of_mem h.numbers hd
    refine ⟨⟨h.slots, h.numbers, fun d hd => h.orders _ d (hmem hd), fun d hd hl => ?_,
      fun n _ num hnum => ?_, h.finishedNodup, fun d hd hf => (h.finished _).mpr ⟨d, hmem hd, hf⟩,
      fun num hnum => ?_⟩, ⟨fun e he => ?_, fun d hd hs => ?_⟩, h.recordsNodup⟩
    · exact (h.lanes _ _).mpr ⟨d, hmem hd, rfl, hl⟩
    · exact (State.docket?_exists h.numbers num _).mpr ((h.lanes n num).mp (by simpa using hnum))
    · exact (State.docket?_exists h.numbers num _).mpr ((h.finished num).mp hnum)
    · exact (State.docket?_exists h.numbers _ _).mpr ((h.records _).mp ⟨e, he, rfl⟩)
    · exact (h.records _).mpr ⟨d, hmem hd, hs⟩
  · rintro ⟨⟨hslots, hnums, hfits, hholds, hopen, hfnodup, hfin, hlist⟩, ⟨hrec, hawait⟩, hnodup⟩
    refine ⟨hslots, hnums, fun num d hd => hfits d (State.docket?_mem hd), fun n num => ?_, hfnodup,
      fun num => ?_, fun num => ?_, hnodup⟩
    · rw [← State.docket?_exists hnums]
      constructor
      · intro h
        exact hopen n (by cases n <;> decide) num (by simp [h])
      · rintro ⟨d, hd, rfl, rfl, hl⟩
        exact hholds d hd hl
    · rw [← State.docket?_exists hnums]
      constructor
      · exact hlist num
      · rintro ⟨d, hd, rfl, hf⟩
        exact hfin d hd hf
    · rw [← State.docket?_exists hnums]
      constructor
      · rintro ⟨e, he, rfl⟩
        exact hrec e he
      · rintro ⟨d, hd, rfl, hs⟩
        exact hawait d hd hs

theorem State.Fits.ledger (h : s.Fits) : s.Ledger := by
  obtain ⟨-, -, -, -, -, -, hnodup⟩ := h.tables
  exact State.ledger_iff.mpr ⟨h.dockets, h.settlements, hnodup⟩

end Sys2Proof.Machine
end

section
/-! SUPPORT. How the ledger is kept: by updates of one docket, by a docket that opens and by one that is
released. -/
namespace Sys2Proof.Machine

variable {s t : State} {num : Nat} {d d' : Docket}

/-- The state of a docket decides whether it holds a lane, waits for its payout, or is finished. -/
theorem DocketState.awaiting_iff (x : DocketState) :
    x = .awaitingPayout ↔ x.holdsLane = false ∧ x.finished = false := by
  cases x <;> decide

theorem DocketState.not_finished_of_holdsLane {x : DocketState} (h : x.holdsLane = true) :
    x.finished = false := by
  cases x <;> simp_all [DocketState.holdsLane, DocketState.finished]

/-- One docket has changed, and with it what stands at its number in the lanes, the finished list and the
settlement records. -/
theorem State.Ledger.change (h : s.Ledger)
    (hnums : t.dockets.map (·.number) = s.dockets.map (·.number))
    (hget : ∀ m, t.docket? m = if m = num then some d' else s.docket? m) (hfits : d'.fits = true)
    (hlanes : ∀ n m, t.openDocket.get n = some m ↔
      m = num ∧ d'.lane = n ∧ d'.state.holdsLane = true ∨ m ≠ num ∧ s.openDocket.get n = some m)
    (hnodup : t.finished.Nodup)
    (hfin : ∀ m, m ∈ t.finished ↔ m = num ∧ d'.state.finished = true ∨ m ≠ num ∧ m ∈ s.finished)
    (hrecs : ∀ m, (∃ e ∈ t.settlements, e.2.docket = m) ↔
      m = num ∧ d'.state = .awaitingPayout ∨ m ≠ num ∧ ∃ e ∈ s.settlements, e.2.docket = m)
    (hrnodup : (t.settlements.map (·.2.docket)).Nodup) : t.Ledger where
  slots := by
    have := congrArg List.length hnums
    simp only [List.length_map] at this
    exact this ▸ h.slots
  numbers := hnums ▸ h.numbers
  orders m x hx := by
    rw [hget] at hx
    split at hx
    · cases hx; exact hfits
    · exact h.orders m x hx
  lanes n m := by
    rw [hlanes, hget]
    by_cases hm : m = num <;> simp [hm, h.lanes]
  finishedNodup := hnodup
  finished m := by
    rw [hfin, hget]
    by_cases hm : m = num <;> simp [hm, h.finished]
  records m := by
    rw [hrecs, hget, h.records]
    by_cases hm : m = num <;> simp [hm]
  recordsNodup := hrnodup

/-! ### What one number says of the three lists -/

theorem State.Ledger.openDocket_of (h : s.Ledger) (hd : s.docket? num = some d)
    (hl : d.state.holdsLane = true) : s.openDocket.get d.lane = some num :=
  (h.lanes _ _).mpr ⟨d, hd, rfl, hl⟩

/-- A lane's docket is the one in the table that holds it. -/
theorem State.Ledger.laneDocket (h : s.Ledger) {n : Lane} (hd : s.laneDocket n = some d) :
    s.openDocket.get n = some d.number ∧ s.docket? d.number = some d ∧ d.lane = n ∧
      d.state.holdsLane = true := by
  obtain ⟨m, hm, hget⟩ := Option.bind_eq_some_iff.mp hd
  obtain rfl := State.docket?_number hget
  obtain ⟨x, hx, hlane, hholds⟩ := (h.lanes n _).mp hm
  obtain rfl : x = d := by simpa [hx] using hget
  exact ⟨hm, hx, hlane, hholds⟩

/-- A docket that leaves its lane was the only one there. -/
theorem State.Ledger.lanes_freed (h : s.Ledger) (hd : s.docket? num = some d)
    (hl : d.state.holdsLane = true) (n : Lane) (m : Nat) :
    (s.openDocket.set d.lane none).get n = some m ↔ m ≠ num ∧ s.openDocket.get n = some m := by
  rw [PerLane.get_set]
  split
  · rename_i hn
    simp [hn, h.openDocket_of hd hl, eq_comm]
  · rename_i hn
    constructor
    · refine fun hm => ⟨fun he => hn ?_, hm⟩
      obtain ⟨x, hx, hlane, -⟩ := (h.lanes n m).mp hm
      obtain rfl : x = d := by simpa [he, hd, eq_comm] using hx
      exact hlane.symm
    · exact And.right

/-- A docket that holds no lane is no lane's open docket. -/
theorem State.Ledger.lanes_ne (h : s.Ledger) (hd : s.docket? num = some d)
    (hl : d.state.holdsLane = false) (n : Lane) (m : Nat) :
    s.openDocket.get n = some m ↔ m ≠ num ∧ s.openDocket.get n = some m := by
  refine ⟨fun hm => ⟨?_, hm⟩, And.right⟩
  rintro rfl
  obtain ⟨x, hx, -, hx'⟩ := (h.lanes n m).mp hm
  simp_all

theorem State.Ledger.not_finished (h : s.Ledger) (hd : s.docket? num = some d)
    (hf : d.state.finished = false) : num ∉ s.finished := by
  intro hm
  obtain ⟨x, hx, hx'⟩ := (h.finished num).mp hm
  simp_all

theorem State.Ledger.finished_ne (h : s.Ledger) (hd : s.docket? num = some d)
    (hf : d.state.finished = false) (m : Nat) : m ∈ s.finished ↔ m ≠ num ∧ m ∈ s.finished := by
  refine ⟨fun hm => ⟨?_, hm⟩, And.right⟩
  rintro rfl
  exact h.not_finished hd hf hm

theorem State.Ledger.no_record (h : s.Ledger) (hd : s.docket? num = some d)
    (hs : d.state ≠ .awaitingPayout) : ∀ e ∈ s.settlements, e.2.docket ≠ num := by
  intro e he hn
  obtain ⟨x, hx, hx'⟩ := (h.records num).mp ⟨e, he, hn⟩
  simp_all

theorem State.Ledger.records_ne (h : s.Ledger) (hd : s.docket? num = some d)
    (hs : d.state ≠ .awaitingPayout) (m : Nat) : (∃ e ∈ s.settlements, e.2.docket = m) ↔
      m ≠ num ∧ ∃ e ∈ s.settlements, e.2.docket = m := by
  refine ⟨fun ⟨e, he, hm⟩ => ⟨?_, e, he, hm⟩, And.right⟩
  rintro rfl
  exact h.no_record hd hs e he hm

/-! ### The kinds of change -/

/-- A state that agrees with another in all that the ledger names has its ledger. -/
theorem State.Ledger.same (h : s.Ledger) (hdockets : t.dockets = s.dockets)
    (hopen : t.openDocket = s.openDocket) (hfin : t.finished = s.finished)
    (hrecs : t.settlements.map (·.2.docket) = s.settlements.map (·.2.docket)) : t.Ledger := by
  have hmem (m : Nat) : (∃ e ∈ t.settlements, e.2.docket = m) ↔ ∃ e ∈ s.settlements, e.2.docket = m := by
    simpa using (iff_of_eq (congrArg (m ∈ ·) hrecs))
  constructor
  · exact hdockets ▸ h.slots
  · exact hdockets ▸ h.numbers
  · simpa only [State.docket?_congr hdockets] using h.orders
  · simpa only [State.docket?_congr hdockets, hopen] using h.lanes
  · exact hfin ▸ h.finishedNodup
  · simpa only [State.docket?_congr hdockets, hfin] using h.finished
  · simpa only [State.docket?_congr hdockets, hmem] using h.records
  · exact hrecs ▸ h.recordsNodup

/-- An update of a docket that leaves its lane and its standing: whether it holds the lane, and whether it
is finished. -/
theorem State.Ledger.update (h : s.Ledger) {f : Docket → Docket} (hnum : ∀ x, (f x).number = x.number)
    (hf : ∀ x, s.docket? num = some x → (f x).fits = true ∧ (f x).lane = x.lane ∧
      (f x).state.holdsLane = x.state.holdsLane ∧ (f x).state.finished = x.state.finished) :
    (s.updateDocket num f).Ledger := by
  cases hd : s.docket? num with
  | none =>
    have hall : ∀ x ∈ s.dockets, x.number ≠ num := by
      simpa [State.docket?] using hd
    refine h.same ?_ (by simp) (by simp) (by simp)
    rw [State.updateDocket_dockets]
    exact (List.map_congr_left fun x hx => by simp [hall x hx]).trans (List.map_id _)
  | some x =>
    obtain ⟨hfits, hlane, hholds, hfin⟩ := hf x hd
    have hget (m : Nat) : (s.updateDocket num f).docket? m =
        if m = num then some (f x) else s.docket? m := by
      rw [State.docket?_updateDocket _ _ _ hnum, hd]; rfl
    refine h.change ?_ hget hfits (fun n m => ?_) (by simpa using h.finishedNodup) (fun m => ?_)
      (fun m => ?_) (by simpa using h.recordsNodup)
    · simp only [State.updateDocket_dockets, List.map_map]
      exact List.map_congr_left fun y _ => by simp only [Function.comp_apply]; split <;> simp [hnum]
    · by_cases hm : m = num <;> simp [hm, h.lanes, hd, hlane, hholds]
    · by_cases hm : m = num <;> simp [hm, h.finished, hd, hfin]
    · by_cases hm : m = num
      · simp [hm, h.records, hd, DocketState.awaiting_iff, hholds, hfin]
      · simp [hm]

end Sys2Proof.Machine
end

section
/-! SUPPORT. The number that OPEN_DOCKET finds (R4), and the ledger through the docket commands. -/
namespace Sys2Proof.Machine

variable {s t : State} {num : Nat} {d d' : Docket}

/-! ### The next free number (R4) -/

/-- The candidates from a number, as far as a docket table can reach. -/
theorem numberAfter_iterate (c : Nat) {k : Nat} (hk : k ≤ 16) : numberAfter^[k] c =
    if k = 0 then c else if 65535 ≤ c then k else if c + k ≤ 65535 then c + k else c + k - 65535 := by
  induction k with
  | zero => rfl
  | succ k ih =>
    have ih := ih (by omega)
    rw [Function.iterate_succ_apply', numberAfter, if_neg k.succ_ne_zero]
    generalize numberAfter^[k] c = x at ih ⊢
    split_ifs at ih ⊢ <;> omega

theorem numberAfter_inj (c : Nat) {i j : Nat} (hi : i ≤ 16) (hj : j ≤ 16)
    (h : numberAfter^[i] c = numberAfter^[j] c) : i = j := by
  rw [numberAfter_iterate c hi, numberAfter_iterate c hj] at h
  split_ifs at h <;> omega

/-- The search stops at the first candidate that no docket holds, or at the end of its fuel. -/
theorem State.freeNumber_spec (s : State) (fuel c : Nat) : ∃ k ≤ fuel,
    s.freeNumber fuel c = numberAfter^[k] c ∧
    (∀ j < k, (s.docket? (numberAfter^[j] c)).isSome = true) ∧
    (k < fuel → s.docket? (numberAfter^[k] c) = none) := by
  induction fuel generalizing c with
  | zero => exact ⟨0, le_rfl, rfl, by simp, by simp⟩
  | succ fuel ih =>
    by_cases hc : (s.docket? c).isSome = true
    · obtain ⟨k, hk, hget, htaken, hfree⟩ := ih (numberAfter c)
      refine ⟨k + 1, by omega, by simp [State.freeNumber, hc, hget], fun j hj => ?_,
        fun h => hfree (by omega)⟩
      cases j with
      | zero => exact hc
      | succ j => exact htaken j (by omega)
    · exact ⟨0, by omega, by simp [State.freeNumber, hc], by simp, by simpa using hc⟩

/-- A table that is not full leaves a candidate free. -/
theorem State.freeNumber_free (h : s.dockets.length < 16) :
    s.docket? (s.freeNumber s.dockets.length s.nextNumber) = none ∧
    ∃ k ≤ 15, s.freeNumber s.dockets.length s.nextNumber = numberAfter^[k] s.nextNumber ∧
      ∀ j < k, (s.docket? (numberAfter^[j] s.nextNumber)).isSome = true := by
  obtain ⟨k, hk, hget, htaken, hfree⟩ := s.freeNumber_spec s.dockets.length s.nextNumber
  refine ⟨?_, k, by omega, hget, htaken⟩
  rw [hget]
  by_contra hsome
  have hall : ∀ j ∈ Finset.range (s.dockets.length + 1),
      numberAfter^[j] s.nextNumber ∈ (s.dockets.map (·.number)).toFinset := by
    intro j hj
    have hj' : (s.docket? (numberAfter^[j] s.nextNumber)).isSome = true := by
      rcases Nat.lt_or_ge j k with hlt | hge
      · exact htaken j hlt
      · have : j = k := by
          have := Finset.mem_range.mp hj
          by_contra hne
          exact hsome (hfree (by omega))
        exact this ▸ Option.isSome_iff_ne_none.mpr hsome
    obtain ⟨x, hx⟩ := Option.isSome_iff_exists.mp hj'
    simpa using ⟨x, State.docket?_mem hx, State.docket?_number hx⟩
  have hcard := Finset.card_le_card_of_injOn _ hall fun i hi j hj hij => by
    have hi := Finset.mem_range.mp hi
    have hj := Finset.mem_range.mp hj
    exact numberAfter_inj s.nextNumber (by omega) (by omega) hij
  have := List.toFinset_card_le (s.dockets.map (·.number))
  simp only [Finset.card_range, List.length_map] at hcard this
  omega

/-! ### The ledger through OPEN_DOCKET, VOID_DOCKET and RELEASE_DOCKET -/

/-- What the table reads as with a docket more, whose number is new. -/
theorem State.docket?_append (hd : s.docket? d.number = none) (ht : t.dockets = s.dockets ++ [d])
    (m : Nat) : t.docket? m = if m = d.number then some d else s.docket? m := by
  simp only [State.docket?, ht, List.find?_append]
  split
  · rename_i h
    subst h
    rw [show s.dockets.find? (fun x => x.number == d.number) = none from hd]
    simp
  · rename_i h
    have : d.number ≠ m := Ne.symm h
    simp [this]

/-- The docket that OPEN_DOCKET makes (R9, R11). -/
def State.newDocket (s : State) (n : Lane) (haulier num : Nat) : Docket :=
  { number := num, lane := n, haulier := haulier, state := .open, openedAt := some s.yardTime,
    tallies := some {} }

theorem State.openNew_dockets (s : State) (n : Lane) (haulier num : Nat) :
    (s.openNew n haulier num).dockets = s.dockets ++ [s.newDocket n haulier num] := rfl

@[simp] theorem State.newDocket_number (s : State) (n : Lane) (haulier num : Nat) :
    (s.newDocket n haulier num).number = num := rfl

@[simp] theorem State.newDocket_lane (s : State) (n : Lane) (haulier num : Nat) :
    (s.newDocket n haulier num).lane = n := rfl

@[simp] theorem State.newDocket_state (s : State) (n : Lane) (haulier num : Nat) :
    (s.newDocket n haulier num).state = .open := rfl

/-- A lane without an open docket gets one in a free slot, under a number that no docket has (R9, R11). -/
theorem State.Ledger.openNew (h : s.Ledger) {n : Lane} (hlane : s.openDocket.get n = none)
    (hslot : s.dockets.length < 16) (hnum : s.docket? num = none) (haulier : Nat) :
    (s.openNew n haulier num).Ledger := by
  have hdockets := s.openNew_dockets n haulier num
  have hget := State.docket?_append (d := s.newDocket n haulier num) hnum hdockets
  have hnone {q : Docket → Prop} : ¬ ∃ x, s.docket? num = some x ∧ q x := by simp [hnum]
  refine ⟨by simp [hdockets]; omega, ?_, fun m x hx => ?_, fun n' m => ?_, h.finishedNodup, fun m => ?_,
    fun m => ?_, h.recordsNodup⟩
  · rw [hdockets, List.map_append, List.nodup_append]
    refine ⟨h.numbers, by simp, fun a ha b hb => ?_⟩
    obtain ⟨x, hx, rfl⟩ := List.mem_map.mp ha
    have hb : b = num := by simpa using hb
    rintro rfl
    rw [← hb, State.docket?_of_mem h.numbers hx] at hnum
    exact Option.some_ne_none _ hnum
  · rw [hget] at hx
    split at hx
    · cases hx; rfl
    · exact h.orders m x hx
  · show (s.openDocket.set n (some num)).get n' = some m ↔ _
    rw [hget, PerLane.get_set, State.newDocket_number]
    by_cases hm : m = num
    · subst hm
      have : s.openDocket.get n' ≠ some m := fun hn => hnone ((h.lanes n' m).mp hn)
      by_cases hn : n' = n
      · simp [hn, DocketState.holdsLane]
      · simp [hn, this, Ne.symm hn]
    · rw [if_neg hm, ← h.lanes]
      by_cases hn : n' = n
      · simp [hn, hlane, Ne.symm hm]
      · simp [hn]
  · show m ∈ s.finished ↔ _
    rw [hget, h.finished]
    by_cases hm : m = num <;> simp [hm, hnum, DocketState.finished]
  · show (∃ e ∈ s.settlements, e.2.docket = m) ↔ _
    rw [hget, h.records]
    by_cases hm : m = num <;> simp [hm, hnum]

/-- A docket that joins the finished list was not in it. -/
theorem State.Ledger.joins_nodup (h : s.Ledger) (hd : s.docket? num = some d)
    (hf : d.state.finished = false) : (s.finished ++ [num]).Nodup := by
  rw [List.nodup_append]
  refine ⟨h.finishedNodup, by simp, fun a ha b hb => ?_⟩
  rintro rfl
  rw [List.mem_singleton] at hb
  exact h.not_finished hd hf (hb ▸ ha)

/-- A docket voided by the office (R20). -/
def Docket.voided (d : Docket) : Docket := { d with state := .voided, closedAt := none }

/-- A voided docket leaves its lane and joins the finished list (R20). -/
theorem State.Ledger.void (h : s.Ledger) (hd : s.docket? num = some d) (hl : d.state.holdsLane = true) :
    (((s.updateDocket num Docket.voided).freeLane d.lane).joinFinished num).Ledger := by
  have hf := DocketState.not_finished_of_holdsLane hl
  have horder : d.order.isNone = true := by
    have := h.orders num d hd
    cases hs : d.state <;> simp_all [Docket.fits, DocketState.holdsLane]
  refine h.change (num := num) (d' := d.voided) ?_ (fun m => ?_)
    horder (fun n m => ?_) (by simpa using h.joins_nodup hd hf) (fun m => ?_) (fun m => ?_)
    (by simpa using h.recordsNodup)
  · simp only [State.joinFinished_frame, State.freeLane_frame, State.updateDocket_dockets, List.map_map]
    exact List.map_congr_left fun y _ => by simp only [Function.comp_apply]; split <;> rfl
  · exact (s.docket?_updateDocket num m (f := Docket.voided) fun _ => rfl).trans (by rw [hd]; rfl)
  · simp [Docket.voided, DocketState.holdsLane, h.lanes_freed hd hl, -PerLane.get_set]
  · rw [State.joinFinished_finished, List.mem_append]
    simp [Docket.voided, DocketState.finished]
    have := h.finished_ne hd hf m
    tauto
  · have := h.records_ne hd (by rintro hs; simp [hs, DocketState.holdsLane] at hl) m
    simpa [Docket.voided] using this

/-- A finished docket is released: its slot and its place in the finished list become free (R22). -/
theorem State.Ledger.release (h : s.Ledger) (hd : s.docket? num = some d)
    (hf : d.state.finished = true) (hdockets : t.dockets = s.dockets.filter fun x => x.number ≠ num)
    (hfin : t.finished = s.finished.filter (· ≠ num)) (hopen : t.openDocket = s.openDocket)
    (hrecs : t.settlements = s.settlements) : t.Ledger := by
  have hl : d.state.holdsLane = false := by
    cases hs : d.state <;> simp_all [DocketState.holdsLane, DocketState.finished]
  have hget (m : Nat) : t.docket? m = if m = num then none else s.docket? m := by
    simp only [State.docket?, hdockets, List.find?_filter]
    split
    · simp_all
    · rename_i hm
      congr 1; funext x
      by_cases hx : x.number = m <;> simp [hx, hm]
  refine ⟨?_, ?_, fun m x hx => ?_, fun n m => ?_, ?_, fun m => ?_, fun m => ?_, hrecs ▸ h.recordsNodup⟩
  · exact hdockets ▸ (List.length_filter_le _ _).trans h.slots
  · exact hdockets ▸ h.numbers.sublist (List.filter_sublist.map _)
  · rw [hget] at hx
    split at hx
    · cases hx
    · exact h.orders m x hx
  · rw [hget, hopen, h.lanes_ne hd hl, h.lanes]
    by_cases hm : m = num <;> simp [hm]
  · exact hfin ▸ h.finishedNodup.filter _
  · rw [hget, hfin, List.mem_filter, h.finished]
    by_cases hm : m = num <;> simp [hm]
  · rw [hget, hrecs, h.records_ne hd (by intro hs; simp [hs, DocketState.finished] at hf), h.records]
    by_cases hm : m = num <;> simp [hm]

end Sys2Proof.Machine
end

section
/-! SUPPORT. What the completion of a closing does, field by field (R19, R25 to R36), and the ledger
through it. -/
namespace Sys2Proof.Machine

variable {s t : State} {n : Lane} {num : Nat} {d : Docket} {why : CloseReason}

/-! ### The fields of a completed closing -/

/-- A docket whose closing has completed with figures `f`, by the rates in force (R19, R34, R35). -/
def Docket.settledAs (why : CloseReason) (rates : Vector Nat 12) (f : Figures) (d : Docket) : Docket :=
  { d with
    closeReason := some why, rates := some rates, figures := some f
    state := if 0 < f.payout then .awaitingPayout else .nilPayout
    order := if 0 < f.payout then some { state := .pendingCommit } else d.order }

/-- The figures that a docket settles with (R25). -/
def State.figuresFor (s : State) (d : Docket) : Figures := s.settle d.haulier (d.tallies.getD {})

/-- The settlement record of a docket with a payout (R34). -/
def Docket.owedRecord (d : Docket) (f : Figures) : SettleRecord :=
  ⟨d.number, d.lane, d.haulier, d.closedAt.getD 0, f, .owed⟩

/-- Two updates of one docket are one. -/
theorem map_update_update (l : List Docket) (num : Nat) {f : Docket → Docket} (g : Docket → Docket)
    (hf : ∀ d, (f d).number = d.number) :
    (l.map fun d => if d.number = num then f d else d).map (fun d => if d.number = num then g d else d) =
      l.map fun d => if d.number = num then g (f d) else d := by
  rw [List.map_map]
  refine List.map_congr_left fun d _ => ?_
  by_cases h : d.number = num <;> simp [h, hf]

@[simp] theorem State.handOff_dockets (s : State) (d : Docket) (f : Figures) :
    (s.handOff d f).dockets = (s.updateDocket d.number fun x =>
      { x with state := .awaitingPayout, order := some { state := .pendingCommit } }).dockets := by
  cases h : lowestFree 16 s.settlements <;> simp [State.handOff, h]

@[simp] theorem State.handOff_orderQueue (s : State) (d : Docket) (f : Figures) :
    (s.handOff d f).orderQueue = s.orderQueue ++ [d.number] := by
  cases h : lowestFree 16 s.settlements <;> simp [State.handOff, h]

theorem State.handOff_settlements (s : State) (d : Docket) (f : Figures) :
    (s.handOff d f).settlements = match lowestFree 16 s.settlements with
      | some r => tablePut s.settlements r (d.owedRecord f)
      | none => s.settlements := by
  cases h : lowestFree 16 s.settlements <;> simp [State.handOff, h, Docket.owedRecord]

@[simp] theorem State.handOffNil_dockets (s : State) (d : Docket) :
    (s.handOffNil d).dockets = (s.updateDocket d.number fun x => { x with state := .nilPayout }).dockets := by
  simp [State.handOffNil]

@[simp] theorem State.handOffNil_finished (s : State) (d : Docket) :
    (s.handOffNil d).finished = s.finished ++ [d.number] := by
  simp [State.handOffNil]

theorem State.settleAccount_accounts (s : State) (haulier items : Nat) (f : Figures) :
    (s.settleAccount haulier items f).accounts = if haulier = 0 then s.accounts
      else match s.account? haulier with
        | some (r, a) => tablePut s.accounts r (a.settled items f s.yardTime)
        | none => s.accounts := by
  unfold State.settleAccount
  split
  · rfl
  · split <;> simp [*]

/-- The state in which a docket of figures `f` is handed off: its rates and figures stand, its account is
settled, and REFERRED is raised (R32, R33). -/
def State.settling (s : State) (num : Nat) (d : Docket) (f : Figures) : State :=
  let s := s.updateDocket num fun d => { d with rates := some s.settings.rates, figures := some f }
  let s := s.settleAccount d.haulier (d.tallies.getD {}).net.sum f
  if 0 < f.referred then s.raise .office .referred else s

theorem State.settleDocket_eq (hd : s.docket? num = some d) :
    s.settleDocket num = if 0 < (s.figuresFor d).payout
      then (s.settling num d (s.figuresFor d)).handOff d (s.figuresFor d)
      else (s.settling num d (s.figuresFor d)).handOffNil d := by
  simp only [State.settleDocket, hd]
  rfl

@[simp] theorem State.settling_frame (s : State) (num : Nat) (d : Docket) (f : Figures) :
    (s.settling num d f).dockets = (s.updateDocket num fun d =>
      { d with rates := some s.settings.rates, figures := some f }).dockets ∧
    (s.settling num d f).settlements = s.settlements ∧ (s.settling num d f).finished = s.finished ∧
    (s.settling num d f).orderQueue = s.orderQueue ∧ (s.settling num d f).accounts =
      (s.settleAccount d.haulier (d.tallies.getD {}).net.sum f).accounts ∧
    (s.settling num d f).waiters = s.waiters ∧ (s.settling num d f).commitQueue = s.commitQueue ∧
    (s.settling num d f).held = s.held ∧ (s.settling num d f).openDocket = s.openDocket ∧
    (s.settling num d f).grace = s.grace := by
  unfold State.settling
  split <;> simp [State.settleAccount_accounts] <;> rfl

/-- A closing that completes, up to its settlement: its reason stands, and the lane is freed (R19). -/
def State.closingFreed (s : State) (n : Lane) (num : Nat) (why : CloseReason) : State :=
  (s.updateDocket num fun d => { d with closeReason := some why }).freeLane n

theorem State.closingFreed_docket? (hd : s.docket? num = some d) :
    (s.closingFreed n num why).docket? num = some { d with closeReason := some why } :=
  (s.docket?_updateDocket num num (f := fun d => { d with closeReason := some why })
    fun _ => rfl).trans (by simp [hd])

/-- A closing that completes, up to its hand-off. -/
def State.closingSettled (s : State) (n : Lane) (num : Nat) (why : CloseReason) (d : Docket) : State :=
  (s.closingFreed n num why).settling num { d with closeReason := some why } (s.figuresFor d)

/-- A closing completes by the hand-off of its payout (R34), or with none (R35). -/
theorem State.completeClosing_eq (hd : s.docket? num = some d) :
    s.completeClosing n num why = (if 0 < (s.figuresFor d).payout
      then (s.closingSettled n num why d).handOff { d with closeReason := some why } (s.figuresFor d)
      else (s.closingSettled n num why d).handOffNil { d with closeReason := some why }).raise .lane
        .docketDone := by
  show ((s.closingFreed n num why).settleDocket num).raise .lane .docketDone = _
  rw [State.settleDocket_eq (State.closingFreed_docket? hd)]
  rfl

@[simp] theorem State.closingSettled_frame (s : State) (n : Lane) (num : Nat) (why : CloseReason)
    (d : Docket) :
    (s.closingSettled n num why d).dockets = (s.updateDocket num fun x => { x with
      closeReason := some why, rates := some s.settings.rates
      figures := some (s.figuresFor d) }).dockets ∧
    (s.closingSettled n num why d).settlements = s.settlements ∧
    (s.closingSettled n num why d).finished = s.finished ∧
    (s.closingSettled n num why d).orderQueue = s.orderQueue ∧
    (s.closingSettled n num why d).accounts =
      (s.settleAccount d.haulier (d.tallies.getD {}).net.sum (s.figuresFor d)).accounts ∧
    (s.closingSettled n num why d).openDocket = s.openDocket.set n none ∧
    (s.closingSettled n num why d).grace = s.grace.set n none ∧
    (s.closingSettled n num why d).waiters = s.waiters ∧
    (s.closingSettled n num why d).commitQueue = s.commitQueue ∧
    (s.closingSettled n num why d).held = s.held := by
  refine ⟨?_, ?_, ?_, ?_, ?_, ?_, ?_, ?_, ?_, ?_⟩
  · simp only [State.closingSettled, State.closingFreed, State.settling_frame, State.freeLane_frame,
      State.updateDocket_dockets, State.updateDocket_frame]
    exact map_update_update _ _ _ fun _ => rfl
  all_goals simp [State.closingSettled, State.closingFreed, State.settleAccount_accounts]
  rfl

theorem State.completeClosing_dockets (hd : s.docket? num = some d) :
    (s.completeClosing n num why).dockets =
      (s.updateDocket num (Docket.settledAs why s.settings.rates (s.figuresFor d))).dockets := by
  obtain rfl := State.docket?_number hd
  rw [State.completeClosing_eq hd]
  split <;> rename_i hp
  all_goals
    simp only [State.raise_frame, State.handOff_dockets, State.handOffNil_dockets,
      State.updateDocket_dockets, State.closingSettled_frame]
    refine (map_update_update _ _ _ (by exact fun _ => rfl)).trans ?_
    simp [Docket.settledAs, hp]

theorem State.completeClosing_docket? (hd : s.docket? num = some d) (m : Nat) :
    (s.completeClosing n num why).docket? m = if m = num
      then some (d.settledAs why s.settings.rates (s.figuresFor d)) else s.docket? m := by
  rw [State.docket?_congr (State.completeClosing_dockets hd),
    State.docket?_updateDocket _ _ _ (by exact fun _ => rfl), hd]
  rfl

theorem State.completeClosing_settlements (hd : s.docket? num = some d) :
    (s.completeClosing n num why).settlements = if 0 < (s.figuresFor d).payout
      then match lowestFree 16 s.settlements with
        | some r => tablePut s.settlements r (d.owedRecord (s.figuresFor d))
        | none => s.settlements
      else s.settlements := by
  rw [State.completeClosing_eq hd]
  split
  · simp only [State.raise_frame, State.handOff_settlements, State.closingSettled_frame]
    rfl
  · simp

theorem State.completeClosing_finished (hd : s.docket? num = some d) :
    (s.completeClosing n num why).finished =
      if 0 < (s.figuresFor d).payout then s.finished else s.finished ++ [num] := by
  rw [State.completeClosing_eq hd]
  split <;> simp [State.docket?_number hd]

theorem State.completeClosing_orderQueue (hd : s.docket? num = some d) :
    (s.completeClosing n num why).orderQueue =
      if 0 < (s.figuresFor d).payout then s.orderQueue ++ [num] else s.orderQueue := by
  rw [State.completeClosing_eq hd]
  split <;> simp [State.docket?_number hd]

theorem State.completeClosing_accounts (hd : s.docket? num = some d) :
    (s.completeClosing n num why).accounts =
      (s.settleAccount d.haulier (d.tallies.getD {}).net.sum (s.figuresFor d)).accounts := by
  rw [State.completeClosing_eq hd]
  split <;> simp

theorem State.completeClosing_lane (hd : s.docket? num = some d) :
    (s.completeClosing n num why).openDocket = s.openDocket.set n none ∧
    (s.completeClosing n num why).grace = s.grace.set n none := by
  rw [State.completeClosing_eq hd]
  split <;> simp

/-! ### The ledger through a completed closing -/

/-- With a closing docket in the table a settlement record is free: every record is of a docket that waits
for its payout, of which the table holds at most fifteen others (R3, R34). -/
theorem State.Ledger.record_free (h : s.Ledger) (hd : s.docket? num = some d)
    (hs : d.state ≠ .awaitingPayout) : ∃ r, lowestFree 16 s.settlements = some r := by
  by_contra hnone
  have hfull := lowestFree_none (Option.eq_none_iff_forall_ne_some.mpr fun r hr => hnone ⟨r, hr⟩)
  have h16 : 16 ≤ s.settlements.length := by
    have hsub : ∀ k ∈ Finset.range 16, k ∈ (s.settlements.map (·.1)).toFinset := by
      intro k hk
      obtain ⟨x, hx⟩ := Option.ne_none_iff_exists'.mp (hfull k (Finset.mem_range.mp hk))
      simpa using ⟨x, tableGet_mem hx⟩
    have := Finset.card_le_card hsub
    have := List.toFinset_card_le (s.settlements.map (·.1))
    simp only [Finset.card_range, List.length_map] at *
    omega
  have hsub : (s.settlements.map (·.2.docket)).Subperm ((s.dockets.map (·.number)).erase num) := by
    refine List.subperm_of_subset h.recordsNodup fun m hm => ?_
    obtain ⟨e, he, rfl⟩ := List.mem_map.mp hm
    obtain ⟨x, hx, -⟩ := (h.records _).mp ⟨e, he, rfl⟩
    refine (List.mem_erase_of_ne fun he' => h.no_record hd hs e he he').mpr ?_
    exact List.mem_map.mpr ⟨x, State.docket?_mem hx, State.docket?_number hx⟩
  have hmem : num ∈ s.dockets.map (·.number) :=
    List.mem_map.mpr ⟨d, State.docket?_mem hd, State.docket?_number hd⟩
  have hlen := hsub.length_le
  rw [List.length_erase_of_mem hmem, List.length_map, List.length_map] at hlen
  have := List.length_pos_of_mem (State.docket?_mem hd)
  have := h.slots
  omega

/-- A record put in a free place is the one entry more. -/
theorem tablePut_free_perm {α : Type} {t : Table α} {r : Nat} {a : α} (h : tableGet t r = none) :
    (tablePut t r a).Perm ((r, a) :: t) := by
  induction t with
  | nil => exact List.Perm.refl _
  | cons e t ih =>
    obtain ⟨k, b⟩ := e
    rw [tableGet_cons] at h
    split at h
    · cases h
    · rename_i hk
      simp only [tablePut, Ne.symm hk, if_false]
      split
      · exact List.Perm.refl _
      · exact ((ih h).cons _).trans (List.Perm.swap _ _ _)

/-- A docket whose closing completes leaves its lane, and waits for its payout with a settlement record of
its own, or joins the finished list (R19, R34 to R36). -/
theorem State.Ledger.completeClosing (h : s.Ledger) (hd : s.docket? num = some d)
    (hl : d.state.holdsLane = true) (why : CloseReason) :
    (s.completeClosing d.lane num why).Ledger := by
  have hf := DocketState.not_finished_of_holdsLane hl
  have hs : d.state ≠ .awaitingPayout := by rintro hs; simp [hs, DocketState.holdsLane] at hl
  have hnone : d.order.isNone = true := by
    have := h.orders num d hd
    cases hs : d.state <;> simp_all [Docket.fits, DocketState.holdsLane]
  obtain ⟨hopen, -⟩ := State.completeClosing_lane (n := d.lane) (why := why) hd
  have hnum := State.docket?_number hd
  have hnums : (s.completeClosing d.lane num why).dockets.map (·.number) = s.dockets.map (·.number) := by
    rw [State.completeClosing_dockets hd, State.updateDocket_dockets, List.map_map]
    exact List.map_congr_left fun y _ => by simp only [Function.comp_apply]; split <;> rfl
  refine h.change hnums (State.completeClosing_docket? hd) ?_ (fun n m => ?_) ?_ (fun m => ?_)
    (fun m => ?_) ?_
  · unfold Docket.settledAs Docket.fits
    by_cases hp : 0 < (s.figuresFor d).payout <;> simp [hp, hnone]
  · rw [hopen, h.lanes_freed hd hl]
    have : (d.settledAs why s.settings.rates (s.figuresFor d)).state.holdsLane = false := by
      simp only [Docket.settledAs]; split <;> rfl
    simp [this]
  · rw [State.completeClosing_finished hd]
    split
    · exact h.finishedNodup
    · exact h.joins_nodup hd hf
  · rw [State.completeClosing_finished hd]
    have := h.finished_ne hd hf m
    by_cases hp : 0 < (s.figuresFor d).payout <;>
      simp [hp, Docket.settledAs, DocketState.finished] <;> tauto
  · rw [State.completeClosing_settlements hd]
    have := h.records_ne hd hs m
    obtain ⟨r, hr⟩ := h.record_free hd hs
    by_cases hp : 0 < (s.figuresFor d).payout
    · have hperm := tablePut_free_perm (a := d.owedRecord (s.figuresFor d)) (lowestFree_spec hr).2.1
      simp only [hp, if_true, hr, hperm.mem_iff]
      rw [List.exists_mem_cons_iff, this]
      simp only [Docket.owedRecord, hnum, Docket.settledAs, hp, if_true, and_true, eq_comm (a := num)]
      tauto
    · simpa [Docket.settledAs, hp] using this
  · rw [State.completeClosing_settlements hd]
    obtain ⟨r, hr⟩ := h.record_free hd hs
    split
    · have hperm := tablePut_free_perm (a := d.owedRecord (s.figuresFor d)) (lowestFree_spec hr).2.1
      simp only [hr, (hperm.map _).nodup_iff, List.map_cons, List.nodup_cons]
      refine ⟨fun hm => ?_, h.recordsNodup⟩
      obtain ⟨e, he, he'⟩ := List.mem_map.mp hm
      exact h.no_record hd hs e he (he'.trans hnum)
    · exact h.recordsNodup

end Sys2Proof.Machine
end

section
/-! SUPPORT. Properties of the docket table, the records and the programs alone: what the lane, link, read
and settings rows do to them comes about by booking, by the completion of a closing, and by the beginning
of a program. -/
namespace Sys2Proof

/-- The rows that open, close, pay or release a docket, change its tallies or its order, or end, cut off or
scan what the store holds. -/
def Instr.movesBooks : Instr → Bool
  | .powerOnReset | .resetNAsserted | .resetNReleased | .softReset _ _ | .softResetDrainEnd
  | .resultHoldExpiry _ | .openDocket _ _ | .adjust _ _ | .closeDocket _ _ | .voidDocket _ _
  | .releaseDocket _ _ | .closeGraceExpiry _ | .takeOrder _ _ | .dispenseLimitExpiry
  | .confirmPayout _ _ | .resolveSuspense _ _ | .resolveSuspenseNotPaid _ _
  | .programAttemptEnd _ | .programAttemptTimeout | .powerLoss => true
  | .yardSecond | .setTime _ _ | .invalidCommand _ _ _ | .writeDiscarded _ _ | .writeIgnored _ _
  | .resultConsumed _ | .readDocket _ _ | .nextFinished _ _ | .loadFloat _ _ | .readFloat _ _
  | .reportDispenser _ _ | .accountAdd _ _ | .accountRemove _ _ | .accountRewrite _ _
  | .accountRead _ _ | .readStore _ _ | .setClass _ _ | .setParam _ _ | .setLane _ _
  | .storeSettings _ _ | .readClass _ _ | .laneEnable _ _ | .tuneLane _ _ | .reseedLane _ _
  | .readLane _ _ | .readStray _ _ | .clearStray _ _ | .readLinkStats _ _ | .readFaults _ _
  | .clearFaults _ _ | .readEvents _ _ | .ackReset _ _ | .lineFree | .lineStuck | .echo | .callSent
  | .noAnswer | .answerTimeout | .answerComplete _ | .gateSilent _ | .tuneLimit _ | .lost _ | .jam _
  | .scanComplete => false

namespace Machine

/-- The dockets with all that names them, the settlement records, the store, and the image of the program in
progress. -/
abbrev SameBooks (s t : State) : Prop :=
  t.dockets = s.dockets ∧ t.finished = s.finished ∧ t.openDocket = s.openDocket ∧
  t.settlements = s.settlements ∧ t.store = s.store ∧
  t.program.map (·.image) = s.program.map (·.image)

/-- A property of the dockets, the records and the programs that every booking, every closing completed
at the end of a pass or entry, and the beginning of a program keep. -/
structure DocketLaw (P : State → Prop) : Prop where
  same : ∀ {s t : State}, SameBooks s t → P s → P t
  begins : ∀ s : State, P s → P s.beginProgram
  book : ∀ (s : State) (n : Lane) (o : PassOutcome), P s → P (s.book n o)
  waitOver : ∀ (s : State) (n : Lane), P s → P (s.waitOver n)

namespace DocketLaw

variable {P : State → Prop} (K : DocketLaw P) {s : State}
include K

theorem conclude (b : State) (h : P s) : P (State.conclude b s) := by
  have hevents : P (State.orderEvents b s) := K.same (by simp [SameBooks]) h
  exact K.same (s := (State.orderEvents b s).beginProgram) (by simp [SameBooks, State.conclude])
    (K.begins _ hevents)

theorem command {p : Port} {c : CommandCode} {ps : List Byte} {run : State → State} (h : P s)
    (hrun : s.Takes p c ps → P (run s)) : P (s.command p c ps run) := by
  obtain he | ⟨rc, -, -, he⟩ | ⟨htakes, he⟩ :=
    State.command_cases (s := s) (p := p) (c := c) (ps := ps) run
  · rw [he]; exact h
  · rw [he]; exact K.same (by simp [SameBooks]) h
  · rw [he]; exact hrun htakes

theorem refused {p : Port} {c : CommandCode} {rc : ResultCode} (h : P s) : P (s.refused p c rc) :=
  K.same (by simp [SameBooks]) h

theorem answered {p : Port} {c : CommandCode} {b : Body} (h : P s) : P (s.answered p c b) :=
  K.same (by simp [SameBooks]) h

/-- A check of a command's own: it refuses, or the command goes on. -/
theorem check {C : Prop} [Decidable C] {p : Port} {c : CommandCode} {rc : ResultCode} {t : State}
    (h : P s) (ht : P t) : P (if C then s.refused p c rc else t) := by
  split
  · exact K.refused h
  · exact ht

/-- A command or event that ends after work which left the books. -/
theorem concluded (b : State) {t : State} (ht : SameBooks s t) (h : P s) : P (State.conclude b t) :=
  K.conclude b (K.same ht h)

theorem responded {p : Port} {c : CommandCode} {rc : ResultCode} {body : Body} (b : State) (h : P s) :
    P (State.conclude b (s.respond p c rc body)) :=
  K.concluded b (by simp [SameBooks]) h

/-! ### The end of a pass and of an entry -/

theorem resolve (n : Lane) (c : Cause) (q : Pass) (h : P s) : P (s.resolve n c q) := by
  have hbook := K.book s n (s.outcomeRecord n c q).outcome h
  exact K.waitOver _ _ (K.same (by simp [SameBooks]) hbook)

theorem endPass (n : Lane) (c : Cause) (h : P s) : P (s.endPass n c) := by
  unfold State.endPass
  split
  · exact K.resolve n c _ h
  · exact K.waitOver _ _ h
  all_goals exact h

theorem leaveTo (n : Lane) (c : Cause) (f : Detector → Detector) (h : P s) : P (s.leaveTo n c f) :=
  K.same (s := s.endPass n c) (by simp [SameBooks, State.leaveTo]) (K.endPass n c h)

theorem laneOff (n : Lane) (h : P s) : P (s.laneOff n) :=
  K.same (s := s.leaveTo n .disable Detector.off) (by simp [SameBooks, State.laneOff])
    (K.leaveTo n .disable Detector.off h)

theorem hear (n : Lane) (e : SampleEvent) (h : P s) : P (s.hear n e) := by
  cases e with
  | nothing => exact h
  | resolved c q => exact K.resolve n c q h
  | discarded => exact K.waitOver _ _ h

theorem checkDrift (n : Lane) (h : P s) : P (s.checkDrift n) := K.same (by simp [SameBooks]) h

theorem nextTurn (h : P s) : P s.nextTurn := K.same (by simp [SameBooks]) h

theorem countingSample (n : Lane) (raw : PerChan Nat) (h : P s) : P (s.countingSample n raw) := by
  unfold State.countingSample
  dsimp only
  refine K.checkDrift n (K.hear n _ ?_)
  split <;> exact K.same (by simp [SameBooks]) h

theorem freshSample (n : Lane) (raw : PerChan Nat) (h : P s) : P (s.freshSample n raw) := by
  unfold State.freshSample
  dsimp only
  split
  case h_3 | h_4 | h_5 | h_6 => exact K.countingSample n raw (K.same (by simp [SameBooks]) h)
  all_goals exact K.same (by simp [SameBooks]) h

theorem raiseTuneCount (n : Lane) (h : P s) : P (s.raiseTuneCount n) :=
  K.same (by simp [SameBooks]) h

theorem missDelivered (n : Lane) (h : P s) : P (s.missDelivered n) := by
  unfold State.missDelivered
  dsimp only
  split
  case h_1 | h_2 | h_3 | h_4 =>
    split
    · exact K.countingSample n _ h
    · exact K.leaveTo n _ _ h
  case h_6 =>
    split
    · exact K.raiseTuneCount n h
    · exact h
  all_goals exact K.same (by simp [SameBooks]) h

theorem sampleAnswer (x : Turn) (st : AnswerStatus) (seq : Nat) (counts : PerChan Nat) (h : P s) :
    P (s.sampleAnswer x st seq counts) := by
  unfold State.sampleAnswer
  dsimp only
  split
  · exact K.freshSample _ _ (K.same (by simp [SameBooks]) h)
  · split
    · split
      · exact K.same (by simp [SameBooks]) h
      · exact K.raiseTuneCount _ h
    · exact h

theorem freshAnswer (n : Lane) (h : P s) : P (s.freshAnswer n) := by
  unfold State.freshAnswer
  dsimp only
  split
  · exact K.same (by simp [SameBooks]) h
  · exact K.leaveTo n _ _ (K.same (by simp [SameBooks]) h)

theorem applyVerdict (x : Turn) (v : Verdict) (h : P s) : P (s.applyVerdict x v) := by
  unfold State.applyVerdict
  split
  · split
    · exact h
    · exact K.missDelivered _ h
  · exact K.freshAnswer _ h
  · split
    · exact h
    · split
      · exact K.sampleAnswer _ _ _ _ h
      · exact K.same (by simp [SameBooks]) h
      · exact K.same (by simp [SameBooks]) h

theorem applyDeferredOff (n : Lane) (h : P s) : P (s.applyDeferredOff n) := by
  unfold State.applyDeferredOff
  split
  · exact K.laneOff n h
  · exact h

theorem endTurn (x : Turn) (v : Verdict) (h : P s) : P (s.endTurn x v) := by
  have hcounted : P (((({ s with turn := none }).countTurn x v).silence x v).missRunAfter x v) :=
    K.same (by simp [SameBooks]) h
  exact K.nextTurn (K.applyDeferredOff x.lane (K.applyVerdict x v hcounted))

theorem turnEnds (e : TurnEnd) (h : P s) : P (s.turnEnds e) := by
  unfold State.turnEnds
  split
  · exact K.conclude _ (K.endTurn _ _ h)
  · exact h

theorem turnEndsIf (e : TurnEnd) (test : State → Turn → Verdict → Bool) (h : P s) :
    P (s.turnEndsIf e test) := by
  unfold State.turnEndsIf
  split
  · split
    · exact K.turnEnds e h
    · exact h
  · exact h

theorem turnMoves (a b : TurnPhase) (h : P s) : P (s.turnMoves a b) := by
  unfold State.turnMoves
  split
  · split
    · exact K.same (by simp [SameBooks]) h
    · exact h
  · exact h

theorem enableOn (n : Lane) (h : P s) : P (s.enableOn n) := by
  unfold State.enableOn State.setEnable
  dsimp only
  refine K.same ?_ h
  split_ifs <;> simp [SameBooks]

theorem enableOff (n : Lane) (h : P s) : P (s.enableOff n) := by
  unfold State.enableOff
  have henable : P (s.setEnable n false) := K.same (by simp [SameBooks, State.setEnable]) h
  dsimp only
  split
  · exact henable
  · exact K.laneOff n henable

theorem retune (n : Lane) (h : P s) : P (s.retune n) := by
  unfold State.retune
  split
  · exact h
  · exact K.same (by simp [SameBooks, State.markStale]) (K.leaveTo n .tune Detector.tuning h)

theorem reseed (n : Lane) (h : P s) : P (s.reseed n) :=
  K.same (s := s.endPass n .reseed) (by simp [SameBooks, State.reseed]) (K.endPass n .reseed h)

/-! ### The rows -/

theorem startLane (n : Lane) (h : P s) : P (s.startLane n) := by
  unfold State.startLane
  split
  · exact K.same (by simp [SameBooks]) h
  · exact h

/-- The end of STARTING queues the orders anew, and begins a program (R189). -/
theorem scanComplete (h : P s) :
    P (((s.startMoney.openPorts).startLanes).beginProgram).drivePins := by
  have hmoney : P s.startMoney := by
    unfold State.startMoney
    dsimp only
    split <;> exact K.same (by simp [SameBooks]) h
  have hports : P s.startMoney.openPorts := K.same (by simp [SameBooks, State.openPorts]) hmoney
  have hlanes : P s.startMoney.openPorts.startLanes :=
    K.nextTurn (K.startLane _ (K.startLane _ (K.startLane _ (K.startLane _ hports))))
  exact K.same (by simp [SameBooks]) (K.begins _ hlanes)

omit K in
/-- An event that looks at the state once keeps the property where both of its branches do. -/
theorem next_ite {C : Prop} [Decidable C] {t : State} (ht : P t) (h : P s) :
    ∃ u, (if C then Host.Outcome.next (φ := Fault) (ρ := Refusal) t else .next s) = .next u ∧ P u := by
  split
  · exact ⟨_, rfl, ht⟩
  · exact ⟨_, rfl, h⟩

/-- Every row that is not one of those keeps the property. -/
theorem exec_keeps {i : Instr} (hi : i.movesBooks = false) (h : P s) : ∃ t, exec i s = .next t ∧ P t := by
  cases i <;> simp only [Instr.movesBooks, Bool.true_eq_false] at hi
  case yardSecond => exact next_ite h (K.same (by simp [SameBooks]) h)
  case scanComplete => exact next_ite (K.scanComplete h) h
  case resultConsumed | invalidCommand => exact next_ite (K.same (by simp [SameBooks]) h) h
  case writeDiscarded | writeIgnored => exact ⟨_, rfl, h⟩
  case lineFree | callSent => exact ⟨_, rfl, K.turnMoves _ _ h⟩
  case lineStuck | echo | noAnswer | answerTimeout | answerComplete => exact ⟨_, rfl, K.turnEnds _ h⟩
  case gateSilent | tuneLimit | lost | jam => exact ⟨_, rfl, K.turnEndsIf _ _ h⟩
  all_goals refine ⟨_, rfl, K.command h fun _ => ?_⟩
  case setTime | readFloat | readStore | readFaults | readEvents | ackReset =>
    exact K.same (by simp [SameBooks]) h
  case storeSettings => exact K.concluded _ (by simp [SameBooks]) h
  case readDocket | nextFinished | readClass | readLane | readStray | clearStray | readLinkStats =>
    split <;> exact K.same (by simp [SameBooks]) h
  case setLane =>
    split
    · exact K.refused h
    · split <;> exact K.same (by simp [SameBooks, State.setLaneSettings]) h
  case setClass =>
    dsimp only
    split
    · exact K.check h (K.same (by simp [SameBooks]) h)
    · exact K.refused h
  case accountRead =>
    refine K.check h ?_
    split <;> exact K.same (by simp [SameBooks]) h
  case loadFloat | clearFaults => exact K.check h (K.concluded _ (by simp [SameBooks]) h)
  case reportDispenser =>
    split
    case h_4 => exact K.refused h
    all_goals exact K.concluded _ (by simp [SameBooks]) h
  case accountAdd =>
    refine K.check h (K.check h ?_)
    split
    · exact K.refused h
    · exact K.check h (K.concluded _ (by simp [SameBooks]) h)
  case accountRemove =>
    refine K.check h ?_
    split
    · exact K.refused h
    · exact K.check h (K.check h (K.concluded _ (by simp [SameBooks]) h))
  case accountRewrite =>
    refine K.check h ?_
    split
    · exact K.refused h
    · exact K.check h (K.concluded _ (by simp [SameBooks]) h)
  case setParam =>
    dsimp only
    split
    · exact K.check h (K.concluded _ (by simp [SameBooks, State.setLockoutMask]) h)
    · split
      · split <;> exact K.same (by simp [SameBooks]) h
      · exact K.refused h
  case laneEnable =>
    dsimp only
    split
    · refine K.check h (K.responded _ ?_)
      split
      · exact K.enableOn _ h
      · exact K.enableOff _ h
    · exact K.refused h
  case tuneLane =>
    split
    · exact K.refused h
    · exact K.check h (K.check h (K.responded _ (K.retune _ h)))
  case reseedLane =>
    split
    · exact K.refused h
    · exact K.check h (K.responded _ (K.reseed _ h))

end DocketLaw

end Machine
end Sys2Proof
end

section
/-! SUPPORT. The tallies and the figures: what keeps them fitting (R8, R13, R33). -/
namespace Sys2Proof.Machine

variable {s t : State}

/-! ### Tallies (R8, R13) -/

theorem Tallies.Fits.zero : ({} : Tallies).Fits := by
  refine ⟨fun k => ?_, rfl, rfl⟩
  simp

/-- Setting one class of a row of counts changes their sum by the difference. -/
theorem sum_set (v : Vector Nat 12) (k : Fin 12) (a : Nat) :
    (v.set k a).toList.sum + v[k] = v.toList.sum + a := by
  have hset (b : Nat) : (v.set k b).toList.sum =
      (v.toList.take k).sum + b + (v.toList.drop (k + 1)).sum := by
    rw [Vector.toList_set, List.sum_set, if_pos (by simp)]
  have hself : v.set k v[k] = v := Vector.set_getElem_self ..
  have hv := hset v[k]
  rw [hself] at hv
  rw [hset, hv]
  omega

/-- A row of counts that changes at one class keeps what holds at every class where it holds of the new
count. -/
theorem forall_set {q : Fin 12 → Nat → Prop} {v : Vector Nat 12} (h : ∀ k, q k v[k]) {k : Fin 12} {a : Nat}
    (ha : q k a) (j : Fin 12) : q j (v.set k a)[j] := by
  simp only [Fin.getElem_fin, Vector.getElem_set]
  split
  · rename_i hk
    rw [← Fin.ext hk]
    exact ha
  · exact h j

theorem Tallies.Fits.take {tl u : Tallies} (h : tl.Fits) {o : PassOutcome} (hu : tl.take o = some u) :
    u.Fits := by
  obtain ⟨hrows, hpasses, hsum⟩ := h
  unfold Tallies.take at hu
  split at hu
  · cases hu
  · cases o with
    | classified k =>
      dsimp only at hu
      split at hu <;> cases hu
      · rename_i hk
        have := sum_set tl.accepted k (tl.accepted[k] + 1)
        refine ⟨?_, by dsimp only; omega, by dsimp only; omega⟩
        exact forall_set (q := fun j x => tl.rejected[j] ≤ x ∧ x ≤ 9999) hrows
          ⟨(hrows k).1.trans (Nat.le_succ _), hk⟩
      · exact ⟨hrows, by dsimp only; omega, hsum⟩
    | foreign =>
      dsimp only at hu
      split at hu <;> cases hu <;> exact ⟨hrows, by dsimp only; omega, hsum⟩
    | unresolved =>
      dsimp only at hu
      split at hu <;> cases hu <;> exact ⟨hrows, by dsimp only; omega, hsum⟩

theorem Tallies.Fits.adjust {tl u : Tallies} (h : tl.Fits) {k : Fin 12} {add : Bool} {q : Nat}
    (hu : tl.adjust k add q = .ok u) : u.Fits := by
  obtain ⟨hrows, hpasses, hsum⟩ := h
  obtain ⟨hk, hk'⟩ := hrows k
  unfold Tallies.adjust at hu
  split at hu
  · split at hu <;> cases hu
    have := sum_set tl.accepted k (tl.accepted[k] + q)
    refine ⟨?_, hpasses, by dsimp only; omega⟩
    exact forall_set (q := fun j x => tl.rejected[j] ≤ x ∧ x ≤ 9999) hrows (by omega)
  · split at hu <;> cases hu
    refine ⟨?_, hpasses, hsum⟩
    exact forall_set (q := fun j x => x ≤ tl.accepted[j] ∧ tl.accepted[j] ≤ 9999) hrows (by omega)

/-- The eight figures meet the settlement identity, whatever they are computed from (R33). -/
theorem figuresOf_fits (g f carry u k : Nat) : (figuresOf g f carry u k).Fits := by
  have h1 : min (g - f + carry) (k / u * u) ≤ g - f + carry := Nat.min_le_left ..
  have h2 : min (g - f + carry) (k / u * u) / u * u ≤ min (g - f + carry) (k / u * u) :=
    Nat.div_mul_le_self ..
  refine ⟨?_, rfl, rfl⟩
  simp only [figuresOf]
  omega

/-! ### What holds the counts -/

/-- A docket's tallies and figures fit. -/
abbrev Docket.CountsFit (d : Docket) : Prop := (∀ tl ∈ d.tallies, tl.Fits) ∧ ∀ f ∈ d.figures, f.Fits

theorem State.countsFit_iff : s.CountsFit ↔ (∀ d ∈ s.dockets, d.CountsFit) ∧
    (∀ e ∈ s.settlements, e.2.figures.Fits) ∧
    (∀ e ∈ s.store.settlements, ∀ f ∈ e.2.figures?, f.Fits) ∧
    ∀ i ∈ s.program.map (·.image), ∀ f ∈ i.figures?, f.Fits := by
  simp only [State.CountsFit, Docket.CountsFit, forall_and, Option.mem_def, Option.map_eq_some_iff,
    forall_exists_index, and_imp, forall_apply_eq_imp_iff₂, and_assoc]

/-- The counts of a state whose dockets' tallies and figures, and whose records' figures, are those of a
state where they fit. -/
theorem State.CountsFit.same (h : s.CountsFit)
    (hdockets : t.dockets.map (fun d => (d.tallies, d.figures)) =
      s.dockets.map fun d => (d.tallies, d.figures))
    (hrecs : t.settlements.map (·.2.figures) = s.settlements.map (·.2.figures))
    (hstore : t.store = s.store) (hprog : t.program.map (·.image) = s.program.map (·.image)) :
    t.CountsFit := by
  rw [State.countsFit_iff] at h ⊢
  rw [hstore, hprog]
  obtain ⟨hd, hr, hs, hp⟩ := h
  refine ⟨fun d hd' => ?_, fun e he => ?_, hs, hp⟩
  · have := List.mem_map_of_mem (f := fun d : Docket => (d.tallies, d.figures)) hd'
    rw [hdockets] at this
    obtain ⟨x, hx, hxd⟩ := List.mem_map.mp this
    obtain ⟨htl, hf⟩ := Prod.mk.inj hxd
    have hx := hd x hx
    rwa [Docket.CountsFit, htl, hf] at hx
  · have := List.mem_map_of_mem (f := fun e : Nat × SettleRecord => e.2.figures) he
    rw [hrecs] at this
    obtain ⟨x, hx, hxe⟩ := List.mem_map.mp this
    exact hxe ▸ hr x hx

theorem State.CountsFit.update (h : s.CountsFit) (num : Nat) {f : Docket → Docket}
    (hf : ∀ d ∈ s.dockets, d.number = num → d.CountsFit → (f d).CountsFit) :
    (s.updateDocket num f).CountsFit := by
  rw [State.countsFit_iff] at h ⊢
  obtain ⟨hd, h⟩ := h
  refine ⟨fun d hd' => ?_, by simpa using h⟩
  rw [State.updateDocket_dockets] at hd'
  obtain ⟨x, hx, rfl⟩ := List.mem_map.mp hd'
  split
  · exact hf x hx ‹_› (hd x hx)
  · exact hd x hx

theorem State.CountsFit.tallies (h : s.CountsFit) {num : Nat} {d : Docket} (hd : s.docket? num = some d) :
    (d.tallies.getD {}).Fits := by
  obtain ⟨htl, -⟩ := h
  cases hx : d.tallies with
  | none => exact Tallies.Fits.zero
  | some tl => exact htl d (State.docket?_mem hd) tl hx

/-- Tallies that fit take the place of a docket's. -/
theorem State.CountsFit.putTallies (h : s.CountsFit) {tl : Tallies} (htl : tl.Fits) (num : Nat) :
    (s.updateDocket num fun d => { d with tallies := some tl }).CountsFit :=
  h.update num fun d _ _ hd => ⟨fun x hx => by obtain rfl : tl = x := by simpa using hx
                                               exact htl, hd.2⟩

theorem State.CountsFit.completeClosing (h : s.CountsFit) {num : Nat} {d : Docket}
    (hd : s.docket? num = some d) (n : Lane) (why : CloseReason) :
    (s.completeClosing n num why).CountsFit := by
  have hfig : (s.figuresFor d).Fits := figuresOf_fits ..
  have hupdate := h.update num (f := Docket.settledAs why s.settings.rates (s.figuresFor d))
    fun x _ _ hx => ⟨hx.1, fun f hf => by
      obtain rfl : s.figuresFor d = f := by simpa [Docket.settledAs] using hf
      exact hfig⟩
  rw [State.countsFit_iff] at hupdate ⊢
  obtain ⟨hdockets, hrecs, hrest⟩ := hupdate
  refine ⟨State.completeClosing_dockets hd ▸ hdockets, fun e he => ?_, by simpa using hrest⟩
  rw [State.completeClosing_settlements hd] at he
  split at he
  · split at he
    · rcases mem_tablePut he with rfl | he
      · exact hfig
      · exact hrecs e (by simpa using he)
    · exact hrecs e (by simpa using he)
  · exact hrecs e (by simpa using he)

/-- Every record's image has the figures of its working copy. -/
theorem State.CountsFit.image (h : s.CountsFit) (r : RecordId) : ∀ f ∈ (s.image r).figures?, f.Fits := by
  intro f hf
  obtain ⟨-, -, hrecs, -, -⟩ := h
  cases r with
  | settlement n =>
    obtain ⟨x, hx, rfl⟩ := Option.map_eq_some_iff.mp
      (show (tableGet s.settlements n).map (·.figures) = some f from hf)
    exact hrecs _ (tableGet_mem hx)
  | account n | float | fault | settings => cases hf

theorem State.CountsFit.beginProgram (h : s.CountsFit) : s.beginProgram.CountsFit := by
  have himage := h.image
  obtain ⟨htl, hf, hrecs, hstore, hprog⟩ := h
  unfold State.beginProgram
  split
  · split
    · refine ⟨htl, hf, hrecs, hstore, fun g hg => ?_⟩
      obtain rfl := Option.mem_some_iff.mp hg
      exact himage _
    · exact ⟨htl, hf, hrecs, hstore, hprog⟩
  · exact ⟨htl, hf, hrecs, hstore, hprog⟩

/-- The counts are a property of the books that bookings, closings and programs keep. -/
theorem countsLaw : DocketLaw State.CountsFit where
  same := by
    rintro s t ⟨hd, -, -, hr, hs, hp⟩ h
    exact h.same (by rw [hd]) (by rw [hr]) hs hp
  begins _ h := h.beginProgram
  book s n o h := by
    unfold State.book
    split
    · rename_i num tl hb
      simp only [State.bookingOf, Option.bind_eq_some_iff, Option.map_eq_some_iff, Prod.mk.injEq] at hb
      obtain ⟨d, hd, u, ⟨x, hx, hu⟩, -, rfl⟩ := hb
      obtain ⟨m, -, hm⟩ := Option.bind_eq_some_iff.mp hd
      exact h.putTallies ((h.1 d (State.docket?_mem hm) x hx).take hu) _
    · exact h.same (by simp) (by simp) (by simp) (by simp)
  waitOver s n h := by
    unfold State.waitOver
    split
    · rename_i d hd
      obtain ⟨m, -, hm⟩ := Option.bind_eq_some_iff.mp hd
      have hd' : s.docket? d.number = some d := by rw [State.docket?_number hm]; exact hm
      split
      · exact h.completeClosing hd' n .normal
      · exact h
    · exact h

end Sys2Proof.Machine
end

section
/-! SUPPORT. What the order operations write in the docket table and in the settlement records (R41 to R54). -/
namespace Sys2Proof.Machine

variable (s : State) (num : Nat)

/-! ### An order that is offered, returned, suspended, or becomes ready -/

@[simp] theorem State.markOwed_settlements :
    (s.markOwed num).settlements = (s.setMarker num .owed).settlements := by
  simp [State.markOwed]

@[simp] theorem State.returnOrder_dockets :
    (s.returnOrder num).dockets = (s.setOrderState num .ready).dockets := by
  simp [State.returnOrder]

@[simp] theorem State.returnOrder_settlements :
    (s.returnOrder num).settlements = (s.setMarker num .owed).settlements := by
  simp [State.returnOrder]

@[simp] theorem State.offer_dockets (p : Port) :
    (s.offer p num).dockets = (s.setOrderState num .offered).dockets := by
  unfold State.offer
  dsimp only
  split <;> simp

@[simp] theorem State.offer_settlements (p : Port) :
    (s.offer p num).settlements = (s.setMarker num .dispensing).settlements := by
  unfold State.offer
  dsimp only
  split <;> simp

@[simp] theorem State.suspend_dockets :
    (s.suspend num).dockets = (s.setOrderState num .suspense).dockets := by
  simp [State.suspend]

/-- One commit more of a PENDING_COMMIT order changes nothing, or makes it READY (R34). -/
theorem State.commitDone_cases : s.commitDone num = s ∨
    (s.orderState? num = some .pendingCommit ∧ s.commitDone num = s.setOrderState num .ready) := by
  unfold State.commitDone
  split
  · exact .inl rfl
  · split
    · exact .inr ⟨‹_›, rfl⟩
    · exact .inl rfl

theorem State.takeEnds_dockets (ok : Bool) : (s.takeEnds num ok).dockets =
    (s.setOrderState num (if ok then .dispensing else .ready)).dockets := by
  cases ok <;> simp [State.takeEnds]

theorem State.takeEnds_settlements (ok : Bool) : (s.takeEnds num ok).settlements =
    if ok then s.settlements else (s.setMarker num .owed).settlements := by
  cases ok <;> simp [State.takeEnds]

/-! ### An order that is paid (R49, R50) -/

/-- A docket whose order has been paid `amount` of `payout` (R49 steps 1 and 2). -/
def Docket.paidWith (payout amount : Nat) (d : Docket) : Docket :=
  { d with state := .paid, order := d.order.map (·.confirmed payout amount) }

@[simp] theorem State.lowerFloat_settlements (amount : Nat) :
    (s.lowerFloat amount).settlements = s.settlements := by
  unfold State.lowerFloat
  dsimp only
  split <;> simp

theorem State.pay_dockets (amount : Nat) : (s.pay num amount).dockets =
    (s.updateDocket num (Docket.paidWith (s.payoutOf num) amount)).dockets := by
  unfold State.pay
  dsimp only
  split_ifs <;> simp [Docket.paidWith]

theorem State.pay_finished (amount : Nat) : (s.pay num amount).finished = s.finished ++ [num] := by
  unfold State.pay
  dsimp only
  split_ifs <;> simp

theorem State.freeSettlement_settlements : (s.freeSettlement num).settlements =
    match s.settlementOf num with
    | some r => tableDel s.settlements r
    | none => s.settlements := by
  cases h : s.settlementOf num <;> simp [State.freeSettlement, h]

theorem State.pay_settlements (amount : Nat) : (s.pay num amount).settlements =
    match s.settlementOf num with
    | some r => tableDel s.settlements r
    | none => s.settlements := by
  unfold State.pay
  dsimp only
  rw [State.freeSettlement_settlements]
  split_ifs <;> simp [State.settlementOf]

end Sys2Proof.Machine
end

section
/-! SUPPORT. What each part of the start-up scan leaves as it was (R190, R191). -/
namespace Sys2Proof.Machine

/-- What no part of the scan changes. -/
abbrev ScanFrame (s t : State) : Prop :=
  t.pending = s.pending ∧ t.mode = s.mode ∧ t.addrStrap = s.addrStrap ∧ t.resetLow = s.resetLow ∧
  t.address = s.address ∧ t.yardTime = s.yardTime ∧ t.subSecond = s.subSecond ∧
  t.handedBack = s.handedBack ∧ t.freeCount = s.freeCount ∧ t.detectors = s.detectors ∧
  t.links = s.links ∧ t.rotation = s.rotation ∧ t.turn = s.turn ∧ t.strays = s.strays ∧
  t.finished = s.finished ∧ t.nextNumber = s.nextNumber ∧ t.openDocket = s.openDocket ∧
  t.grace = s.grace ∧ t.orderQueue = s.orderQueue ∧ t.dispenseTimer = s.dispenseTimer ∧
  t.floatLow = s.floatLow ∧ t.shortCause = s.shortCause ∧ t.emptyCause = s.emptyCause ∧
  t.store = s.store ∧ t.program = s.program ∧ t.waiters = s.waiters

theorem ScanFrame.trans {s t u : State} (h : ScanFrame s t) (h' : ScanFrame t u) : ScanFrame s u := by
  simp only [ScanFrame] at *
  simp only [h', h, and_self]

/-- The dockets and the settlement records, which the first records of the scan leave alone. -/
abbrev SameDebts (s t : State) : Prop := t.dockets = s.dockets ∧ t.settlements = s.settlements

theorem State.scanFault_frame (s : State) : ScanFrame s s.scanFault ∧ SameDebts s s.scanFault ∧
    s.scanFault.accounts = s.accounts ∧ s.scanFault.float = s.float ∧
    s.scanFault.settings = s.settings := by
  unfold State.scanFault
  split <;> simp [ScanFrame, SameDebts]

theorem State.scanSettings_frame (s : State) : ScanFrame s s.scanSettings ∧ SameDebts s s.scanSettings ∧
    s.scanSettings.accounts = s.accounts ∧ s.scanSettings.float = s.float := by
  unfold State.scanSettings
  split <;> simp [ScanFrame, SameDebts]

theorem State.scanFloat_frame (s : State) (soft : Bool) :
    ScanFrame s (s.scanFloat soft) ∧ SameDebts s (s.scanFloat soft) ∧
    (s.scanFloat soft).accounts = s.accounts ∧ (s.scanFloat soft).settings = s.settings := by
  unfold State.scanFloat
  cases soft <;> split <;> simp [ScanFrame, SameDebts]

theorem State.scanCorruptAccount_frame (s : State) (n id : Nat) :
    ScanFrame s (s.scanCorruptAccount n id) ∧ SameDebts s (s.scanCorruptAccount n id) ∧
    (s.scanCorruptAccount n id).float = s.float ∧
    (s.scanCorruptAccount n id).settings = s.settings := by
  unfold State.scanCorruptAccount
  dsimp only
  split <;> simp [ScanFrame, SameDebts]

theorem State.scanAccount_frame (s : State) (e : Nat × Cell Account) :
    ScanFrame s (s.scanAccount e) ∧ SameDebts s (s.scanAccount e) ∧
    (s.scanAccount e).float = s.float ∧ (s.scanAccount e).settings = s.settings := by
  unfold State.scanAccount
  split
  · split
    · simp [ScanFrame, SameDebts]
    · exact State.scanCorruptAccount_frame ..
  · simp [ScanFrame, SameDebts]
  · simp [ScanFrame, SameDebts]
  · exact State.scanCorruptAccount_frame ..

/-- A settlement record is restored with a docket, or freed and queued, or passed over (R190, R191). -/
theorem State.scanSettlement_frame (s : State) (e : Nat × Cell SettleRecord) :
    ScanFrame s (s.scanSettlement e) ∧ (s.scanSettlement e).float = s.float ∧
    (s.scanSettlement e).settings = s.settings ∧ (s.scanSettlement e).accounts = s.accounts := by
  unfold State.scanSettlement
  split
  · split
    · dsimp only
      split <;> simp [ScanFrame]
    · simp [ScanFrame]
  all_goals simp [ScanFrame]

/-- The accounts leave the debts alone (R190). -/
theorem State.scanAccounts_frame (s : State) (l : Table (Cell Account)) :
    ScanFrame s (l.foldl State.scanAccount s) ∧ SameDebts s (l.foldl State.scanAccount s) ∧
    (l.foldl State.scanAccount s).float = s.float ∧
    (l.foldl State.scanAccount s).settings = s.settings := by
  induction l generalizing s with
  | nil => simp [ScanFrame, SameDebts]
  | cons e l ih =>
    obtain ⟨hframe, ⟨hd, hr⟩, hfloat, hset⟩ := s.scanAccount_frame e
    obtain ⟨hframe', ⟨hd', hr'⟩, hfloat', hset'⟩ := ih (s.scanAccount e)
    exact ⟨hframe.trans hframe', ⟨hd'.trans hd, hr'.trans hr⟩, hfloat'.trans hfloat, hset'.trans hset⟩

theorem State.scanSettlements_frame (s : State) (l : Table (Cell SettleRecord)) :
    ScanFrame s (l.foldl State.scanSettlement s) ∧ (l.foldl State.scanSettlement s).float = s.float ∧
    (l.foldl State.scanSettlement s).settings = s.settings ∧
    (l.foldl State.scanSettlement s).accounts = s.accounts := by
  induction l generalizing s with
  | nil => simp [ScanFrame]
  | cons e l ih =>
    obtain ⟨hframe, hfloat, hset, hacc⟩ := s.scanSettlement_frame e
    obtain ⟨hframe', hfloat', hset', hacc'⟩ := ih (s.scanSettlement e)
    exact ⟨hframe.trans hframe', hfloat'.trans hfloat, hset'.trans hset, hacc'.trans hacc⟩

/-- The scan up to the settlement records, which leaves the dockets and those records (Table 11-2). -/
def State.scanHead (s : State) (soft : Bool) : State :=
  s.store.accounts.foldl State.scanAccount (((s.scanFault).scanSettings).scanFloat soft)

theorem State.scanHead_frame (s : State) (soft : Bool) :
    ScanFrame s (s.scanHead soft) ∧ SameDebts s (s.scanHead soft) := by
  obtain ⟨h1, ⟨hd1, hr1⟩, -⟩ := s.scanFault_frame
  obtain ⟨h2, ⟨hd2, hr2⟩, -⟩ := s.scanFault.scanSettings_frame
  obtain ⟨h3, ⟨hd3, hr3⟩, -⟩ := s.scanFault.scanSettings.scanFloat_frame soft
  obtain ⟨h4, ⟨hd4, hr4⟩, -⟩ :=
    (s.scanFault.scanSettings.scanFloat soft).scanAccounts_frame s.store.accounts
  exact ⟨((h1.trans h2).trans h3).trans h4, hd4.trans (hd3.trans (hd2.trans hd1)),
    hr4.trans (hr3.trans (hr2.trans hr1))⟩

/-- The scan reads the settlement records last; nothing before them touches the store. -/
theorem State.scan_eq (s : State) (soft : Bool) :
    s.scan soft = s.store.settlements.foldl State.scanSettlement (s.scanHead soft) := by
  have h1 := s.scanFault_frame.1
  have h2 := s.scanFault.scanSettings_frame.1
  have h3 := (s.scanFault.scanSettings.scanFloat_frame soft).1
  have hstore : (((s.scanFault).scanSettings).scanFloat soft).store = s.store := by
    simp only [ScanFrame] at h1 h2 h3
    simp only [h3, h2, h1]
  simp only [State.scan, State.scanHead, hstore]

theorem State.scan_frame (s : State) (soft : Bool) : ScanFrame s (s.scan soft) := by
  rw [State.scan_eq]
  exact (s.scanHead_frame soft).1.trans (State.scanSettlements_frame ..).1

end Sys2Proof.Machine
end

section
/-! SUPPORT. The counts through the orders, the store and the resets, and every step that keeps them. -/
namespace Sys2Proof.Machine

variable {s t : State} {num : Nat}

/-! ### Orders and markers leave the counts -/

theorem State.setOrderState_counts (s : State) (num : Nat) (st : OrderState) :
    (s.setOrderState num st).dockets.map (fun d => (d.tallies, d.figures)) =
      s.dockets.map fun d => (d.tallies, d.figures) := by
  rw [State.setOrderState, State.updateOrder, State.updateDocket_dockets, List.map_map]
  exact List.map_congr_left fun d _ => by simp only [Function.comp_apply]; split <;> rfl

theorem State.setMarker_figures (s : State) (num : Nat) (m : Marker) :
    (s.setMarker num m).settlements.map (·.2.figures) = s.settlements.map (·.2.figures) := by
  rw [State.setMarker_settlements, List.map_map]
  exact List.map_congr_left fun e _ => by simp only [Function.comp_apply]; split <;> rfl

theorem State.CountsFit.returnOrder (h : s.CountsFit) (num : Nat) : (s.returnOrder num).CountsFit :=
  h.same (by rw [State.returnOrder_dockets, State.setOrderState_counts])
    (by rw [State.returnOrder_settlements, State.setMarker_figures]) (by simp) (by simp)

theorem State.CountsFit.offer (h : s.CountsFit) (p : Port) (num : Nat) : (s.offer p num).CountsFit :=
  h.same (by rw [State.offer_dockets, State.setOrderState_counts])
    (by rw [State.offer_settlements, State.setMarker_figures]) (by simp) (by simp)

theorem State.CountsFit.suspend (h : s.CountsFit) (num : Nat) : (s.suspend num).CountsFit :=
  h.same (by rw [State.suspend_dockets, State.setOrderState_counts]) (by simp) (by simp) (by simp)

theorem State.CountsFit.pay (h : s.CountsFit) (num amount : Nat) : (s.pay num amount).CountsFit := by
  have hupdate := h.update num (f := Docket.paidWith (s.payoutOf num) amount) fun _ _ _ hd => hd
  rw [State.countsFit_iff] at hupdate ⊢
  obtain ⟨hdockets, hrecs, hrest⟩ := hupdate
  refine ⟨State.pay_dockets s num amount ▸ hdockets, fun e he => ?_, by simpa using hrest⟩
  rw [State.pay_settlements] at he
  split at he
  · exact hrecs e (by simpa using List.mem_of_mem_filter he)
  · exact hrecs e (by simpa using he)

/-! ### The outcomes of programs (Table 4-3) -/

theorem State.CountsFit.waiterEnds (h : s.CountsFit) (ok : Bool) (w : Waiter) :
    (State.waiterEnds ok s w).CountsFit := by
  unfold State.waiterEnds
  split
  · rename_i num _
    obtain he | ⟨-, he⟩ := s.commitDone_cases num
    · rw [he]; exact h
    · rw [he]; exact h.same (s.setOrderState_counts num .ready) (by simp) (by simp) (by simp)
  · rename_i num _
    refine h.same (by rw [State.takeEnds_dockets, State.setOrderState_counts]) ?_ (by simp) (by simp)
    rw [State.takeEnds_settlements]
    split
    · rfl
    · exact s.setMarker_figures num .owed
  all_goals exact h.same (by simp) (by simp) (by simp) (by simp)

theorem State.CountsFit.waitersEnd (h : s.CountsFit) (r : RecordId) (ok : Bool) :
    (s.waitersEnd r ok).CountsFit :=
  List.foldlRecOn (motive := State.CountsFit) _ _ h fun _ hb w _ => hb.waiterEnds ok w

/-! ### The store -/

theorem State.CountsFit.write_figures {m : Store}
    (h : ∀ e ∈ m.settlements, ∀ f ∈ e.2.figures?, f.Fits) {i : Image} (hi : ∀ f ∈ i.figures?, f.Fits)
    (r : RecordId) : ∀ e ∈ (m.write r i).settlements, ∀ f ∈ e.2.figures?, f.Fits := by
  unfold Store.write
  split
  case h_3 n x =>
    intro e he f hf
    rcases mem_tablePut he with rfl | he
    · exact hi f hf
    · exact h e he f hf
  case h_4 n =>
    intro e he f hf
    rcases mem_tablePut he with rfl | he
    · cases hf
    · exact h e he f hf
  all_goals exact h

theorem State.CountsFit.corrupt_figures {m : Store}
    (h : ∀ e ∈ m.settlements, ∀ f ∈ e.2.figures?, f.Fits) (r : RecordId) (k : Nat) :
    ∀ e ∈ (m.corrupt r k).settlements, ∀ f ∈ e.2.figures?, f.Fits := by
  unfold Store.corrupt
  split
  case h_2 n =>
    intro e he f hf
    rcases mem_tablePut he with rfl | he
    · cases hf
    · exact h e he f hf
  all_goals exact h

theorem State.CountsFit.leave_figures {m : Store}
    (h : ∀ e ∈ m.settlements, ∀ f ∈ e.2.figures?, f.Fits) {g : Program}
    (hg : ∀ f ∈ g.image.figures?, f.Fits) (x : Residue) :
    ∀ e ∈ (m.leave g x).settlements, ∀ f ∈ e.2.figures?, f.Fits := by
  cases x with
  | old => exact h
  | image => exact State.CountsFit.write_figures h hg g.record
  | corrupt k => exact State.CountsFit.corrupt_figures h g.record k

/-- Whatever a program that failed twice leaves, the figures in the store fit. -/
theorem State.CountsFit.leaveFailed (h : s.CountsFit) {g : Program} (hg : ∀ f ∈ g.image.figures?, f.Fits) :
    (s.leaveFailed g).CountsFit := by
  obtain ⟨htl, hf, hrecs, hstore, hprog⟩ := h
  refine ⟨by simpa using htl, by simpa using hf, by simpa using hrecs, ?_, by simpa using hprog⟩
  obtain ⟨x, hx, he⟩ | ⟨-, he⟩ := s.leaveFailed_store g
  · obtain ⟨himage, -⟩ := (s.handBackOf_eq_some g x).mp hx
    rw [he]
    refine State.CountsFit.write_figures hstore (fun f hf => ?_) _
    exact hg f (himage ▸ hf)
  · rw [he]
    exact State.CountsFit.leave_figures hstore hg _

theorem State.CountsFit.noProgram (h : s.CountsFit) : ({ s with program := none } : State).CountsFit :=
  ⟨h.1, h.2.1, h.2.2.1, h.2.2.2.1, by simp⟩

theorem State.CountsFit.programCompletes (h : s.CountsFit) {g : Program}
    (hg : ∀ f ∈ g.image.figures?, f.Fits) : (s.programCompletes g).CountsFit := by
  obtain ⟨htl, hf, hrecs, hstore, -⟩ := h
  have hwritten : ({ s with program := none, store := s.store.write g.record g.image } : State).CountsFit :=
    ⟨htl, hf, hrecs, State.CountsFit.write_figures hstore hg g.record, by simp⟩
  exact (hwritten.same (by simp) (by simp) (by simp) (by simp)).waitersEnd g.record true

theorem State.CountsFit.programFails (h : s.CountsFit) {g : Program}
    (hg : ∀ f ∈ g.image.figures?, f.Fits) : (s.programFails g).CountsFit := by
  have hended := ((h.noProgram.leaveFailed hg).same
    (t := ((({ s with program := none }).leaveFailed g).verifyFault g.record).entryEnds)
    (by simp) (by simp) (by simp) (by simp)).waitersEnd g.record false
  exact hended.same (by simp [State.programFails]) (by simp [State.programFails])
    (by simp [State.programFails]) (by simp [State.programFails])

theorem State.CountsFit.cutProgram (h : s.CountsFit) : s.cutProgram.CountsFit := by
  unfold State.cutProgram
  split
  · rename_i g hg
    obtain ⟨htl, hf, hrecs, hstore, hprog⟩ := h
    exact ⟨htl, hf, hrecs, State.CountsFit.leave_figures hstore (hprog g hg) _, by simp⟩
  · exact h

/-! ### The resets and the scan -/

/-- A part whose dockets and records are gone keeps the counts of its store. -/
theorem State.CountsFit.emptied (h : s.CountsFit) (hd : t.dockets = []) (hr : t.settlements = [])
    (hstore : t.store = s.store) (hprog : t.program = none) : t.CountsFit := by
  obtain ⟨-, -, -, hs, -⟩ := h
  exact ⟨by simp [hd], by simp [hd], by simp [hr], hstore ▸ hs, by simp [hprog]⟩

theorem State.CountsFit.scanSettlement (h : s.CountsFit) {e : Nat × Cell SettleRecord}
    (he : e ∈ s.store.settlements) : (s.scanSettlement e).CountsFit := by
  obtain ⟨htl, hf, hrecs, hstore, hprog⟩ := h
  have hcell := hstore e he
  have hsame {u : State} (hd : u.dockets = s.dockets) (hr : u.settlements = s.settlements)
      (hs : u.store = s.store) (hp : u.program = s.program) : u.CountsFit :=
    State.CountsFit.same ⟨htl, hf, hrecs, hstore, hprog⟩ (by rw [hd]) (by rw [hr]) hs (by rw [hp])
  unfold State.scanSettlement
  split
  · rename_i x hx
    rw [hx] at hcell
    split
    · have hput : ({ s with
          settlements := tablePut s.settlements e.1 x
          dockets := s.dockets ++ [x.restore] } : State).CountsFit := by
        refine ⟨fun d hd => ?_, fun d hd => ?_, fun y hy => ?_, hstore, hprog⟩
        · rcases List.mem_append.mp hd with hd | hd
          · exact htl d hd
          · simp [List.mem_singleton.mp hd, SettleRecord.restore]
        · rcases List.mem_append.mp hd with hd | hd
          · exact hf d hd
          · rw [List.mem_singleton.mp hd]; exact hcell
        · rcases mem_tablePut hy with rfl | hy
          · exact hcell _ rfl
          · exact hrecs y hy
      dsimp only
      split
      · exact hput
      · exact hput.same (by simp) (by simp) (by simp) (by simp)
    · exact hsame (by simp) (by simp) (by simp) (by simp)
  all_goals exact hsame (by simp) (by simp) (by simp) (by simp)

theorem State.CountsFit.scan (h : s.CountsFit) (soft : Bool) : (s.scan soft).CountsFit := by
  obtain ⟨hframe, hd, hr⟩ := s.scanHead_frame soft
  simp only [ScanFrame] at hframe
  rw [State.scan_eq]
  have hhead : (s.scanHead soft).CountsFit :=
    h.same (by rw [hd]) (by rw [hr]) (by simp only [hframe]) (by simp only [hframe])
  refine (List.foldlRecOn (motive := fun (u : State) => u.CountsFit ∧ u.store = s.store) _ _
    ⟨hhead, by simp only [hframe]⟩ fun u ⟨hu, hs⟩ e he => ?_).1
  have hframe' := (u.scanSettlement_frame e).1
  simp only [ScanFrame] at hframe'
  exact ⟨hu.scanSettlement (hs ▸ he), by simp only [hframe', hs]⟩

end Sys2Proof.Machine
end

section
/-! SUPPORT. The rows that move the books, each by the one operation that its body does: a property of the
books holds after the row where it holds after that operation. -/
namespace Sys2Proof.Machine

/-- The row ends in a state with the property. -/
abbrev EndsIn (P : State → Prop) (i : Instr) (s : State) : Prop := ∃ t, exec i s = .next t ∧ P t

namespace DocketLaw

variable {P : State → Prop} (K : DocketLaw P) {s : State} {p : Port} {ps : List Byte}
include K

theorem tick (h : P s) : P s.tick := by
  unfold State.tick
  split
  · exact h
  · have hprog (o : Option Program) : (o.map fun g => { g with timer := g.timer.tick }).map (·.image) =
        o.map (·.image) := by cases o <;> rfl
    refine K.same ?_ h
    dsimp only [SameBooks, State.tickTimers]
    split <;> simp [Function.comp_def]

/-! ### The docket commands -/

theorem openDocket (h : P s) (core : ∀ n haulier, s.openDocket.get n = none → s.dockets.length < 16 →
    P (s.openNew n haulier (s.freeNumber s.dockets.length s.nextNumber))) :
    EndsIn P (.openDocket p ps) s := by
  refine ⟨_, rfl, K.command h fun _ => ?_⟩
  dsimp only
  split
  · exact K.refused h
  · refine K.check h ?_
    split
    · exact K.refused h
    · rename_i hlane
      split
      · exact K.refused h
      · rename_i hslot
        split
        · exact K.refused h
        · exact K.answered (core _ _ (by simpa using hlane) (by omega))

theorem adjust (h : P s) (core : ∀ num d k add q u, s.docket? num = some d → d.state = .open →
    (d.tallies.getD {}).adjust k add q = .ok u →
    P (s.updateDocket num fun d => { d with tallies := some u })) :
    EndsIn P (.adjust p ps) s := by
  refine ⟨_, rfl, K.command h fun _ => ?_⟩
  dsimp only
  split
  · refine K.check h ?_
    split
    · exact K.refused h
    · rename_i d hd
      split
      · exact K.refused h
      · rename_i hopen
        split
        · exact K.refused h
        · exact K.answered (core _ d _ _ _ _ hd (not_not.mp hopen) ‹_›)
  · exact K.refused h

theorem closeDocket (h : P s) (core : ∀ n d, s.laneDocket n = some d → P (s.close n d.number)) :
    EndsIn P (.closeDocket p ps) s := by
  refine ⟨_, rfl, K.command h fun _ => ?_⟩
  split
  · exact K.refused h
  · split
    · exact K.refused h
    · exact K.check h (K.responded _ (core _ _ ‹_›))

theorem voidDocket (h : P s) (core : ∀ num d, s.docket? num = some d → d.state.holdsLane = true →
    P (((s.updateDocket num Docket.voided).freeLane d.lane).joinFinished num)) :
    EndsIn P (.voidDocket p ps) s := by
  refine ⟨_, rfl, K.command h fun _ => ?_⟩
  dsimp only
  split
  · exact K.refused h
  · rename_i d hd
    split
    · exact K.refused h
    · rename_i hs
      exact K.answered (core _ d hd (by simpa using hs))

theorem releaseDocket (h : P s) (core : ∀ num d, s.docket? num = some d → d.state.finished = true →
    P { s with finished := s.finished.filter (· ≠ num)
               dockets := s.dockets.filter fun d => d.number ≠ num }) :
    EndsIn P (.releaseDocket p ps) s := by
  refine ⟨_, rfl, K.command h fun _ => ?_⟩
  dsimp only
  split
  · exact K.refused h
  · rename_i d hd
    split
    · exact K.refused h
    · rename_i hs
      exact K.answered (core _ d hd (by simpa using hs))

theorem closeGraceExpiry (h : P s) (n : Lane)
    (core : ∀ d, s.laneDocket n = some d → d.state = .closing →
      P ((s.book n .unresolved).completeClosing n d.number .graceExpired)) :
    EndsIn P (.closeGraceExpiry n) s := by
  show ∃ t, execCloseGraceExpiry n s = .next t ∧ P t
  unfold execCloseGraceExpiry
  split
  · split
    · exact ⟨_, rfl, K.conclude _ (core _ ‹_› (And.right ‹_›))⟩
    · exact ⟨_, rfl, h⟩
  · exact ⟨_, rfl, h⟩

/-! ### The orders -/

theorem takeOrder (h : P s) (core : ∀ num, s.takeRefusal = none → s.orderQueue.head? = some num →
    P (s.offer p num)) : EndsIn P (.takeOrder p ps) s := by
  refine ⟨_, rfl, K.command h fun _ => ?_⟩
  split
  · exact K.conclude _ (core _ ‹_› ‹_›)
  · exact K.refused h
  · exact K.refused h

theorem dispenseLimitExpiry (h : P s) (core : ∀ num, s.orderState? num = some .dispensing →
    P (s.suspend num)) : EndsIn P .dispenseLimitExpiry s := by
  show ∃ t, execDispenseLimitExpiry s = .next t ∧ P t
  unfold execDispenseLimitExpiry
  split
  · split
    · exact ⟨_, rfl, K.conclude _ (core _ (And.right ‹_›))⟩
    · exact ⟨_, rfl, h⟩
  · exact ⟨_, rfl, h⟩

/-- The wait for the freed settlement record comes after the payment. -/
theorem waitFreed (h : P s) (r : Option Nat) (k : WaitKind) : P (s.waitFreed p r k) :=
  K.same (by cases r <;> simp [SameBooks, State.waitFreed]) h

theorem confirmPayout (h : P s) (core : ∀ num amount,
    s.orderState? num = some .dispensing ∨ s.orderState? num = some .suspense → P (s.pay num amount)) :
    EndsIn P (.confirmPayout p ps) s := by
  refine ⟨_, rfl, K.command h fun _ => K.check h (K.check h ?_)⟩
  split
  · exact K.conclude _ (K.waitFreed (core _ _ (.inl ‹_›)) _ _)
  · exact K.conclude _ (K.waitFreed (core _ _ (.inr ‹_›)) _ _)
  · exact K.refused h

theorem resolveFrame (h : P s)
    (paid : ∀ num amount, s.orderState? num = some .suspense → P (s.pay num amount))
    (notPaid : ∀ num, s.orderState? num = some .suspense → P (s.returnOrder num)) :
    P (s.resolveFrame p ps) := by
  refine K.command h fun _ => K.check h (K.check h ?_)
  split
  · exact K.refused h
  · rename_i hs
    split
    · exact K.conclude _ (K.waitFreed (paid _ _ (not_not.mp hs)) _ _)
    · exact K.responded _ (notPaid _ (not_not.mp hs))

theorem resultHoldExpiry (h : P s) (core : ∀ num, s.unstarted? = some num →
    P (((s.toReady p).raise p .resultLost).returnOrder num)) : EndsIn P (.resultHoldExpiry p) s := by
  show ∃ t, execResultHoldExpiry p s = .next t ∧ P t
  unfold execResultHoldExpiry
  dsimp only
  split
  · split
    · exact ⟨_, rfl, K.conclude _ (core _ ‹_›)⟩
    · exact ⟨_, rfl, K.same (by simp [SameBooks]) h⟩
  · exact ⟨_, rfl, h⟩

/-! ### The programs -/

theorem attemptFails {g : Program} (h : P s) (hg : s.program = some g) (fails : P (s.programFails g)) :
    P (s.attemptFails g) := by
  unfold State.attemptFails
  split
  · exact K.same (by simp [SameBooks, hg]) h
  · exact K.conclude _ fails

theorem programAttemptEnd (h : P s) (equal : Bool)
    (completes : ∀ g, s.program = some g → P (s.programCompletes g))
    (fails : ∀ g, s.program = some g → P (s.programFails g)) :
    EndsIn P (.programAttemptEnd equal) s := by
  show ∃ t, execProgramAttemptEnd equal s = .next t ∧ P t
  unfold execProgramAttemptEnd
  split
  · rename_i g hg
    refine ⟨_, rfl, ?_⟩
    split
    · exact K.conclude _ (completes g hg)
    · exact K.attemptFails h hg (fails g hg)
  · exact ⟨_, rfl, h⟩

theorem programAttemptTimeout (h : P s) (fails : ∀ g, s.program = some g → P (s.programFails g)) :
    EndsIn P .programAttemptTimeout s := by
  show ∃ t, execProgramAttemptTimeout s = .next t ∧ P t
  unfold execProgramAttemptTimeout
  split
  · exact ⟨_, rfl, K.attemptFails h ‹_› (fails _ ‹_›)⟩
  · exact ⟨_, rfl, h⟩

/-! ### The resets -/

theorem powerOnReset (cleared : P s.cutProgram.cleared) (scanned : P (s.cutProgram.cleared.scan false)) :
    EndsIn P .powerOnReset s := by
  refine ⟨_, rfl, ?_⟩
  split
  · exact K.same (by simp [SameBooks, State.powerUpHeld]) cleared
  · exact K.same (by simp [SameBooks, State.powerUp]) scanned

theorem resetNAsserted (h : P s) (cut : P s.cutProgram) : EndsIn P .resetNAsserted s := by
  show ∃ t, execResetNAsserted s = .next t ∧ P t
  unfold execResetNAsserted
  split
  · exact ⟨_, rfl, K.same (by simp [SameBooks]) h⟩
  · exact ⟨_, rfl, K.same (by simp [SameBooks]) cut⟩

theorem resetNReleased (h : P s)
    (scanned : P ((({ s with resetLow := false } : State).cutProgram.cleared).scan false)) :
    EndsIn P .resetNReleased s := by
  refine ⟨_, rfl, ?_⟩
  split
  · exact K.same (by simp [SameBooks, State.powerUp]) scanned
  · exact K.same (by simp [SameBooks]) h

theorem powerLoss (h : P s) (cleared : P s.cutProgram.cleared) : EndsIn P .powerLoss s := by
  show ∃ t, execPowerLoss s = .next t ∧ P t
  unfold execPowerLoss
  split
  · exact ⟨_, rfl, h⟩
  · exact ⟨_, rfl, K.same (by simp [SameBooks]) cleared⟩

theorem softReset (h : P s) (core : P s.endHandOver) : EndsIn P (.softReset p ps) s := by
  refine ⟨_, rfl, K.command h fun _ => ?_⟩
  have hdropped : P s.endHandOver.dropPortWaiters := 
    K.same (by simp [SameBooks, State.dropPortWaiters]) core
  exact K.same (by simp [SameBooks]) (K.conclude s hdropped)

theorem softResetDrainEnd (h : P s)
    (scanned : P (s.lanesToOff.floatToClear.drainedOut.scan true)) : EndsIn P .softResetDrainEnd s := by
  show ∃ t, execSoftResetDrainEnd s = .next t ∧ P t
  unfold execSoftResetDrainEnd
  split
  · exact ⟨_, rfl, K.same (by simp [SameBooks]) scanned⟩
  · exact ⟨_, rfl, h⟩

end DocketLaw

/-- A step is a tick of the clock or the row at the front of the queue. -/
theorem step_cases {P : State → Prop} (K : DocketLaw P) {s t : State} (h : P s)
    (hrow : ∀ i rest, P { s with pending := rest } → EndsIn P i { s with pending := rest })
    (hstep : step s = .next t) : P t := by
  unfold step at hstep
  split at hstep
  · cases hstep
    exact K.tick h
  · rename_i i rest _
    obtain ⟨u, hu, hPu⟩ := hrow i rest (K.same (by simp [SameBooks]) h)
    obtain rfl : u = t := by simpa [hu] using hstep
    exact hPu

end Sys2Proof.Machine
end

section
/-! SUPPORT. The rows that move the books keep the counts. -/
namespace Sys2Proof.Machine

variable {s : State}

theorem State.CountsFit.openNew (h : s.CountsFit) (n : Lane) (haulier num : Nat) :
    (s.openNew n haulier num).CountsFit := by
  rw [State.countsFit_iff] at h ⊢
  obtain ⟨hd, h⟩ := h
  refine ⟨fun d hd' => ?_, h⟩
  rw [State.openNew_dockets] at hd'
  rcases List.mem_append.mp hd' with hd' | hd'
  · exact hd d hd'
  · rw [List.mem_singleton.mp hd']
    refine ⟨fun tl htl => ?_, by simp [State.newDocket]⟩
    obtain rfl : {} = tl := by simpa [State.newDocket] using htl
    exact Tallies.Fits.zero

/-- A docket that the office closes (R15). -/
def Docket.closingAt (now : Nat) (d : Docket) : Docket := { d with state := .closing, closedAt := some now }

theorem State.closing_docket? {num : Nat} {d : Docket} (hd : s.docket? num = some d) (now : Nat) :
    (s.updateDocket num (Docket.closingAt now)).docket? num = some (d.closingAt now) := by
  rw [s.docket?_updateDocket num num (f := Docket.closingAt now) fun _ => rfl, hd]
  simp

/-- Booking an outcome leaves a docket as it was, but for its tallies. -/
theorem State.book_docket? {num : Nat} {d : Docket} (hd : s.docket? num = some d) (n : Lane)
    (o : PassOutcome) : ∃ tl, (s.book n o).docket? num = some { d with tallies := tl } := by
  unfold State.book
  split
  · rename_i m tl _
    have hget := s.docket?_updateDocket m num (f := fun d => { d with tallies := some tl }) fun _ => rfl
    by_cases hm : num = m
    · exact ⟨some tl, by rw [hget, if_pos hm, ← hm, hd]; rfl⟩
    · exact ⟨d.tallies, by rw [hget, if_neg hm, hd]⟩
  · refine ⟨d.tallies, (State.docket?_congr ?_ num).trans hd⟩
    simp

theorem State.CountsFit.close (h : s.CountsFit) {n : Lane} {d : Docket} (hd : s.laneDocket n = some d) :
    (s.close n d.number).CountsFit := by
  obtain ⟨m, -, hm⟩ := Option.bind_eq_some_iff.mp hd
  obtain rfl := State.docket?_number hm
  have hupdate := h.update d.number
    (f := Docket.closingAt s.yardTime) fun _ _ _ hx => hx
  unfold State.close
  dsimp only
  split
  · exact hupdate.same rfl rfl rfl rfl
  · exact hupdate.completeClosing (State.closing_docket? hm _) _ _

theorem State.CountsFit.graceExpires (h : s.CountsFit) {n : Lane} {d : Docket}
    (hd : s.laneDocket n = some d) :
    ((s.book n .unresolved).completeClosing n d.number .graceExpired).CountsFit := by
  obtain ⟨m, -, hm⟩ := Option.bind_eq_some_iff.mp hd
  obtain rfl := State.docket?_number hm
  obtain ⟨tl, hbook⟩ := State.book_docket? hm n .unresolved
  exact (countsLaw.book s n .unresolved h).completeClosing hbook _ _

theorem State.CountsFit.endHandOver (h : s.CountsFit) : s.endHandOver.CountsFit := by
  have hnone : ({ s with handedBack := none } : State).CountsFit := h
  unfold State.endHandOver
  dsimp only
  split
  · split
    · rename_i d _ _ _ _
      exact hnone.same (by simp) (by simpa using State.setMarker_figures _ d.number .owed) (by simp) (by simp)
    · rename_i num _ _
      exact (hnone.returnOrder num).same (by simp) (by simp) (by simp) (by simp)
    · exact hnone
  · exact hnone

/-- The end of the drain keeps the store (R188). -/
@[simp] theorem State.drainedOut_store (s : State) :
    s.lanesToOff.floatToClear.drainedOut.store = s.store := by
  simp [State.drainedOut, State.floatToClear, State.lanesToOff, Lane.list]

/-- Every row keeps the counts. -/
theorem State.CountsFit.exec (h : s.CountsFit) (i : Instr) : EndsIn State.CountsFit i s := by
  cases hi : i.movesBooks
  case false => exact countsLaw.exec_keeps hi h
  case true =>
    have hprogram {g : Program} (hg : s.program = some g) := h.2.2.2.2 g hg
    have hcleared : s.cutProgram.cleared.CountsFit := h.cutProgram.emptied rfl rfl rfl rfl
    have hlow : ({ s with resetLow := false } : State).CountsFit := h
    have hdrained : s.lanesToOff.floatToClear.drainedOut.CountsFit :=
      h.emptied rfl rfl (by simp) rfl
    cases i <;> simp only [Instr.movesBooks, Bool.false_eq_true] at hi
    case powerOnReset => exact countsLaw.powerOnReset hcleared (hcleared.scan false)
    case resetNAsserted => exact countsLaw.resetNAsserted h h.cutProgram
    case resetNReleased =>
      have hcleared : (State.cleared _).CountsFit := hlow.cutProgram.emptied rfl rfl rfl rfl
      exact countsLaw.resetNReleased h (hcleared.scan false)
    case softReset => exact countsLaw.softReset h h.endHandOver
    case softResetDrainEnd => exact countsLaw.softResetDrainEnd h (hdrained.scan true)
    case resultHoldExpiry =>
      refine countsLaw.resultHoldExpiry h fun num _ => State.CountsFit.returnOrder ?_ num
      exact h.same (by simp) (by simp) (by simp) (by simp)
    case openDocket => exact countsLaw.openDocket h fun n haulier _ _ => h.openNew n haulier _
    case adjust =>
      exact countsLaw.adjust h fun num d k add q u hd _ hu => h.putTallies ((h.tallies hd).adjust hu) num
    case closeDocket => exact countsLaw.closeDocket h fun _ _ => h.close
    case voidDocket =>
      refine countsLaw.voidDocket h fun num d _ _ => ?_
      exact (h.update num (f := Docket.voided) fun _ _ _ hx => hx).same (by simp) (by simp) (by simp) (by simp)
    case releaseDocket =>
      refine countsLaw.releaseDocket h fun num d _ _ => ?_
      obtain ⟨htl, hf, hrest⟩ := h
      exact ⟨fun d hd => htl d (List.mem_of_mem_filter hd), fun d hd => hf d (List.mem_of_mem_filter hd),
        hrest⟩
    case closeGraceExpiry => exact countsLaw.closeGraceExpiry h _ fun _ hd _ => h.graceExpires hd
    case takeOrder => exact countsLaw.takeOrder h fun num _ _ => h.offer _ num
    case dispenseLimitExpiry => exact countsLaw.dispenseLimitExpiry h fun num _ => h.suspend num
    case confirmPayout => exact countsLaw.confirmPayout h fun num amount _ => h.pay num amount
    case resolveSuspense | resolveSuspenseNotPaid =>
      exact ⟨_, rfl, countsLaw.resolveFrame h (fun num amount _ => h.pay num amount)
        fun num _ => h.returnOrder num⟩
    case programAttemptEnd =>
      exact countsLaw.programAttemptEnd h _ (fun g hg => h.programCompletes (hprogram hg))
        fun g hg => h.programFails (hprogram hg)
    case programAttemptTimeout =>
      exact countsLaw.programAttemptTimeout h fun g hg => h.programFails (hprogram hg)
    case powerLoss => exact countsLaw.powerLoss h hcleared

end Sys2Proof.Machine

namespace Sys2Proof.Proofs
open Sys2Proof.Machine

/-- Settles O12: the counts are a law of the books, and each row that moves the books keeps them. -/
theorem stepKeepsCountsFit : Obligations.StepKeepsCountsFit := fun _ _ h hstep =>
  step_cases countsLaw h (fun i _ h => h.exec i) hstep

end Sys2Proof.Proofs
end

section
/-! SUPPORT. The ledger through bookings, closings, the orders and their payment. -/
namespace Sys2Proof.Machine

variable {s t : State} {num : Nat} {d : Docket}

/-! ### The books -/

theorem State.Ledger.sameBooks (h : s.Ledger) (hb : SameBooks s t) : t.Ledger := by
  obtain ⟨hd, hf, ho, hr, -, -⟩ := hb
  exact h.same hd ho hf (by rw [hr])

/-- Another docket's tallies change nothing that the ledger says. -/
theorem State.Ledger.putTallies (h : s.Ledger) (num : Nat) (tl : Tallies) :
    (s.updateDocket num fun d => { d with tallies := some tl }).Ledger :=
  h.update (fun _ => rfl) fun x hx => ⟨h.orders num x hx, rfl, rfl, rfl⟩

/-- The ledger is a property of the books that bookings and closings keep. -/
theorem ledgerLaw : DocketLaw State.Ledger where
  same hb h := h.sameBooks hb
  begins s h := h.same (by simp) (by simp) (by simp) (by simp)
  book s n o h := by
    unfold State.book
    split
    · exact h.putTallies _ _
    · exact h.same (by simp) (by simp) (by simp) (by simp)
  waitOver s n h := by
    unfold State.waitOver
    split
    · rename_i d hd
      obtain ⟨-, hget, rfl, hl⟩ := h.laneDocket hd
      split
      · exact h.completeClosing hget hl .normal
      · exact h
    · exact h

/-! ### A docket that closes -/

theorem State.Ledger.close (h : s.Ledger) {n : Lane} (hd : s.laneDocket n = some d) :
    (s.close n d.number).Ledger := by
  obtain ⟨-, hget, rfl, hl⟩ := h.laneDocket hd
  have hclosing : (s.updateDocket d.number (Docket.closingAt s.yardTime)).Ledger := by
    refine h.update (fun _ => rfl) fun x hx => ?_
    obtain rfl : x = d := by simpa [hget, eq_comm] using hx
    have hfits := h.orders _ _ hget
    have hfin := DocketState.not_finished_of_holdsLane hl
    refine ⟨?_, rfl, hl.symm, hfin.symm⟩
    cases hs : x.state <;> simp_all [Docket.fits, DocketState.holdsLane, Docket.closingAt]
  unfold State.close
  dsimp only
  split
  · exact hclosing.same rfl rfl rfl rfl
  · exact hclosing.completeClosing (State.closing_docket? hget _) rfl .normal

theorem State.Ledger.graceExpires (h : s.Ledger) {n : Lane} (hd : s.laneDocket n = some d) :
    ((s.book n .unresolved).completeClosing n d.number .graceExpired).Ledger := by
  obtain ⟨-, hget, rfl, hl⟩ := h.laneDocket hd
  obtain ⟨tl, hbook⟩ := State.book_docket? hget d.lane .unresolved
  exact (ledgerLaw.book s d.lane .unresolved h).completeClosing hbook hl .graceExpired

/-! ### Orders (R5, R41 to R46) -/

theorem State.orderState?_eq_some {st : OrderState} : s.orderState? num = some st ↔
    ∃ d, s.docket? num = some d ∧ ∃ o, d.order = some o ∧ o.state = st := by
  simp [State.orderState?, State.order?, Option.map_eq_some_iff, Option.bind_eq_some_iff]

/-- A docket with an order that is not PAID waits for its payout. -/
theorem State.Ledger.awaiting_of_order (h : s.Ledger) {st : OrderState}
    (hst : s.orderState? num = some st) (hne : st ≠ .paid) :
    ∃ d, s.docket? num = some d ∧ d.state = .awaitingPayout ∧ ∃ o, d.order = some o ∧ o.state = st := by
  obtain ⟨d, hd, o, ho, rfl⟩ := State.orderState?_eq_some.mp hst
  have hfits := h.orders num d hd
  refine ⟨d, hd, ?_, o, ho, rfl⟩
  cases hs : d.state <;> simp_all [Docket.fits]

/-- No docket of this number is PAID. -/
abbrev State.NotPaid (s : State) (num : Nat) : Prop := ∀ d, s.docket? num = some d → d.state ≠ .paid

theorem State.Ledger.not_paid (h : s.Ledger) {st : OrderState} (hst : s.orderState? num = some st)
    (hne : st ≠ .paid) : s.NotPaid num := by
  obtain ⟨d, hd, hs, -⟩ := h.awaiting_of_order hst hne
  intro x hx
  obtain rfl : d = x := by simpa [hd] using hx
  rw [hs]
  decide

/-- An order moves to another state than PAID, of a docket that is not PAID. -/
theorem State.Ledger.setOrderState (h : s.Ledger) (hnp : s.NotPaid num) {st : OrderState}
    (hst : st ≠ .paid) : (s.setOrderState num st).Ledger := by
  refine h.update (fun _ => rfl) fun x hx => ⟨?_, rfl, rfl, rfl⟩
  have hfits := h.orders num x hx
  have hx := hnp x hx
  cases hs : x.state <;> cases ho : x.order <;> simp_all [Docket.fits]

theorem State.setMarker_dockets (s : State) (num : Nat) (m : Marker) :
    (s.setMarker num m).settlements.map (·.2.docket) = s.settlements.map (·.2.docket) := by
  rw [State.setMarker_settlements, List.map_map]
  exact List.map_congr_left fun e _ => by simp only [Function.comp_apply]; split <;> rfl

theorem State.Ledger.markOwed (h : s.Ledger) (num : Nat) : (s.markOwed num).Ledger :=
  h.same (by simp) (by simp) (by simp) (by rw [State.markOwed_settlements, State.setMarker_dockets])

theorem State.Ledger.returnOrder (h : s.Ledger) (hnp : s.NotPaid num) : (s.returnOrder num).Ledger :=
  (h.setOrderState hnp (st := .ready) (by decide)).same (by simp) (by simp) (by simp)
    (by rw [State.returnOrder_settlements, State.setMarker_dockets]; simp)

theorem State.Ledger.offer (h : s.Ledger) (hnp : s.NotPaid num) (p : Port) : (s.offer p num).Ledger :=
  (h.setOrderState hnp (st := .offered) (by decide)).same (by simp) (by simp) (by simp)
    (by rw [State.offer_settlements, State.setMarker_dockets]; simp)

theorem State.Ledger.suspend (h : s.Ledger) (hnp : s.NotPaid num) : (s.suspend num).Ledger :=
  (h.setOrderState hnp (st := .suspense) (by decide)).same (by simp) (by simp) (by simp) (by simp)

/-! ### Payment (R49) -/

/-- The record found for a docket is its own. -/
theorem State.settlementOf_spec {r : Nat} (h : s.settlementOf num = some r) :
    ∃ x, (r, x) ∈ s.settlements ∧ x.docket = num := by
  obtain ⟨e, he, rfl⟩ := Option.map_eq_some_iff.mp h
  exact ⟨e.2, List.mem_of_find?_eq_some he, by simpa using List.find?_some he⟩

theorem State.settlementOf_of_mem {e : Nat × SettleRecord} (he : e ∈ s.settlements)
    (hn : e.2.docket = num) : ∃ r, s.settlementOf num = some r := by
  cases h : s.settlementOf num with
  | some r => exact ⟨r, rfl⟩
  | none =>
    have : ∀ a x, (a, x) ∈ s.settlements → x.docket ≠ num := by simpa [State.settlementOf] using h
    exact absurd hn (this e.1 e.2 he)

/-- Freeing a docket's record leaves the records of all others (R49 step 5). -/
theorem State.Ledger.freed_records (h : s.Ledger) (hrise : Table.Rising s.settlements) {r : Nat}
    (hr : s.settlementOf num = some r) (m : Nat) :
    (∃ e ∈ tableDel s.settlements r, e.2.docket = m) ↔
      m ≠ num ∧ ∃ e ∈ s.settlements, e.2.docket = m := by
  obtain ⟨x, hx, rfl⟩ := State.settlementOf_spec hr
  have hself (e : Nat × SettleRecord) (he : e ∈ s.settlements) : e.1 = r ↔ e.2.docket = x.docket := by
    constructor
    · rintro rfl
      have := (hrise.get he).symm.trans (hrise.get hx)
      exact congrArg _ (Option.some.inj this)
    · intro hn
      exact congrArg Prod.fst (List.inj_on_of_nodup_map h.recordsNodup he hx hn)
  simp only [tableDel, List.mem_filter, bne_iff_ne, ne_eq]
  constructor
  · rintro ⟨e, ⟨he, hne⟩, rfl⟩
    exact ⟨fun hn => hne ((hself e he).mpr hn), e, he, rfl⟩
  · rintro ⟨hm, e, he, rfl⟩
    exact ⟨e, ⟨he, fun hn => hm ((hself e he).mp hn)⟩, rfl⟩

/-- A payment ends the wait of its docket, which joins the finished list, and frees its record
(R49). -/
theorem State.Ledger.pay (h : s.Ledger) (hrise : Table.Rising s.settlements) {st : OrderState}
    (hst : s.orderState? num = some st) (hne : st ≠ .paid) (amount : Nat) :
    (s.pay num amount).Ledger := by
  obtain ⟨d, hd, hs, o, ho, -⟩ := h.awaiting_of_order hst hne
  obtain ⟨e, he, hed⟩ := (h.records num).mpr ⟨d, hd, hs⟩
  obtain ⟨r, hr⟩ := State.settlementOf_of_mem he hed
  obtain ⟨hl, hf⟩ := (DocketState.awaiting_iff d.state).mp hs
  have hget (m : Nat) : (s.pay num amount).docket? m =
      if m = num then some (d.paidWith (s.payoutOf num) amount) else s.docket? m := by
    rw [State.docket?_congr (s.pay_dockets num amount),
      s.docket?_updateDocket _ _ (by exact fun _ => rfl), hd]
    rfl
  refine h.change ?_ hget ?_ (fun n m => ?_) ?_ (fun m => ?_) (fun m => ?_) ?_
  · rw [State.pay_dockets, State.updateDocket_dockets, List.map_map]
    exact List.map_congr_left fun y _ => by simp only [Function.comp_apply]; split <;> rfl
  · simp [Docket.paidWith, Docket.fits, ho, Order.confirmed]
  · simpa [Docket.paidWith, DocketState.holdsLane] using h.lanes_ne hd hl n m
  · rw [State.pay_finished]
    exact h.joins_nodup hd hf
  · have := h.finished_ne hd hf m
    rw [State.pay_finished, List.mem_append]
    simp [Docket.paidWith, DocketState.finished]
    tauto
  · rw [State.pay_settlements, hr]
    simpa [Docket.paidWith] using h.freed_records hrise hr m
  · rw [State.pay_settlements, hr]
    exact h.recordsNodup.sublist (List.filter_sublist.map _)

/-! ### The end of a program (Table 4-3) -/

/-- Every docket keeps its state. -/
abbrev SameStates (s t : State) : Prop :=
  ∀ m, (t.docket? m).map (·.state) = (s.docket? m).map (·.state)

theorem SameStates.notPaid (h : SameStates s t) (hnp : s.NotPaid num) : t.NotPaid num := by
  intro d hd
  have := h num
  rw [hd] at this
  obtain ⟨x, hx, hxs⟩ := Option.map_eq_some_iff.mp this.symm
  rw [← show x.state = d.state from hxs]
  exact hnp x hx

theorem State.setOrderState_states (s : State) (num : Nat) (st : OrderState) :
    SameStates s (s.setOrderState num st) := by
  intro m
  have hget := s.docket?_updateDocket num m
    (f := fun d => { d with order := d.order.map fun o => { o with state := st } }) fun _ => rfl
  show Option.map _ (State.docket? (s.updateDocket _ _) m) = _
  rw [hget]
  split
  · rw [Option.map_map, ‹m = num›]; rfl
  · rfl

/-- A waiter moves at most its order. -/
theorem State.Ledger.waiterEnds (h : s.Ledger) (ok : Bool) (w : Waiter)
    (hw : ∀ num, w.kind = .take num → s.NotPaid num) :
    (State.waiterEnds ok s w).Ledger ∧ SameStates s (State.waiterEnds ok s w) := by
  have hsame {u : State} (hu : SameBooks s u) : u.Ledger ∧ SameStates s u :=
    ⟨h.sameBooks hu, fun m => by rw [State.docket?_congr hu.1]⟩
  unfold State.waiterEnds
  split
  · rename_i num _
    obtain he | ⟨hst, he⟩ := s.commitDone_cases num
    · rw [he]; exact ⟨h, fun _ => rfl⟩
    · rw [he]
      exact ⟨h.setOrderState (h.not_paid hst (by decide)) (by decide), s.setOrderState_states num .ready⟩
  · rename_i num hk
    have hd := s.takeEnds_dockets num ok
    refine ⟨(h.setOrderState (hw num hk) (st := if ok then .dispensing else .ready)
      (by cases ok <;> decide)).same hd ?_ ?_ ?_, fun m => ?_⟩
    · cases ok <;> simp [State.takeEnds]
    · cases ok <;> simp [State.takeEnds]
    · rw [State.takeEnds_settlements]
      cases ok
      · exact State.setMarker_dockets _ _ _
      · rfl
    · rw [State.docket?_congr hd]
      exact s.setOrderState_states num _ m
  all_goals exact hsame (by simp [SameBooks])

theorem State.Ledger.waiters_foldl (h : s.Ledger) (ok : Bool) (ws : List Waiter)
    (hw : ∀ w ∈ ws, ∀ num, w.kind = .take num → s.NotPaid num) :
    (ws.foldl (State.waiterEnds ok) s).Ledger := by
  induction ws generalizing s with
  | nil => exact h
  | cons w ws ih =>
    obtain ⟨hl, hs⟩ := h.waiterEnds ok w (hw w List.mem_cons_self)
    exact ih hl fun v hv num hk => hs.notPaid (hw v (List.mem_cons_of_mem _ hv) num hk)

theorem State.Ledger.waitersEnd (h : s.Ledger) (r : RecordId) (ok : Bool)
    (hw : ∀ w ∈ s.waiters, ∀ num, w.kind = .take num → s.NotPaid num) : (s.waitersEnd r ok).Ledger := by
  have hstart (ws : List Waiter) : ({ s with waiters := ws } : State).Ledger :=
    h.same rfl rfl rfl rfl
  exact (hstart _).waiters_foldl ok _ fun w hmem => hw w (List.mem_of_mem_filter hmem)

/-- The waiters that are TAKE_ORDERs wait for dockets that are not PAID. -/
theorem State.Fits.takes_notPaid (h : s.Fits) :
    ∀ w ∈ s.waiters, ∀ num, w.kind = .take num → s.NotPaid num := by
  intro w hw num hk
  obtain ⟨-, -, htakes, -⟩ := h.orders
  have := htakes w hw
  exact h.ledger.not_paid (st := .offered) (by simpa [State.takeFits, hk] using this) (by decide)

/-- The waiters of a state with the same books and waiters. -/
theorem State.Fits.waitersEnd (h : s.Fits) (hd : t.dockets = s.dockets) (hf : t.finished = s.finished)
    (ho : t.openDocket = s.openDocket) (hr : t.settlements = s.settlements) (hw : t.waiters = s.waiters)
    (r : RecordId) (ok : Bool) : (t.waitersEnd r ok).Ledger := by
  refine (h.ledger.same hd ho hf (by rw [hr])).waitersEnd r ok fun w hmem num hk x hx => ?_
  exact h.takes_notPaid w (hw ▸ hmem) num hk x ((State.docket?_congr hd num) ▸ hx)

end Sys2Proof.Machine
end

section
/-! SUPPORT. The ledger through the programs' ends, the scan and the resets, and every step that keeps it. -/
namespace Sys2Proof.Machine

variable {s t : State}

/-! ### The ends of programs -/

theorem State.Fits.programCompletes_ledger (h : s.Fits) (g : Program) : (s.programCompletes g).Ledger :=
  h.waitersEnd (by simp) (by simp) (by simp) (by simp) (by simp) g.record true

theorem State.Fits.programFails_ledger (h : s.Fits) (g : Program) : (s.programFails g).Ledger := by
  have hended := h.waitersEnd
    (t := ((({ s with program := none }).leaveFailed g).verifyFault g.record).entryEnds)
    (by simp) (by simp) (by simp) (by simp) (by simp) g.record false
  exact hended.same (by simp [State.programFails]) (by simp [State.programFails])
    (by simp [State.programFails]) (by simp [State.programFails])

/-! ### The scan (R190, R191) -/

/-- A part with no docket and no record has an empty ledger. -/
theorem State.Ledger.empty (hd : s.dockets = []) (hf : s.finished = []) (ho : s.openDocket = .all none)
    (hr : s.settlements = []) : s.Ledger := by
  have hget (m : Nat) : s.docket? m = none := by simp [State.docket?, hd]
  refine ⟨by simp [hd], by simp [hd], by simp [hget], fun n m => ?_, by simp [hf], by simp [hf, hget],
    by simp [hr, hget], by simp [hr]⟩
  cases n <;> simp [ho, hget, PerLane.get, PerLane.all]

theorem SettleRecord.restore_fits (x : SettleRecord) : x.restore.fits = true := by
  cases hm : x.marker <;> simp [SettleRecord.restore, Docket.fits, hm]

/-- A docket restored from its record, in a free slot and under a number that no docket has (R191). -/
theorem State.Ledger.restored (h : s.Ledger) {x : SettleRecord} {k : Nat} (hslot : s.dockets.length < 16)
    (hnum : s.docket? x.docket = none) (hfree : tableGet s.settlements k = none)
    (hd : t.dockets = s.dockets ++ [x.restore]) (hr : t.settlements = tablePut s.settlements k x)
    (hf : t.finished = s.finished) (ho : t.openDocket = s.openDocket) : t.Ledger := by
  have hget := State.docket?_append (d := x.restore) hnum hd
  have hperm := tablePut_free_perm (a := x) hfree
  have hstate : x.restore.state = .awaitingPayout := rfl
  have hnumber : x.restore.number = x.docket := rfl
  have hnew : ∀ e ∈ s.settlements, e.2.docket ≠ x.docket := by
    intro e he hn
    obtain ⟨y, hy, -⟩ := (h.records _).mp ⟨e, he, hn⟩
    exact Option.some_ne_none _ (hy.symm.trans hnum)
  refine ⟨by simp [hd]; omega, ?_, fun m y hy => ?_, fun n m => ?_, hf ▸ h.finishedNodup, fun m => ?_,
    fun m => ?_, ?_⟩
  · rw [hd, List.map_append, List.nodup_append]
    refine ⟨h.numbers, by simp, fun a ha b hb => ?_⟩
    obtain ⟨y, hy, rfl⟩ := List.mem_map.mp ha
    obtain rfl : b = x.docket := by simpa [hnumber] using hb
    intro hn
    rw [← hn, State.docket?_of_mem h.numbers hy] at hnum
    exact Option.some_ne_none _ hnum
  · rw [hget] at hy
    split at hy
    · cases hy; exact x.restore_fits
    · exact h.orders m y hy
  · rw [ho, hget, h.lanes]
    by_cases hm : m = x.docket <;> simp [hm, hnum, hnumber, hstate, DocketState.holdsLane]
  · rw [hf, hget, h.finished]
    by_cases hm : m = x.docket <;> simp [hm, hnum, hnumber, hstate, DocketState.finished]
  · rw [hr, hget]
    simp only [hperm.mem_iff]
    rw [List.exists_mem_cons_iff, h.records]
    by_cases hm : m = x.docket
    · simp [hm, hnumber, hstate]
    · simp [hm, hnumber, Ne.symm hm]
  · rw [hr, (hperm.map _).nodup_iff, List.map_cons, List.nodup_cons]
    refine ⟨fun hm => ?_, h.recordsNodup⟩
    obtain ⟨e, he, hn⟩ := List.mem_map.mp hm
    exact hnew e he hn

/-- One record of the scan: a docket and a working copy more, or nothing in the books. -/
theorem State.scanSettlement_cases (s : State) (e : Nat × Cell SettleRecord) :
    (∃ x, e.2 = .valid x ∧ s.docket? x.docket = none ∧
      (s.scanSettlement e).dockets = s.dockets ++ [x.restore] ∧
      (s.scanSettlement e).settlements = tablePut s.settlements e.1 x) ∨
    ((s.scanSettlement e).dockets = s.dockets ∧ (s.scanSettlement e).settlements = s.settlements) := by
  unfold State.scanSettlement
  split
  · rename_i x hx
    split
    · rename_i hnone
      refine .inl ⟨x, hx, by simpa using hnone, ?_⟩
      dsimp only
      split <;> simp
    · exact .inr (by simp)
  all_goals exact .inr (by simp)

/-- The records of the scan fill the table with a docket each. -/
theorem State.Ledger.scanSettlements (h : s.Ledger) (l : Table (Cell SettleRecord))
    (hslots : s.dockets.length + l.length ≤ 16) (hnodup : (l.map (·.1)).Nodup)
    (hfree : ∀ k ∈ l.map (·.1), tableGet s.settlements k = none) :
    (l.foldl State.scanSettlement s).Ledger := by
  induction l generalizing s with
  | nil => exact h
  | cons e l ih =>
    obtain ⟨hnew, hnodup⟩ : e.1 ∉ l.map (·.1) ∧ (l.map (·.1)).Nodup := List.nodup_cons.mp hnodup
    have hframe := (s.scanSettlement_frame e).1
    simp only [ScanFrame] at hframe
    rw [List.length_cons] at hslots
    obtain ⟨x, -, hnum, hd, hr⟩ | ⟨hd, hr⟩ := s.scanSettlement_cases e
    · refine ih (h.restored (k := e.1) (by omega) hnum (hfree _ (by simp)) hd hr (by simp only [hframe])
        (by simp only [hframe])) (by simp [hd]; omega) hnodup fun k hk => ?_
      have hne : k ≠ e.1 := ne_of_mem_of_not_mem hk hnew
      rw [hr, tableGet_put_ne _ _ hne]
      exact hfree k (List.mem_cons_of_mem _ hk)
    · refine ih (h.same hd (by simp only [hframe]) (by simp only [hframe]) (by rw [hr])) (by rw [hd]; omega)
        hnodup fun k hk => ?_
      rw [hr]
      exact hfree k (List.mem_cons_of_mem _ hk)

/-- A rising table below a bound has no more entries than the bound. -/
theorem Table.Rising.length_le {α : Type} {l : Table α} {b : Nat} (h : Table.Rising l) (hb : Table.Below l b) :
    l.length ≤ b := by
  have hsub : (l.map (·.1)).toFinset ⊆ Finset.range b := by
    intro k hk
    obtain ⟨e, he, rfl⟩ := List.mem_map.mp (List.mem_toFinset.mp hk)
    exact Finset.mem_range.mpr (hb e he)
  have hcard := Finset.card_le_card hsub
  have hnodup : (l.map (·.1)).Nodup := h.imp Nat.ne_of_lt
  rwa [List.toFinset_card_of_nodup hnodup, List.length_map, Finset.card_range] at hcard

/-- The scan of a store in its one form, over working copies that stand empty. -/
theorem State.Ledger.scan (hd : s.dockets = []) (hf : s.finished = []) (ho : s.openDocket = .all none)
    (hr : s.settlements = []) (hstore : s.store.Fits) (soft : Bool) : (s.scan soft).Ledger := by
  obtain ⟨hframe, hd', hr'⟩ := s.scanHead_frame soft
  simp only [ScanFrame] at hframe
  obtain ⟨-, -, -, hrise, hbelow, -⟩ := hstore
  rw [State.scan_eq]
  refine State.Ledger.scanSettlements (State.Ledger.empty (hd'.trans hd) (by simp only [hframe, hf])
    (by simp only [hframe, ho]) (hr'.trans hr)) _ ?_ (hrise.imp Nat.ne_of_lt) fun k _ => ?_
  · have := Table.Rising.length_le hrise hbelow
    simpa [hd', hd] using this
  · simp [hr', hr]

/-- The program in progress writes a record of Table 4-1. -/
theorem State.QueueFits.program_legal (h : s.QueueFits) {g : Program} (hg : s.program = some g) :
    g.record.legal = true := by
  obtain ⟨-, hlegal, -, -, -, -, hprog, -⟩ := h
  have hhead := (hprog (by simp [hg])).2
  rw [hg] at hhead
  obtain ⟨e, he, her⟩ := Option.map_eq_some_iff.mp hhead.symm
  rw [← show e.record = g.record from her]
  exact hlegal e (List.mem_of_mem_head? he)

/-- A program cut off leaves the store in its one form (R62, R73). -/
theorem State.cutProgram_store_fits (hstore : s.store.Fits) (hqueue : s.QueueFits) :
    s.cutProgram.store.Fits := by
  unfold State.cutProgram
  split
  · rename_i g hg
    exact hstore.leave (hqueue.program_legal hg) _
  · exact hstore

/-! ### Orders in hand -/

/-- The order whose dispense timer has not started is DISPENSING (R44). -/
theorem State.unstarted?_dispensing (hn : (s.dockets.map (·.number)).Nodup) {num : Nat}
    (h : s.unstarted? = some num) : s.orderState? num = some .dispensing := by
  unfold State.unstarted? at h
  split at h
  · cases h
  · obtain ⟨d, hd, rfl⟩ := Option.map_eq_some_iff.mp h
    obtain ⟨o, ho, hst⟩ : ∃ o, d.order = some o ∧ o.state = .dispensing := by
      simpa [Option.any_eq_true] using List.find?_some hd
    exact State.orderState?_eq_some.mpr ⟨d, State.docket?_of_mem hn (List.mem_of_find?_eq_some hd), o, ho, hst⟩

theorem State.takeRefusal_none {num : Nat} (h : s.takeRefusal = none) (hq : s.orderQueue.head? = some num) :
    s.orderState? num = some .ready := by
  unfold State.takeRefusal at h
  rw [hq] at h
  by_contra hne
  dsimp only at h
  split_ifs at h

theorem State.Ledger.endHandOver (h : s.Ledger) : s.endHandOver.Ledger := by
  have hnone : ({ s with handedBack := none } : State).Ledger := h.same rfl rfl rfl rfl
  unfold State.endHandOver
  dsimp only
  split
  · split
    · rename_i d _ _ _ _
      exact (hnone.markOwed d.number).same (by simp) (by simp) (by simp) (by simp)
    · rename_i num hun _
      have hst := State.unstarted?_dispensing hnone.numbers hun
      exact (hnone.returnOrder (hnone.not_paid hst (by decide))).same (by simp) (by simp) (by simp) (by simp)
    · exact hnone
  · exact hnone

/-! ### Every row -/

/-- Every row keeps the ledger of a state in which the invariants hold. -/
theorem State.Fits.exec_ledger (hs : s.Fits) (i : Instr) : EndsIn State.Ledger i s := by
  have h := hs.ledger
  cases hi : i.movesBooks
  case false => exact ledgerLaw.exec_keeps hi h
  case true =>
    have hcleared (u : State) : u.cleared.Ledger := .empty rfl rfl rfl rfl
    have hscan := State.cutProgram_store_fits hs.tables.1 hs.queue
    have hrise : Table.Rising s.settlements := by
      obtain ⟨-, -, -, -, hrise, -⟩ := hs.tables
      exact hrise
    have hnp {num : Nat} {st : OrderState} (hst : s.orderState? num = some st) (hne : st ≠ .paid) :=
      h.not_paid hst hne
    cases i <;> simp only [Instr.movesBooks, Bool.false_eq_true] at hi
    case powerOnReset =>
      exact ledgerLaw.powerOnReset (hcleared _) (.scan (s := State.cleared _) rfl rfl rfl rfl hscan false)
    case resetNAsserted =>
      exact ledgerLaw.resetNAsserted h (h.same (by simp) (by simp) (by simp) (by simp))
    case resetNReleased =>
      refine ledgerLaw.resetNReleased h (.scan (s := State.cleared _) rfl rfl rfl rfl ?_ false)
      exact State.cutProgram_store_fits (s := { s with resetLow := false }) hs.tables.1 hs.queue
    case softReset => exact ledgerLaw.softReset h h.endHandOver
    case softResetDrainEnd =>
      exact ledgerLaw.softResetDrainEnd h (.scan rfl rfl rfl rfl (by simpa using hs.tables.1) true)
    case resultHoldExpiry p =>
      refine ledgerLaw.resultHoldExpiry h fun num hun => State.Ledger.returnOrder ?_ ?_
      · exact h.same (by simp) (by simp) (by simp) (by simp)
      · have := hnp (State.unstarted?_dispensing h.numbers hun) (by decide)
        exact fun d hd => this d ((State.docket?_congr (by simp) num).symm.trans hd)
    case openDocket =>
      exact ledgerLaw.openDocket h fun n haulier hlane hslot =>
        h.openNew hlane hslot (State.freeNumber_free hslot).1 haulier
    case adjust => exact ledgerLaw.adjust h fun num d k add q u _ _ _ => h.putTallies num _
    case closeDocket => exact ledgerLaw.closeDocket h fun _ _ => h.close
    case voidDocket => exact ledgerLaw.voidDocket h fun _ _ => h.void
    case releaseDocket => exact ledgerLaw.releaseDocket h fun _ _ hd hf => h.release hd hf rfl rfl rfl rfl
    case closeGraceExpiry => exact ledgerLaw.closeGraceExpiry h _ fun _ hd _ => h.graceExpires hd
    case takeOrder =>
      exact ledgerLaw.takeOrder h fun num hn hq =>
        h.offer (hnp (State.takeRefusal_none hn hq) (by decide)) _
    case dispenseLimitExpiry =>
      exact ledgerLaw.dispenseLimitExpiry h fun num hst => h.suspend (hnp hst (by decide))
    case confirmPayout =>
      exact ledgerLaw.confirmPayout h fun num amount hst =>
        hst.elim (h.pay hrise · (by decide) amount) (h.pay hrise · (by decide) amount)
    case resolveSuspense | resolveSuspenseNotPaid =>
      exact ⟨_, rfl, ledgerLaw.resolveFrame h (fun num amount hst => h.pay hrise hst (by decide) amount)
        fun num hst => h.returnOrder (hnp hst (by decide))⟩
    case programAttemptEnd =>
      exact ledgerLaw.programAttemptEnd h _ (fun g _ => hs.programCompletes_ledger g)
        fun g _ => hs.programFails_ledger g
    case programAttemptTimeout =>
      exact ledgerLaw.programAttemptTimeout h fun g _ => hs.programFails_ledger g
    case powerLoss => exact ledgerLaw.powerLoss h (hcleared _)

end Sys2Proof.Machine

namespace Sys2Proof.Proofs
open Sys2Proof.Machine

/-- Settles O9: the ledger says what the docket table and the records owe each other, and every row keeps
it. -/
theorem stepKeepsDocketsFit : Obligations.StepKeepsDocketsFit := by
  intro s t h hstep
  have hpop (rest : List Instr) : ({ s with pending := rest } : State).Fits :=
    ⟨h.ports, h.lockout, h.tables, h.queue, h.dockets, h.orders, h.settlements, h.short, h.reset⟩
  have hledger := step_cases ledgerLaw h.ledger (fun i rest _ => (hpop rest).exec_ledger i) hstep
  obtain ⟨hdockets, hsettlements, -⟩ := State.ledger_iff.mp hledger
  exact ⟨hdockets, hsettlements⟩

end Sys2Proof.Proofs
end

section
/-! SUPPORT. The docket commands and the reads: what each answers, check by check (R1, R8 to R22). -/
namespace Sys2Proof.Machine

variable {s : State} {p : Port} {c : CommandCode} {ps : List Byte} {run : State → State}

/-! ### Taken commands -/

/-- A command that its body refuses shows its refusal (R1). -/
theorem exec_refuses {i : Instr} (rc : ResultCode) (hi : exec i s = .next (s.command p c ps run))
    (hpins : s.PinsRuled) (h : s.Takes p c ps) (hrun : run s = s.refused p c rc) :
    exec i s = .next (s.showing p [c.byte, rc.byte, 0, 0]) := by
  rw [hi, State.command_takes h, hrun, State.refused_showing hpins, resultBytes_nil]

/-- A command that its body answers, in a state whose lines are ruled, shows its answer. -/
theorem exec_answers {i : Instr} (hi : exec i s = .next (s.command p c ps run)) {t : State} {b : Body}
    (hpins : t.PinsRuled) (h : s.Takes p c ps) (hrun : run s = t.answered p c b) :
    exec i s = .next (t.showing p (resultBytes c.byte .ok b)) := by
  rw [hi, State.command_takes h, hrun, State.answered_showing hpins]

theorem lane?_of_lt {v : Nat} (h : 3 < v) : lane? v = none := by
  unfold lane?
  split <;> simp_all

theorem class?_eq_none {v : Nat} (h : 11 < v) : class? v = none := by
  simp [class?]
  omega

/-! ### Tallies (R8) -/

theorem Tallies.take_ceiling {tl : Tallies} (h : 4294967295 ≤ tl.passes) (o : PassOutcome) :
    tl.take o = none := by
  simp [Tallies.take, max32, h]

theorem Tallies.take_classified {tl : Tallies} (h : tl.passes < 4294967295) (k : Fin 12) :
    tl.take (.classified k) = some (if tl.accepted[k] < 9999
      then { tl with passes := tl.passes + 1, accepted := tl.accepted.set k (tl.accepted[k] + 1),
                     classified := tl.classified + 1 }
      else { tl with passes := tl.passes + 1, overflow := tl.overflow + 1 }) := by
  rw [Tallies.take, if_neg (by unfold max32; omega)]
  exact (apply_ite some _ _ _).symm

theorem Tallies.take_foreign {tl : Tallies} (h : tl.passes < 4294967295) :
    tl.take .foreign = some (if tl.foreign < 9999
      then { tl with passes := tl.passes + 1, foreign := tl.foreign + 1 }
      else { tl with passes := tl.passes + 1, overflow := tl.overflow + 1 }) := by
  rw [Tallies.take, if_neg (by unfold max32; omega)]
  exact (apply_ite some _ _ _).symm

theorem Tallies.take_unresolved {tl : Tallies} (h : tl.passes < 4294967295) :
    tl.take .unresolved = some (if tl.unresolved < 9999
      then { tl with passes := tl.passes + 1, unresolved := tl.unresolved + 1 }
      else { tl with passes := tl.passes + 1, overflow := tl.overflow + 1 }) := by
  rw [Tallies.take, if_neg (by unfold max32; omega)]
  exact (apply_ite some _ _ _).symm

/-- What is added to one class is added to the sum (R8). -/
theorem Tallies.sum_accept (tl : Tallies) (k : Fin 12) :
    (tl.accepted.set k (tl.accepted[k] + 1)).toList.sum = tl.accepted.toList.sum + 1 := by
  have := sum_set tl.accepted k (tl.accepted[k] + 1)
  omega

end Sys2Proof.Machine

namespace Sys2Proof.Proofs
open Sys2Proof.Machine

/-- Settles O28: R8's table, outcome by outcome. -/
theorem talliesTakeOutcomes : Obligations.TalliesTakeOutcomes := by
  intro tl o
  refine ⟨fun h => Tallies.take_ceiling h o, fun h => ?_⟩
  cases o with
  | classified k =>
    refine ⟨_, Tallies.take_classified h k, ?_⟩
    have hsum := tl.sum_accept k
    simp only [Fin.getElem_fin] at hsum ⊢
    by_cases hk : tl.accepted[k.1] < 9999 <;> simp [hk, -Vector.sum_toList] <;> omega
  | foreign =>
    refine ⟨_, Tallies.take_foreign h, ?_⟩
    by_cases hk : tl.foreign < 9999 <;> simp [hk] <;> omega
  | unresolved =>
    refine ⟨_, Tallies.take_unresolved h, ?_⟩
    by_cases hk : tl.unresolved < 9999 <;> simp [hk] <;> omega

end Sys2Proof.Proofs
end

section
/-! SUPPORT. What the reads of a docket, a lane, an account and the store answer. -/
namespace Sys2Proof.Proofs
open Sys2Proof.Machine

/-- Settles O23: each read is answered from the state as it stands, or refused. -/
theorem readsAnswerAndChangeNothing : Obligations.ReadsAnswerAndChangeNothing := by
  intro s p ps hpins
  refine ⟨?docket, ?noDocket, ?laneRange, ?strayRange, ?classRange, ?accountRefused, ?finished, ?lane,
    ?stray, ?classRow, ?float, ?account, ?store, ?faults⟩
  case docket => exact fun h d hd => exec_answers rfl hpins h (by simp only [hd])
  case noDocket => exact fun h hd => exec_refuses .noSuchDocket rfl hpins h (by simp only [hd])
  case laneRange =>
    exact fun h hn => exec_refuses .outOfRange rfl hpins h (by simp only [lane?_of_lt hn])
  case strayRange =>
    exact fun h hn => exec_refuses .outOfRange rfl hpins h (by simp only [lane?_of_lt hn])
  case classRange =>
    exact fun h hk => exec_refuses .outOfRange rfl hpins h (by simp only [class?_eq_none hk])
  case accountRefused =>
    refine fun h => ⟨fun h0 => exec_refuses .outOfRange rfl hpins h (by simp only [h0, true_or, if_true]),
      fun h0 ha => exec_refuses .unknownAccount rfl hpins h ?_⟩
    have := field_lt ps 0 3
    simp only [ha, haulierLimit]
    rw [if_neg (by omega)]
  case finished =>
    exact fun h num rest d hf hd =>
      exec_answers rfl hpins h (by simp only [hf, List.head?_cons, Option.bind_some, hd])
  case lane => exact fun h n hn => exec_answers rfl hpins h (by simp only [hn])
  case stray => exact fun h n hn => exec_answers rfl hpins h (by simp only [hn])
  case classRow => exact fun h k hk => exec_answers rfl hpins h (by simp only [hk])
  case float => exact fun h => exec_answers rfl hpins h rfl
  case account =>
    refine fun h n a h0 ha => exec_answers rfl hpins h ?_
    have := field_lt ps 0 3
    simp only [ha, haulierLimit]
    rw [if_neg (by omega)]
  case store => exact fun h => exec_answers rfl hpins h rfl
  case faults => exact fun h => exec_answers rfl hpins h rfl

end Sys2Proof.Proofs
end

section
/-! SUPPORT. ADJUST, the docket that opens, and the dockets voided and released (R10 to R13, R20, R22). -/
namespace Sys2Proof.Machine

variable {s : State} {p : Port} {c : CommandCode} {ps : List Byte} {run : State → State}

/-! ### ADJUST (R12, R13) -/

/-- The state in which one docket has other tallies. -/
abbrev State.withTallies (s : State) (num : Nat) (tl : Tallies) : State :=
  s.updateDocket num fun d => { d with tallies := some tl }

theorem State.withTallies_docket? {num : Nat} {d : Docket} (hd : s.docket? num = some d) (tl : Tallies)
    (m : Nat) : (s.withTallies num tl).docket? m =
      if m = num then some { d with tallies := some tl } else s.docket? m := by
  have hget := s.docket?_updateDocket num m (f := fun d => { d with tallies := some tl }) fun _ => rfl
  exact hget.trans (by rw [hd]; rfl)

theorem adjustAdds?_none {v : Nat} (h : v ≠ 1 ∧ v ≠ 2) : adjustAdds? v = none := by
  unfold adjustAdds?
  split <;> simp_all

theorem adjustAdds?_of {v : Nat} (h : v = 1 ∨ v = 2) : adjustAdds? v = some (v == 1) := by
  rcases h with rfl | rfl <;> rfl

/-- ADJUST stops at its parameters (R12 checks 1 and 2). -/
theorem exec_adjust_range (hpins : s.PinsRuled) (htakes : s.Takes p .adjust ps)
    (hbad : class? (field ps 2 1) = none ∨ (field ps 3 1 ≠ 1 ∧ field ps 3 1 ≠ 2) ∨ field ps 4 2 = 0 ∨
      9999 < field ps 4 2) : exec (.adjust p ps) s = .next (s.showing p [0x11, 0x13, 0, 0]) := by
  refine exec_refuses .outOfRange rfl hpins htakes ?_
  dsimp only
  split
  · rename_i hk hadd
    have hq : field ps 4 2 = 0 ∨ 9999 < field ps 4 2 := by
      rcases hbad with h | h | h
      · rw [hk] at h; cases h
      · rw [adjustAdds?_none h] at hadd; cases hadd
      · exact h
    rw [if_pos hq]
  · rfl

section
variable {k : Fin 12} (hk : class? (field ps 2 1) = some k)
  (hop : field ps 3 1 = 1 ∨ field ps 3 1 = 2) (hq : 0 < field ps 4 2 ∧ field ps 4 2 ≤ 9999)
include hk hop hq

/-- ADJUST past its parameters looks at the docket (R12 check 3). -/
theorem exec_adjust_docket (hpins : s.PinsRuled) (htakes : s.Takes p .adjust ps) :
    (s.docket? (field ps 0 2) = none →
      exec (.adjust p ps) s = .next (s.showing p [0x11, 0x15, 0, 0])) ∧
    ∀ d, s.docket? (field ps 0 2) = some d → d.state ≠ .open →
      exec (.adjust p ps) s = .next (s.showing p [0x11, 0x14, 0, 0]) := by
  have hrange : ¬ (field ps 4 2 = 0 ∨ 9999 < field ps 4 2) := by omega
  constructor
  · refine fun hd => exec_refuses .noSuchDocket rfl hpins htakes ?_
    simp only [hk, adjustAdds?_of hop, hd, if_neg hrange]
  · refine fun d hd hst => exec_refuses .wrongState rfl hpins htakes ?_
    simp only [hk, adjustAdds?_of hop, hd, if_neg hrange, if_pos hst]

/-- ADJUST of an OPEN docket does what `Tallies.adjust` says (R12 checks 4 and 5, R13). -/
theorem exec_adjust_open (hpins : s.PinsRuled) (htakes : s.Takes p .adjust ps) {d : Docket} {tl : Tallies}
    (hd : s.docket? (field ps 0 2) = some d) (hopen : d.state = .open) (htl : d.tallies = some tl) :
    (∀ rc, tl.adjust k (field ps 3 1 == 1) (field ps 4 2) = .error rc →
      exec (.adjust p ps) s = .next (s.showing p [0x11, rc.byte, 0, 0])) ∧
    ∀ u, tl.adjust k (field ps 3 1 == 1) (field ps 4 2) = .ok u →
      exec (.adjust p ps) s = .next ((s.withTallies (field ps 0 2) u).showing p
        ([0x11, 0, 4, 0] ++ be 2 u.accepted[k] ++ be 2 u.rejected[k])) := by
  have hrange : ¬ (field ps 4 2 = 0 ∨ 9999 < field ps 4 2) := by omega
  have hstate : ¬ d.state ≠ .open := not_not.mpr hopen
  constructor
  · refine fun rc hu => exec_refuses rc rfl hpins htakes ?_
    simp only [hk, adjustAdds?_of hop, hd, if_neg hrange, if_neg hstate, htl, Option.getD_some, hu]
  · refine fun u hu => (exec_answers (t := s.withTallies (field ps 0 2) u)
      (b := [fixed (be 2 u.accepted[k] ++ be 2 u.rejected[k])]) rfl hpins htakes ?_).trans ?_
    · simp only [hk, adjustAdds?_of hop, hd, if_neg hrange, if_neg hstate, htl, Option.getD_some, hu]
    · simp [resultBytes, bodyBytes, presenceBits, fixed]
      rfl

end

theorem Tallies.adjust_add (tl : Tallies) (k : Fin 12) (q : Nat) : tl.adjust k true q =
    if 9999 < tl.accepted[k] + q then .error .outOfRange
    else .ok { tl with accepted := tl.accepted.set k (tl.accepted[k] + q)
                       manualAdded := tl.manualAdded + q } := rfl

theorem Tallies.adjust_reject (tl : Tallies) (k : Fin 12) (q : Nat) : tl.adjust k false q =
    if tl.accepted[k] < tl.rejected[k] + q then .error .countShort
    else .ok { tl with rejected := tl.rejected.set k (tl.rejected[k] + q) } := rfl

/-! ### Answers whose lines may move -/

theorem State.answered_ports (s : State) (p : Port) (c : CommandCode) (b : Body) :
    (s.answered p c b).ports = s.ports.set p { s.ports.get p with
      phase := .result, result := resultBytes c.byte .ok b, hold := some { limit := s.settings.holdTime } } :=
  rfl

/-- An answer leaves its port showing it, with its flags, and the other ports as they were. -/
theorem State.answered_shows (s : State) (p : Port) (c : CommandCode) (b : Body) :
    (s.answered p c b).Shows p (resultBytes c.byte .ok b) ∧
    ((s.answered p c b).ports.get p).flags = (s.ports.get p).flags ∧
    SameOtherPorts s (s.answered p c b) p := by
  rw [State.Shows, State.answered_ports]
  exact ⟨by simp, by simp, fun q hq => by rw [State.answered_ports]; simp [hq]⟩

/-- A result whose body is one fixed part (Table 10-6, R186). -/
theorem resultBytes_fixed (code : Byte) (rc : ResultCode) (bs : List Byte) :
    resultBytes code rc [fixed bs] = [code, rc.byte, BitVec.ofNat 8 bs.length, 0] ++ bs := by
  simp [resultBytes, bodyBytes, presenceBits, fixed]

/-! ### OPEN_DOCKET (R4, R9 to R11) -/

/-- OPEN_DOCKET stops at the lane (R10 checks 1 to 3) or at a full table (check 4). -/
theorem exec_openDocket_lane (hpins : s.PinsRuled) (htakes : s.Takes p .openDocket ps) {n : Lane}
    (hn : lane? (field ps 0 1) = some n) :
    ((s.settings.lanes.get n).enable = false ∨ (s.detectors.get n).state ≠ .idle →
      exec (.openDocket p ps) s = .next (s.showing p [0x10, 0x16, 0, 0])) ∧
    ((s.settings.lanes.get n).enable = true → (s.detectors.get n).state = .idle →
      ((s.openDocket.get n).isSome = true →
        exec (.openDocket p ps) s = .next (s.showing p [0x10, 0x17, 0, 0])) ∧
      (s.openDocket.get n = none → 16 ≤ s.dockets.length →
        exec (.openDocket p ps) s = .next (s.showing p [0x10, 0x18, 0, 0]))) := by
  refine ⟨fun h => exec_refuses .laneNotReady rfl hpins htakes ?_, fun henable hidle =>
    ⟨fun hbusy => exec_refuses .laneBusy rfl hpins htakes ?_,
      fun hfree hfull => exec_refuses .tableFull rfl hpins htakes ?_⟩⟩
  · simp only [hn]
    rw [if_pos (by simpa using h)]
  · simp [hn, henable, hidle, hbusy]
  · simp [hn, henable, hidle, hfree, hfull]

/-- OPEN_DOCKET on a lane that is ready, with a slot free, is decided by the account (R10 checks 5
and 6). -/
theorem exec_openDocket_account (htakes : s.Takes p .openDocket ps) {n : Lane}
    (hn : lane? (field ps 0 1) = some n) (henable : (s.settings.lanes.get n).enable = true)
    (hidle : (s.detectors.get n).state = .idle) (hfree : s.openDocket.get n = none)
    (hslot : s.dockets.length < 16) :
    (∀ rc, s.accountRefusal (field ps 1 3) = some rc →
      exec (.openDocket p ps) s = .next (s.refused p .openDocket rc)) ∧
    (s.accountRefusal (field ps 1 3) = none → exec (.openDocket p ps) s =
      .next ((s.openNew n (field ps 1 3) (s.freeNumber s.dockets.length s.nextNumber)).answered p
        .openDocket [fixed (be 2 (s.freeNumber s.dockets.length s.nextNumber))])) := by
  have hbody (run : State → State) := congrArg (Host.Outcome.next (φ := Fault) (ρ := Refusal))
    (State.command_takes htakes run)
  have hslot' : ¬ 16 ≤ s.dockets.length := by omega
  constructor
  · intro rc hrc
    refine (hbody _).trans ?_
    simp [hn, henable, hidle, hfree, hslot', hrc]
  · intro hrc
    refine (hbody _).trans ?_
    simp [hn, henable, hidle, hfree, hslot', hrc]

theorem State.accountRefusal_unknown {haulier : Nat} (h0 : haulier ≠ 0) (ha : s.account? haulier = none) :
    s.accountRefusal haulier = some .unknownAccount := by
  simp [State.accountRefusal, h0, ha]

theorem State.accountRefusal_frozen {haulier r : Nat} {a : Account} (h0 : haulier ≠ 0)
    (ha : s.account? haulier = some (r, a)) (hst : a.status = .frozen ∨ a.status = .corrupt) :
    s.accountRefusal haulier = some .accountFrozen := by
  have : a.status ≠ .active := by rintro h; simp [h] at hst
  simp [State.accountRefusal, h0, ha, this]

theorem State.accountRefusal_none {haulier : Nat}
    (h : haulier = 0 ∨ ∃ r a, s.account? haulier = some (r, a) ∧ a.status = .active) :
    s.accountRefusal haulier = none := by
  rcases h with h | ⟨r, a, ha, hst⟩
  · simp [State.accountRefusal, h]
  · simp [State.accountRefusal, ha, hst]

/-! ### VOID_DOCKET and RELEASE_DOCKET (R20, R22) -/

theorem DocketState.holdsLane_false {x : DocketState} (h1 : x ≠ .open) (h2 : x ≠ .closing) :
    x.holdsLane = false := by
  cases x <;> simp_all [DocketState.holdsLane]

theorem DocketState.holdsLane_true {x : DocketState} (h : x = .open ∨ x = .closing) :
    x.holdsLane = true := by
  rcases h with rfl | rfl <;> rfl

/-- The state in which a docket has been voided (R20). -/
def State.voids (s : State) (num : Nat) (d : Docket) : State :=
  ((s.updateDocket num Docket.voided).freeLane d.lane).joinFinished num

theorem exec_voidDocket (htakes : s.Takes p .voidDocket ps) {d : Docket}
    (hd : s.docket? (field ps 0 2) = some d) (hl : d.state.holdsLane = true) :
    exec (.voidDocket p ps) s =
      .next ((s.voids (field ps 0 2) d).answered p .voidDocket [fixed (be 2 (field ps 0 2))]) := by
  refine congrArg _ ((State.command_takes htakes _).trans ?_)
  simp only [hd, hl]
  rfl

theorem State.voids_docket? {num : Nat} {d : Docket} (hd : s.docket? num = some d) (m : Nat) :
    (s.voids num d).docket? m = if m = num then some d.voided else s.docket? m := by
  rw [State.docket?_congr (s := s.updateDocket num Docket.voided) (by simp [State.voids]),
    s.docket?_updateDocket _ _ (by exact fun _ => rfl), hd]
  rfl

end Sys2Proof.Machine

namespace Sys2Proof.Proofs
open Sys2Proof.Machine

/-- Settles O25: the checks in their order, and the tallies that ADJUST leaves. -/
theorem adjustChecksAndCounts : Obligations.AdjustChecksAndCounts := by
  intro s ps hpins htakes
  refine ⟨exec_adjust_range hpins htakes, fun k hk h0 h1 hop => ?_⟩
  obtain ⟨hnone, hstate⟩ := exec_adjust_docket hk hop ⟨h0, h1⟩ hpins htakes
  refine ⟨hnone, fun d hd => ⟨hstate d hd, fun tl hopen htl => ?_⟩⟩
  obtain ⟨herror, hok⟩ := exec_adjust_open hk hop ⟨h0, h1⟩ hpins htakes hd hopen htl
  have hself (u : Tallies) : (s.withTallies (field ps 0 2) u).docket? (field ps 0 2) =
      some { d with tallies := some u } := (State.withTallies_docket? hd u _).trans (if_pos rfl)
  have hothers (u : Tallies) : SameOtherDockets s (s.withTallies (field ps 0 2) u) (field ps 0 2) :=
    fun m hm => (State.withTallies_docket? hd u m).trans (if_neg hm)
  refine ⟨fun hadd hover => herror .outOfRange ?_, fun hrej hshort => herror .countShort ?_,
    fun hadd hfit => ?_, fun hrej hfit => ?_⟩
  · rw [hadd]; exact (tl.adjust_add k _).trans (if_pos hover)
  · rw [hrej]; exact (tl.adjust_reject k _).trans (if_pos hshort)
  · have hu := (tl.adjust_add k (field ps 4 2)).trans (if_neg (by omega))
    exact ⟨_, (hok _ (by rw [hadd]; exact hu)).trans (by simp), rfl, hothers _, hself _⟩
  · have hu := (tl.adjust_reject k (field ps 4 2)).trans (if_neg (by omega))
    exact ⟨_, (hok _ (by rw [hrej]; exact hu)).trans (by simp), rfl, hothers _, hself _⟩

/-- Settles O24: the checks in their order, and the docket that opens. -/
theorem openDocketChecksAndOpens : Obligations.OpenDocketChecksAndOpens := by
  intro s ps hpins htakes
  refine ⟨fun hn => exec_refuses .outOfRange rfl hpins htakes (by simp only [hn]), fun n hn => ?_⟩
  obtain ⟨hnotReady, hlane⟩ := exec_openDocket_lane hpins htakes hn
  refine ⟨hnotReady, fun henable hidle => ?_⟩
  obtain ⟨hbusy, hfull⟩ := hlane henable hidle
  refine ⟨hbusy, hfull, fun hfree hslot => ?_⟩
  obtain ⟨hrefused, hopens⟩ := exec_openDocket_account htakes hn henable hidle hfree hslot
  refine ⟨fun h0 ha => ?_, fun r a h0 ha hst => ?_, fun hac => ?_⟩
  · rw [hrefused _ (State.accountRefusal_unknown h0 ha), State.refused_showing hpins]
    rfl
  · rw [hrefused _ (State.accountRefusal_frozen h0 ha hst), State.refused_showing hpins]
    rfl
  · obtain ⟨hnum, hk⟩ := State.freeNumber_free hslot
    obtain ⟨hshows, hflags, hother⟩ := State.answered_shows
      (s.openNew n (field ps 1 3) (s.freeNumber s.dockets.length s.nextNumber)) .lane .openDocket
      [fixed (be 2 (s.freeNumber s.dockets.length s.nextNumber))]
    refine ⟨_, s.freeNumber s.dockets.length s.nextNumber, hopens (State.accountRefusal_none hac), ?_, hnum,
      hk, ?_⟩
    · rw [resultBytes_fixed, be_length] at hshows
      exact hshows
    · simp only [State.answered_frame, State.openNew, SameOrders, SameClock, SameLanes, SameFloat,
        SameRecords, SameFaults, SameStore, and_self, true_and]
      exact ⟨hflags, hother⟩

/-- Settles O29: the refusals by the docket's state, and what a docket voided or released leaves. -/
theorem voidAndReleaseDockets : Obligations.VoidAndReleaseDockets := by
  intro s ps hpins
  refine ⟨fun htakes => ⟨fun hd => ?_, fun d hd => ⟨fun h1 h2 => ?_, fun hst => ?_⟩⟩, fun htakes hf => ?_,
    fun htakes => ⟨fun hd => ?_, fun d hd => ⟨fun hst => ?_, fun hst => ?_⟩⟩⟩
  · exact exec_refuses .noSuchDocket rfl hpins htakes (by simp only [hd])
  · refine exec_refuses .wrongState rfl hpins htakes ?_
    simp only [hd, DocketState.holdsLane_false h1 h2, Bool.not_false, if_true]
  · obtain ⟨hshows, hflags, hother⟩ := State.answered_shows (s.voids (field ps 0 2) d) .office .voidDocket
      [fixed (be 2 (field ps 0 2))]
    refine ⟨_, exec_voidDocket htakes hd (DocketState.holdsLane_true hst), ?_, ?_, ?_, ?_⟩
    · rw [resultBytes_fixed, be_length] at hshows
      exact hshows
    · exact (State.docket?_congr (by simp) _).trans ((State.voids_docket? hd _).trans (if_pos rfl))
    · intro m hm
      exact (State.docket?_congr (by simp) m).trans ((State.voids_docket? hd m).trans (if_neg hm))
    · have hflagged : (s.voids (field ps 0 2) d).Flagged .office .finished := State.raise_flagged ..
      have hports : SameOtherPorts s (s.voids (field ps 0 2) d) .office := fun q hq => by
        simp [State.voids, State.joinFinished, hq]
      simp only [State.voids, State.answered_frame, State.joinFinished_frame, State.joinFinished_finished,
        State.freeLane_frame, State.updateDocket_frame, SameOrders, SameClock, SameLanes, SameFloat,
        SameRecords, SameFaults, SameStore, and_self, true_and]
      exact ⟨rfl, rfl, (congrArg (· &&& _) hflags).trans hflagged, fun q hq => (hother q hq).trans (hports q hq)⟩
  · exact exec_refuses .listEmpty rfl hpins htakes (by simp only [hf, List.head?_nil, Option.bind_none])
  · exact exec_refuses .noSuchDocket rfl hpins htakes (by simp only [hd])
  · refine exec_refuses .wrongState rfl hpins htakes ?_
    have hfin : d.state.finished = false := by rcases hst with h | h | h <;> rw [h] <;> rfl
    simp only [hd, hfin, Bool.not_false, if_true]
  · have hfin : d.state.finished = true := by rcases hst with h | h | h <;> rw [h] <;> rfl
    refine exec_answers (s := s) (b := []) rfl ?_ htakes ?_
    · exact hpins
    · simp only [hd, hfin]
      rfl

end Sys2Proof.Proofs
end

section
/-! SUPPORT. The completion of a closing as the statements read it: what it writes, and what stays through
the work before and after it (R19, R32 to R36). -/
namespace Sys2Proof.Machine

variable {s b t u : State} {n : Lane} {num : Nat} {d : Docket} {why : CloseReason}

/-! ### What only grows: flags, waiters and requests -/

/-- Every flag set stays set (R181). -/
abbrev FlagsKept (s t : State) : Prop := ∀ p e, s.Flagged p e → t.Flagged p e

/-- Every waiter still waits (R70). -/
abbrev WaitsKept (s t : State) : Prop := ∀ r k, s.WaitsFor r k → t.WaitsFor r k

theorem FlagsKept.of_ports (h : t.ports = s.ports) : FlagsKept s t := fun p e hf => by
  rw [State.Flagged, h]; exact hf

theorem FlagsKept.raise (s : State) (p : Port) (e : Event) : FlagsKept s (s.raise p e) :=
  fun _ _ h => State.raise_keeps h p e

theorem FlagsKept.trans (h : FlagsKept s t) (h' : FlagsKept t u) : FlagsKept s u :=
  fun p e hf => h' p e (h p e hf)

/-- A port's flags are kept by whatever else is written to its state. -/
theorem FlagsKept.setPort (s : State) (p : Port) {q : PortState} (h : q.flags = (s.ports.get p).flags) :
    FlagsKept s (s.setPort p q) := by
  intro r e hf
  show ((s.ports.set p q).get r).flags &&& e.bit r = e.bit r
  rw [PerPort.get_set]
  split
  · rename_i hr
    subst hr
    rw [h]
    exact hf
  · exact hf

theorem FlagsKept.answered (s : State) (p : Port) (c : CommandCode) (rc : ResultCode) (x : Body) :
    FlagsKept s (s.respond p c rc x) := FlagsKept.setPort s p rfl

theorem WaitsKept.of_waiters (h : t.waiters = s.waiters) : WaitsKept s t := fun r k hw => by
  rw [State.WaitsFor, h]; exact hw

theorem WaitsKept.trans (h : WaitsKept s t) (h' : WaitsKept t u) : WaitsKept s u :=
  fun r k hw => h' r k (h r k hw)

theorem WaitsKept.of_prefix {l : List Waiter} (h : t.waiters = s.waiters ++ l) : WaitsKept s t := by
  rintro r k ⟨w, hw, hwr⟩
  exact ⟨w, h ▸ List.mem_append_left _ hw, hwr⟩

theorem RequestsKept.same (hstore : t.store = s.store) (hqueue : t.commitQueue = s.commitQueue)
    (hheld : t.held = s.held) : RequestsKept s t :=
  ⟨hstore, fun r => by simp [State.hasEntry, hqueue], fun n hn => hheld ▸ hn⟩

theorem RequestsKept.trans (h : RequestsKept s t) (h' : RequestsKept t u) : RequestsKept s u :=
  ⟨h'.1.trans h.1, fun r hr => h'.2.1 r (h.2.1 r hr), fun n hn => h'.2.2 n (h.2.2 n hn)⟩

theorem RequestsKept.queueRecord (s : State) (r : RecordId) : RequestsKept s (s.queueRecord r) :=
  ⟨by simp, fun _ hx => s.queueRecord_hasEntry hx r false, fun _ hn => s.queueRecord_held hn r false⟩

theorem RequestsKept.queued (h : RequestsKept s t) {r : RecordId} (hq : s.Queued r) : t.Queued r := by
  obtain ⟨-, hentry, hheld⟩ := h
  rcases hq with hq | ⟨n, hn, hr⟩
  · exact .inl (hentry r hq)
  · exact .inr ⟨n, hheld n hn, hr⟩

/-! ### What work beside the closings leaves -/

/-- The part beside the docket table, the lanes and the link: what the work of an event before and after
the completion of a closing leaves as it was. -/
structure State.Steady (s t : State) : Prop where
  lanes : t.openDocket = s.openDocket ∧ t.grace = s.grace
  records : SameRecords s t
  lists : t.orderQueue = s.orderQueue ∧ t.finished = s.finished
  waits : WaitsKept s t
  flags : FlagsKept s t
  kept : SameClock s t ∧ t.nextNumber = s.nextNumber ∧ t.dispenseTimer = s.dispenseTimer ∧
    t.float = s.float ∧ t.floatLow = s.floatLow ∧ t.emptyCause = s.emptyCause ∧ SameFaults s t ∧
    RequestsKept s t ∧ t.settings = s.settings

theorem State.Steady.refl (s : State) : s.Steady s :=
  ⟨⟨rfl, rfl⟩, ⟨rfl, rfl⟩, ⟨rfl, rfl⟩, fun _ _ h => h, fun _ _ h => h,
    ⟨rfl, rfl, rfl, rfl, rfl, rfl, rfl, rfl, rfl⟩,
    rfl, rfl, rfl, rfl, rfl, ⟨rfl, rfl⟩, RequestsKept.same rfl rfl rfl, rfl⟩

theorem State.Steady.trans (h : s.Steady t) (h' : t.Steady u) : s.Steady u := by
  obtain ⟨⟨l1, l2⟩, ⟨r1, r2⟩, ⟨q1, q2⟩, hw, hf, hc, k1, k2, k3, k4, k5, ⟨f1, f2⟩, hr, hset⟩ := h
  obtain ⟨⟨l1', l2'⟩, ⟨r1', r2'⟩, ⟨q1', q2'⟩, hw', hf', hc', k1', k2', k3', k4', k5', ⟨f1', f2'⟩, hr',
    hset'⟩ := h'
  refine ⟨⟨l1'.trans l1, l2'.trans l2⟩, ⟨r1'.trans r1, r2'.trans r2⟩, ⟨q1'.trans q1, q2'.trans q2⟩,
    hw.trans hw', hf.trans hf', ?_, k1'.trans k1, k2'.trans k2, k3'.trans k3, k4'.trans k4, k5'.trans k5,
    ⟨f1'.trans f1, f2'.trans f2⟩, hr.trans hr', hset'.trans hset⟩
  simp only [SameClock] at hc hc' ⊢
  simp only [hc, hc', and_self]

/-- The fields that `State.Steady` names, but for the flags. -/
abbrev SameBeside (s t : State) : Prop :=
  t.openDocket = s.openDocket ∧ t.grace = s.grace ∧ t.accounts = s.accounts ∧
  t.settlements = s.settlements ∧ t.orderQueue = s.orderQueue ∧ t.finished = s.finished ∧
  t.waiters = s.waiters ∧ SameClock s t ∧ t.nextNumber = s.nextNumber ∧
  t.dispenseTimer = s.dispenseTimer ∧ t.float = s.float ∧ t.floatLow = s.floatLow ∧
  t.emptyCause = s.emptyCause ∧ SameFaults s t ∧ t.store = s.store ∧ t.commitQueue = s.commitQueue ∧
  t.held = s.held ∧ t.settings = s.settings

theorem State.Steady.of_same (h : SameBeside s t) (hf : FlagsKept s t) : s.Steady t := by
  obtain ⟨ho, hg, ha, hs, hq, hfin, hw, hc, hn, hd, hfl, hlow, he, hfault, hstore, hcq, hheld, hset⟩ := h
  exact ⟨⟨ho, hg⟩, ⟨ha, hs⟩, ⟨hq, hfin⟩, WaitsKept.of_waiters hw, hf, hc, hn, hd, hfl, hlow, he, hfault,
    RequestsKept.same hstore hcq hheld, hset⟩

theorem State.Steady.raise (s : State) (p : Port) (e : Event) : s.Steady (s.raise p e) :=
  .of_same (by simp [SameBeside, SameClock, SameFaults]) (FlagsKept.raise s p e)

theorem State.Steady.respond (s : State) (p : Port) (c : CommandCode) (rc : ResultCode) (x : Body) :
    s.Steady (s.respond p c rc x) :=
  .of_same (by simp [SameBeside, SameClock, SameFaults]) (FlagsKept.answered s p c rc x)

theorem FlagsKept.setShortCause (s : State) (x : Bool) : FlagsKept s (s.setShortCause x) := by
  unfold State.setShortCause
  split
  · exact fun _ _ h => h
  · exact (FlagsKept.of_ports rfl).trans (FlagsKept.raise _ .payout .floatOut)

theorem FlagsKept.orderEvents (b s : State) : FlagsKept s (State.orderEvents b s) := by
  have hready : FlagsKept s (if s.headReady && !b.headReady then s.raise .payout .orderReady else s) := by
    split
    · exact FlagsKept.raise s .payout .orderReady
    · exact fun _ _ h => h
  unfold State.orderEvents
  dsimp only
  split
  · exact hready
  · exact hready.trans (FlagsKept.setShortCause _ _)

/-- The end of an event raises flags and begins a program; nothing else of these changes. -/
theorem State.Steady.conclude (b s : State) : s.Steady (State.conclude b s) := by
  have hflags : FlagsKept s (State.conclude b s) :=
    (FlagsKept.orderEvents b s).trans (FlagsKept.of_ports (by simp [State.conclude]))
  have hkept : (State.conclude b s).resetLow = s.resetLow ∧
      (State.conclude b s).handedBack = s.handedBack := by
    simp only [State.conclude, State.drivePins_frame, State.beginProgram_frame, State.orderEvents]
    split_ifs <;> simp
  exact ⟨by simp, ⟨by simp, by simp⟩, by simp, fun _ _ => State.conclude_waitsFor b, hflags,
    by simp [SameClock, hkept], by simp, by simp, by simp, by simp, by simp, ⟨by simp, by simp⟩,
    ⟨by simp, by simp, by simp⟩, by simp⟩

/-! ### The operations of a closing -/

/-- A settlement queues the account of an account haulier, and keeps every request. -/
theorem RequestsKept.queueAccountOf (s : State) (haulier : Nat) :
    RequestsKept s (s.queueAccountOf haulier) := by
  unfold State.queueAccountOf
  split
  · exact RequestsKept.same rfl rfl rfl
  · split
    · exact RequestsKept.queueRecord s _
    · exact RequestsKept.same rfl rfl rfl

theorem State.queueAccountOf_queued {haulier r : Nat} {a : Account} (h0 : haulier ≠ 0)
    (ha : s.account? haulier = some (r, a)) : (s.queueAccountOf haulier).Queued (.account r) := by
  simp only [State.queueAccountOf, h0, if_false, ha]
  exact State.queueRecord_queued ..

theorem WaitsKept.wait (s : State) (r : RecordId) (k : WaitKind) : WaitsKept s (s.wait r k) :=
  WaitsKept.of_prefix rfl

theorem State.wait_waitsFor (s : State) (r : RecordId) (k : WaitKind) : (s.wait r k).WaitsFor r k :=
  ⟨_, List.mem_append_right _ (List.mem_singleton_self _), rfl, rfl⟩

/-- An order waits on the programs of its settlement record and of its account (R34). -/
theorem State.waitOrder_waits (s : State) (num : Nat) (r haulier : Nat) :
    WaitsKept s (s.waitOrder num (some r) haulier) ∧
    (s.waitOrder num (some r) haulier).WaitsFor (.settlement r) (.order num) ∧
    ∀ k a, haulier ≠ 0 → s.account? haulier = some (k, a) →
      (s.waitOrder num (some r) haulier).WaitsFor (.account k) (.order num) := by
  have hkept := WaitsKept.wait s (.settlement r) (.order num)
  have hwaits := s.wait_waitsFor (.settlement r) (.order num)
  unfold State.waitOrder
  dsimp only
  split
  · exact ⟨hkept, hwaits, fun k a h0 => absurd ‹_› h0⟩
  · split
    · rename_i k a hk
      have hkept' := WaitsKept.wait (s.wait (.settlement r) (.order num)) (.account k) (.order num)
      refine ⟨hkept.trans hkept', hkept' _ _ hwaits, fun j x _ hj => ?_⟩
      obtain ⟨rfl, -⟩ := Prod.mk.inj (Option.some.inj (hj.symm.trans hk))
      exact State.wait_waitsFor ..
    · rename_i hnone
      exact ⟨hkept, hwaits, fun k a _ hk => absurd (hnone.symm.trans hk) (by simp)⟩

/-- What the hand-off of a payout queues and what waits on it (R34, R66). -/
theorem State.handOff_requests (f : Figures) {r : Nat} (hr : lowestFree 16 s.settlements = some r) :
    RequestsKept s (s.handOff d f) ∧ WaitsKept s (s.handOff d f) ∧
    (s.handOff d f).hasEntry (.settlement r) = true ∧
    (s.handOff d f).WaitsFor (.settlement r) (.order d.number) ∧
    ∀ k a, d.haulier ≠ 0 → s.account? d.haulier = some (k, a) →
      (s.handOff d f).Queued (.account k) ∧ (s.handOff d f).WaitsFor (.account k) (.order d.number) := by
  have hr' : lowestFree 16 (s.updateDocket d.number fun d =>
      { d with state := .awaitingPayout, order := some { state := .pendingCommit } }).settlements = some r := hr
  simp only [State.handOff, hr']
  generalize hq : State.queueRecord _ (.settlement r) = q
  have hkept : RequestsKept s q := hq ▸ RequestsKept.queueRecord _ (.settlement r)
  have hself : q.hasEntry (.settlement r) = true := hq ▸ State.queueRecord_self _ rfl false
  have haccounts : q.accounts = s.accounts := by simp [← hq]
  have hwaiters : q.waiters = s.waiters := by simp [← hq]
  obtain ⟨hw, hws, hwa⟩ := (q.queueAccountOf d.haulier).waitOrder_waits d.number r d.haulier
  have hrequests := RequestsKept.queueAccountOf q d.haulier
  have hend : RequestsKept (q.queueAccountOf d.haulier)
      { (q.queueAccountOf d.haulier).waitOrder d.number (some r) d.haulier with
        orderQueue := ((q.queueAccountOf d.haulier).waitOrder d.number (some r) d.haulier).orderQueue ++
          [d.number] } := RequestsKept.same (by simp) (by simp) (by simp)
  have hall := (hkept.trans hrequests).trans hend
  have hkeptWaits : WaitsKept s (q.queueAccountOf d.haulier) := WaitsKept.of_waiters (by simp [hwaiters])
  refine ⟨hall, hkeptWaits.trans hw, ?_, hws, fun k a h0 hk => ?_⟩
  · exact (hrequests.trans hend).2.1 _ hself
  · have hk' : q.account? d.haulier = some (k, a) := by rw [State.account?, haccounts]; exact hk
    refine ⟨hend.queued (State.queueAccountOf_queued h0 hk'), hwa k a h0 ?_⟩
    simpa [State.account?] using hk'

end Sys2Proof.Machine
end

section
/-! SUPPORT. A closing that completes meets `State.Closed` (R19, R25 to R36). -/
namespace Sys2Proof.Machine

variable {s b t u : State} {n : Lane} {num : Nat} {d : Docket} {why : CloseReason}

/-! ### The account settled (R32) -/

/-- In its one form a table that takes a new entry for a number it holds changes at that number alone. -/
theorem Table.Rising.put_eq_map {α : Type} {t : Table α} (h : Table.Rising t) {k : Nat} {a : α}
    (hk : (k, a) ∈ t) (x : α) : tablePut t k x = t.map fun e => if e.1 = k then (k, x) else e := by
  induction t with
  | nil => cases hk
  | cons e t ih =>
    obtain ⟨j, y⟩ := e
    obtain ⟨hlt, hrise⟩ := List.pairwise_cons.mp h
    rcases List.mem_cons.mp hk with hk | hk
    · obtain ⟨rfl, rfl⟩ := Prod.mk.inj hk
      have hrest : t.map (fun e => if e.1 = k then (k, x) else e) = t := by
        refine (List.map_congr_left fun e he => ?_).trans (List.map_id _)
        have hke : k < e.1 := hlt e.1 (List.mem_map_of_mem (f := (·.1)) he)
        rw [if_neg hke.ne', id]
      simp [tablePut, hrest]
    · have := hlt k (List.mem_map_of_mem (f := (·.1)) hk)
      dsimp only at this
      simp only [tablePut, if_neg (Nat.not_lt.mpr this.le), if_neg this.ne', List.map_cons, if_neg this.ne,
        ih hrise hk]

/-- The account of a haulier after its settlement (R32). -/
theorem State.settleAccount_account? (hrise : Table.Rising s.accounts) {haulier r : Nat} {a : Account}
    (h0 : haulier ≠ 0) (ha : s.account? haulier = some (r, a)) (items : Nat) (f : Figures) :
    (s.settleAccount haulier items f).account? haulier = some (r, a.settled items f s.yardTime) := by
  have hmem := List.mem_of_find?_eq_some ha
  rw [State.account?, State.settleAccount_accounts, if_neg h0, ha]
  dsimp only
  rw [hrise.put_eq_map hmem, List.find?_map]
  have hkey (e : Nat × Account) (he : e ∈ s.accounts) :
      (if e.1 = r then (r, a.settled items f s.yardTime) else e).2.haulier = e.2.haulier := by
    split
    · rename_i hr
      obtain rfl : e.2 = a := Option.some.inj (by rw [← hrise.get he, hr, hrise.get hmem])
      rfl
    · rfl
  have hfind : s.accounts.find? ((fun e : Nat × Account => e.2.haulier == haulier) ∘ fun e =>
      if e.1 = r then (r, a.settled items f s.yardTime) else e) = some (r, a) := by
    rw [← ha, State.account?]
    refine List.find?_congr fun e he => ?_
    rw [Function.comp_apply, hkey e he]
  rw [hfind]
  simp

/-! ### What a completed closing requests and raises -/

theorem FlagsKept.joinFinished (s : State) (num : Nat) : FlagsKept s (s.joinFinished num) :=
  FlagsKept.raise { s with finished := s.finished ++ [num] } .office .finished

theorem FlagsKept.queueAccountOf (s : State) (haulier : Nat) : FlagsKept s (s.queueAccountOf haulier) :=
  FlagsKept.of_ports (by simp)

/-- What the completion of a closing requests, raises and lets wait, of a docket with these figures. -/
structure State.HandedOff (s t : State) (d : Docket) (f : Figures) : Prop where
  requests : RequestsKept s t
  waits : WaitsKept s t
  flags : FlagsKept s t
  account : ∀ k a, d.haulier ≠ 0 → s.account? d.haulier = some (k, a) → t.Queued (.account k)
  owed : 0 < f.payout → ∀ r, lowestFree 16 s.settlements = some r →
    t.Queued (.settlement r) ∧ t.WaitsFor (.settlement r) (.order d.number) ∧
    ∀ k a, d.haulier ≠ 0 → s.account? d.haulier = some (k, a) → t.WaitsFor (.account k) (.order d.number)
  nil : f.payout = 0 → t.Flagged .office .finished

/-- The hand-off of a payout (R34). -/
theorem State.handOff_handedOff {f : Figures} (hp : 0 < f.payout)
    (hfree : ∃ r, lowestFree 16 s.settlements = some r) : s.HandedOff (s.handOff d f) d f := by
  obtain ⟨r, hr⟩ := hfree
  obtain ⟨hrequests, hwaits, hentry, hself, hac⟩ := State.handOff_requests (d := d) f hr
  refine ⟨hrequests, hwaits, FlagsKept.of_ports (by simp), fun k a h0 hk => (hac k a h0 hk).1,
    fun _ j hj => ?_, fun h => absurd hp (by omega)⟩
  obtain rfl : r = j := Option.some.inj (hr.symm.trans hj)
  exact ⟨.inl hentry, hself, fun k a h0 hk => (hac k a h0 hk).2⟩

/-- The hand-off with no payout (R35). -/
theorem State.handOffNil_handedOff {f : Figures} (hp : f.payout = 0) :
    s.HandedOff (s.handOffNil d) d f := by
  have hjoin := FlagsKept.joinFinished (s.updateDocket d.number fun d => { d with state := .nilPayout }) d.number
  have hqueue := FlagsKept.queueAccountOf ((s.updateDocket d.number fun d =>
    { d with state := .nilPayout }).joinFinished d.number) d.haulier
  refine ⟨?_, WaitsKept.of_waiters (by simp), hjoin.trans hqueue,
    fun k a h0 hk => State.queueAccountOf_queued h0 hk, fun h => absurd h (by omega),
    fun _ => hqueue _ _ (State.raise_flagged _ .office .finished)⟩
  exact RequestsKept.queueAccountOf ((s.updateDocket d.number fun d =>
    { d with state := .nilPayout }).joinFinished d.number) d.haulier

/-- Up to the hand-off a closing changes no request and no waiter, and raises REFERRED at most (R33). -/
theorem State.closingSettled_kept (s : State) (n : Lane) (num : Nat) (why : CloseReason) (d : Docket) :
    RequestsKept s (s.closingSettled n num why d) ∧ WaitsKept s (s.closingSettled n num why d) ∧
    FlagsKept s (s.closingSettled n num why d) ∧
    (0 < (s.figuresFor d).referred → (s.closingSettled n num why d).Flagged .office .referred) := by
  refine ⟨RequestsKept.same ?_ (by simp) (by simp), WaitsKept.of_waiters (by simp), ?_⟩
  · unfold State.closingSettled State.settling State.closingFreed
    dsimp only
    split <;> simp
  · unfold State.closingSettled State.settling
    dsimp only
    split
    · exact ⟨FlagsKept.trans (t := ((s.closingFreed n num why).updateDocket num _).settleAccount _ _ _)
        (FlagsKept.of_ports (by simp [State.closingFreed])) (FlagsKept.raise _ .office .referred),
        fun _ => State.raise_flagged ..⟩
    · exact ⟨FlagsKept.of_ports (by simp [State.closingFreed]), fun h => absurd h ‹_›⟩

/-- The account of the haulier when the hand-off looks for it (R32). -/
theorem State.closingSettled_account? (hrise : Table.Rising s.accounts) {k : Nat} {a : Account}
    (h0 : d.haulier ≠ 0) (hk : s.account? d.haulier = some (k, a)) (n : Lane) (num : Nat)
    (why : CloseReason) : (s.closingSettled n num why d).account? d.haulier =
      some (k, a.settled (d.tallies.getD {}).net.sum (s.figuresFor d) s.yardTime) := by
  have haccounts : (s.closingSettled n num why d).accounts =
      (s.settleAccount d.haulier (d.tallies.getD {}).net.sum (s.figuresFor d)).accounts := by simp
  rw [State.account?, haccounts]
  exact State.settleAccount_account? hrise h0 hk _ _

/-- What a completed closing requests, waits on and raises, whether it pays or not (R32 to R36). -/
theorem State.completeClosing_handedOff (hd : s.docket? d.number = some d)
    (hrise : Table.Rising s.accounts) (hfree : ∃ r, lowestFree 16 s.settlements = some r) (n : Lane)
    (why : CloseReason) : s.HandedOff (s.completeClosing n d.number why) d (s.figuresFor d) ∧
      (0 < (s.figuresFor d).referred → (s.completeClosing n d.number why).Flagged .office .referred) ∧
      (s.completeClosing n d.number why).Flagged .lane .docketDone := by
  obtain ⟨hrequests, hwaits, hflags, hreferred⟩ := s.closingSettled_kept n d.number why d
  generalize hx : s.closingSettled n d.number why d = x at hrequests hwaits hflags hreferred
  have hrecords : x.settlements = s.settlements := by simp [← hx]
  have haccount (k : Nat) (a : Account) (h0 : d.haulier ≠ 0) (hk : s.account? d.haulier = some (k, a)) :
      x.account? d.haulier = some (k, a.settled (d.tallies.getD {}).net.sum (s.figuresFor d) s.yardTime) :=
    hx ▸ State.closingSettled_account? hrise h0 hk n d.number why
  have hhand : x.HandedOff (if 0 < (s.figuresFor d).payout
      then x.handOff { d with closeReason := some why } (s.figuresFor d)
      else x.handOffNil { d with closeReason := some why }) { d with closeReason := some why }
      (s.figuresFor d) := by
    split
    · exact State.handOff_handedOff ‹_› (hrecords ▸ hfree)
    · exact State.handOffNil_handedOff (by omega)
  rw [State.completeClosing_eq hd, hx]
  generalize (if 0 < (s.figuresFor d).payout
      then x.handOff { d with closeReason := some why } (s.figuresFor d)
      else x.handOffNil { d with closeReason := some why }) = y at hhand ⊢
  obtain ⟨h1, h2, h3, h4, h5, h6⟩ := hhand
  have hraise := FlagsKept.raise y .lane .docketDone
  have hr : RequestsKept y (y.raise .lane .docketDone) := RequestsKept.same rfl rfl rfl
  have hw : WaitsKept y (y.raise .lane .docketDone) := WaitsKept.of_waiters rfl
  refine ⟨⟨(hrequests.trans h1).trans hr, (hwaits.trans h2).trans hw, (hflags.trans h3).trans hraise,
    fun k a h0 hk => hr.queued (h4 k _ h0 (haccount k a h0 hk)), fun hp r hfr => ?_,
    fun hp => hraise _ _ (h6 hp)⟩, fun hpos => (h3.trans hraise) _ _ (hreferred hpos),
    State.raise_flagged ..⟩
  obtain ⟨hq, hs, ha⟩ := h5 hp r (by rw [hrecords]; exact hfr)
  exact ⟨hr.queued hq, hw _ _ hs, fun k a h0 hk => hw _ _ (ha k _ h0 (haccount k a h0 hk))⟩

/-! ### `State.Closed` -/

theorem State.settle_congr (hset : t.settings = s.settings) (hacc : t.accounts = s.accounts)
    (haulier : Nat) (tl : Tallies) : t.settle haulier tl = s.settle haulier tl := by
  simp only [State.settle, State.carryIn, State.account?, hset, hacc]

/-- A closing that completes from a state `b` that the event's own work has left steady, and that the rest
of the event leaves steady. -/
theorem State.closed_of {tl : Tallies} {c : Nat} {st : DocketState} (hpre : s.Steady b)
    (hb : b.docket? d.number = some { d with closedAt := some c, tallies := some tl, state := st })
    (hothers : SameOtherDockets s b d.number)
    (hpost : (b.completeClosing n d.number why).Steady t)
    (hdockets : t.dockets = (b.completeClosing n d.number why).dockets) (horder : d.order = none)
    (hrise : Table.Rising s.accounts)
    (hfree : ∃ r, lowestFree 16 s.settlements = some r) : s.Closed t n d tl c why := by
  obtain ⟨⟨hopen, hgrace⟩, ⟨hacc', hrec'⟩, ⟨hqueue, hfin⟩, -, -, hclock, k1, k2, k3, k4, k5, ⟨k6, k7⟩, hreq,
    hset⟩ := hpre
  obtain ⟨⟨popen, pgrace⟩, ⟨pacc, prec⟩, ⟨pqueue, pfin⟩, pwaits, pflags, pclock, p1, p2, p3, p4, p5, ⟨p6, p7⟩,
    preq, pset⟩ := hpost
  have hfig : b.figuresFor { d with closedAt := some c, tallies := some tl, state := st } =
      s.settle d.haulier tl := State.settle_congr hset hacc' _ _
  have haccount (haulier : Nat) : b.account? haulier = s.account? haulier := by
    rw [State.account?, hacc']
    rfl
  obtain ⟨hhand, hreferred, hdone⟩ := State.completeClosing_handedOff
    (d := { d with closedAt := some c, tallies := some tl, state := st }) hb (hacc'.symm ▸ hrise)
    (hrec'.symm ▸ hfree) n why
  have hget := State.completeClosing_docket? (n := n) (why := why) hb
  have haccounts := State.completeClosing_accounts (n := n) (why := why) hb
  have hrecords := State.completeClosing_settlements (n := n) (why := why) hb
  have hfinished := State.completeClosing_finished (n := n) (why := why) hb
  have horders := State.completeClosing_orderQueue (n := n) (why := why) hb
  obtain ⟨hlane, hlaneGrace⟩ := State.completeClosing_lane (n := n) (why := why) hb
  obtain ⟨crequests, -, -, caccount, cowed, cnil⟩ := hhand
  rw [hfig] at hreferred cowed cnil hget haccounts hrecords hfinished horders
  refine ⟨?docket, fun m hm => ?others, ⟨?_, ?_⟩, fun h0 => ?walkIn, fun r a h0 ha => ?account,
    fun hp => ?owed, fun hp => ?nil, fun hp => pflags _ _ (hreferred hp), pflags _ _ hdone, ?kept⟩
  case docket =>
    rw [State.docket?_congr hdockets, hget, if_pos rfl]
    simp [Docket.settledAs, hset, horder]
  case others => rw [State.docket?_congr hdockets, hget, if_neg hm, hothers m hm]
  · rw [popen, hlane, hopen]
  · rw [pgrace, hlaneGrace, hgrace]
  case walkIn =>
    rw [pacc, haccounts, State.settleAccount_accounts, if_pos h0, hacc']
  case account =>
    have hput : t.accounts = tablePut s.accounts r (a.settled tl.net.sum (s.settle d.haulier tl) s.yardTime) := by
      rw [pacc, haccounts, State.settleAccount_accounts, if_neg h0]
      simp [haccount, ha, hacc', hclock]
    rw [hput]
    exact ⟨tableGet_put_self .., fun k hk => tableGet_put_ne _ _ hk,
      preq.queued (caccount r a h0 ((haccount _).trans ha))⟩
  case owed =>
    obtain ⟨r, hr⟩ := hfree
    obtain ⟨hlt, hfreeAt, hbelow⟩ := lowestFree_spec hr
    have hrb : lowestFree 16 b.settlements = some r := hrec'.symm ▸ hr
    obtain ⟨howed, hwaits, hwaitsAccount⟩ := cowed hp r hrb
    have hput : t.settlements = tablePut s.settlements r
        ⟨d.number, d.lane, d.haulier, c, s.settle d.haulier tl, .owed⟩ := by
      rw [prec, hrecords, if_pos hp, hrb, hrec']
      rfl
    refine ⟨by rw [pqueue, horders, if_pos hp, hqueue], by rw [pfin, hfinished, if_pos hp, hfin], r, hlt,
      hfreeAt, ?_, ?_, ?_, preq.queued howed, pwaits _ _ hwaits,
      fun k a h0 ha => pwaits _ _ (hwaitsAccount k a h0 ((haccount _).trans ha))⟩
    · exact hbelow
    · rw [hput]; exact tableGet_put_self ..
    · rw [hput]; exact fun k hk => tableGet_put_ne _ _ hk
  case nil =>
    have hp' : ¬ 0 < (s.settle d.haulier tl).payout := by omega
    exact ⟨by rw [pqueue, horders, if_neg hp', hqueue], by rw [prec, hrecords, if_neg hp', hrec'],
      by rw [pfin, hfinished, if_neg hp', hfin], pflags _ _ (cnil hp)⟩
  case kept =>
    simp only [SameClock, State.completeClosing_frame] at hclock pclock
    refine ⟨by simp only [SameClock, pclock, hclock, and_self], by simp [p1, k1], by simp [p2, k2],
      by simp [p3, k3], by simp [p4, k4], by simp [p5, k5], ⟨by simp [p6, k6], by simp [p7, k7]⟩,
      (hreq.trans crequests).trans preq, by simp [pset, hset]⟩

end Sys2Proof.Machine
end

section
/-! SUPPORT. CLOSE_DOCKET and the close grace: a docket that waits, and one whose closing completes (R14 to
R19). -/
namespace Sys2Proof.Machine

variable {s b t u : State} {n : Lane} {num : Nat} {d : Docket} {why : CloseReason}

/-! ### Events that leave the orders and the queue -/

/-- Where the invariants hold, no program is left to begin (R64). -/
theorem State.QueueFits.beginProgram_idle (h : s.QueueFits) (hqueue : t.commitQueue = s.commitQueue)
    (hprogram : t.program = s.program) (hmode : t.mode = s.mode) : t.beginProgram = t := by
  obtain ⟨-, -, -, -, -, -, -, hbegun⟩ := h
  unfold State.beginProgram
  split
  · rename_i e rest hnone hq
    split
    · rename_i hactive
      have hactive' : s.active = true := by rwa [State.active, ← hmode]
      have := hbegun hactive' (by rw [← hqueue, hq]; simp)
      rw [← hprogram, hnone] at this
      cases this
    · rfl
  · rfl

theorem State.headReady_eq (s : State) : s.headReady = s.headView.any fun x => x.2 = some .ready := by
  cases h : s.orderQueue.head? <;> simp [State.headReady, State.headView, h]

/-- Where the head of the order queue and the float stand as before, an event ends with the lines. -/
theorem State.conclude_idle (h : s.QueueFits) (hqueue : t.commitQueue = s.commitQueue)
    (hprogram : t.program = s.program) (hmode : t.mode = s.mode) (hview : t.headView = s.headView)
    (hfloat : t.float = s.float) : State.conclude s t = t.drivePins := by
  have hready : t.headReady = s.headReady := by rw [State.headReady_eq, hview, ← State.headReady_eq]
  have hevents : State.orderEvents s t = t := by
    simp [State.orderEvents, hready, hview, hfloat]
  rw [State.conclude, hevents, h.beginProgram_idle hqueue hprogram hmode]

theorem State.orderState?_updateDocket (s : State) (num m : Nat) {f : Docket → Docket}
    (hf : ∀ x, (f x).number = x.number ∧ (f x).order = x.order) :
    (s.updateDocket num f).orderState? m = s.orderState? m := by
  simp only [State.orderState?, State.order?, s.docket?_updateDocket num m fun x => (hf x).1]
  split
  · subst m
    cases s.docket? num <;> simp [hf]
  · rfl

/-- The head view of a state whose queue and orders stand as before. -/
theorem State.headView_congr (hqueue : t.orderQueue = s.orderQueue)
    (horders : ∀ m, t.orderState? m = s.orderState? m) : t.headView = s.headView := by
  simp only [State.headView, hqueue, horders]

/-! ### A docket that waits (R15) -/

/-- The state in which a docket waits on the lane's pass. -/
def State.closeWaits (s : State) (n : Lane) (num : Nat) : State :=
  { s.updateDocket num (Docket.closingAt s.yardTime) with
    grace := s.grace.set n (some (Timer.start (1000 * s.settings.closeGrace))) }

theorem State.close_eq (s : State) (n : Lane) (num : Nat) : s.close n num =
    if (s.detectors.get n).state.inPass then s.closeWaits n num
    else (s.updateDocket num (Docket.closingAt s.yardTime)).completeClosing n num .normal := rfl

theorem LaneState.inPass_iff (x : LaneState) : x.inPass = true ↔ x = .entering ∨ x = .present := by
  cases x <;> simp [LaneState.inPass]

/-- What CLOSE_DOCKET does to a lane's OPEN docket. -/
theorem exec_closeDocket {ps : List Byte} (htakes : s.Takes .lane .closeDocket ps)
    (hn : lane? (field ps 0 1) = some n) (hd : s.laneDocket n = some d) (hopen : d.state = .open) :
    exec (.closeDocket .lane ps) s = .next (State.conclude s ((s.close n d.number).respond .lane .closeDocket
      .ok [fixed (be 2 d.number ++ flagByte (s.detectors.get n).state.inPass)])) := by
  refine congrArg _ ((State.command_takes htakes _).trans ?_)
  simp [hn, hd, hopen]

theorem State.closeWaits_headView (s : State) (n : Lane) (num : Nat) :
    (s.closeWaits n num).headView = s.headView :=
  State.headView_congr rfl fun m =>
    s.orderState?_updateDocket num m (f := Docket.closingAt s.yardTime) fun _ => ⟨rfl, rfl⟩

/-- Another docket than the one updated is as it was. -/
theorem State.updateDocket_others (s : State) (num : Nat) {f : Docket → Docket}
    (hf : ∀ x, (f x).number = x.number) : SameOtherDockets s (s.updateDocket num f) num :=
  fun m hm => (s.docket?_updateDocket num m hf).trans (if_neg hm)

/-! ### A docket whose closing completes at once (R15, R19) -/

theorem State.Fits.risingAccounts (h : s.Fits) : Table.Rising s.accounts := by
  obtain ⟨-, hrise, -⟩ := h.tables
  exact hrise

theorem State.Ledger.holdsLane_order (h : s.Ledger) (hd : s.docket? num = some d)
    (hl : d.state.holdsLane = true) : d.order = none := by
  have := h.orders num d hd
  cases hs : d.state <;> simp_all [Docket.fits, DocketState.holdsLane]

theorem State.Ledger.holdsLane_free (h : s.Ledger) (hd : s.docket? num = some d)
    (hl : d.state.holdsLane = true) : ∃ r, lowestFree 16 s.settlements = some r :=
  h.record_free hd (by rintro hs; simp [hs, DocketState.holdsLane] at hl)

/-- Through the completion of a closing the ports' phases stay, and the lanes and the link. -/
theorem State.completeClosing_samePhases (hd : s.docket? num = some d) :
    SamePhases s (s.completeClosing n num why) := by
  have hsettled : SamePhases s (s.closingSettled n num why d) := by
    unfold State.closingSettled State.settling
    dsimp only
    split
    · refine SamePhases.trans (t := ((s.closingFreed n num why).updateDocket num _).settleAccount _ _ _)
        ?_ (State.raise_samePhases _ .office .referred)
      intro q
      simp [State.closingFreed]
    · intro q
      simp [State.closingFreed]
  rw [State.completeClosing_eq hd]
  refine SamePhases.trans ?_ (State.raise_samePhases _ .lane .docketDone)
  split
  · exact fun q => by simpa using hsettled q
  · refine (hsettled.trans (State.raise_samePhases _ .office .finished)).trans fun q => ?_
    simp [State.handOffNil, State.joinFinished]

/-! ### A command's result at the end of its event -/

theorem State.respond_shows (s : State) (p : Port) (c : CommandCode) (rc : ResultCode) (x : Body) :
    (s.respond p c rc x).Shows p (resultBytes c.byte rc x) := by
  rw [State.Shows, State.respond_ports]
  exact ⟨by simp, by simp, by simp⟩

theorem State.respond_others (s : State) (p : Port) (c : CommandCode) (rc : ResultCode) (x : Body) :
    SameOtherPorts s (s.respond p c rc x) p := fun q hq => by
  rw [State.respond_ports]
  simp [hq]

theorem State.conclude_shows (b : State) {p : Port} {bs : List Byte} (h : s.Shows p bs) :
    (State.conclude b s).Shows p bs := by
  obtain ⟨hphase, hresult, hhold⟩ := State.conclude_samePhases b s p
  obtain ⟨h1, h2, h3⟩ := h
  exact ⟨hphase.trans h1, hresult.trans h2, hhold.trans (by simpa using h3)⟩

end Sys2Proof.Machine

namespace Sys2Proof.Proofs
open Sys2Proof.Machine

/-- Settles O26: the refusals, the wait on the lane's pass, and the closing that completes at once. -/
theorem closeDocketWaitsOrCompletes : Obligations.CloseDocketWaitsOrCompletes := by
  intro s ps hpins htakes
  refine ⟨fun hn => exec_refuses .outOfRange rfl hpins htakes (by simp only [hn]), fun n hn =>
    ⟨fun hd => exec_refuses .noSuchDocket rfl hpins htakes (by simp only [hn, hd]), fun d hd =>
    ⟨fun hst => exec_refuses .wrongState rfl hpins htakes (by simp only [hn, hd, if_pos hst]),
      fun hs hopen hpass => ?waits, fun tl hs hopen htl hacc hne1 hne2 => ?completes⟩⟩⟩
  case waits =>
    obtain ⟨-, hget, rfl, -⟩ := hs.ledger.laneDocket hd
    have hin : (s.detectors.get d.lane).state.inPass = true := (LaneState.inPass_iff _).mpr hpass
    have hidle (x : Body) : State.conclude s
        ((s.closeWaits d.lane d.number).respond .lane .closeDocket .ok x) =
        (s.closeWaits d.lane d.number).answered .lane .closeDocket x :=
      State.conclude_idle hs.queue rfl rfl rfl (s.closeWaits_headView d.lane d.number) rfl
    have hexec := exec_closeDocket htakes hn hd hopen
    rw [State.close_eq, if_pos hin, hidle, hin] at hexec
    obtain ⟨hshows, hflags, hothers⟩ := State.answered_shows (s.closeWaits d.lane d.number) .lane .closeDocket
      [fixed (be 2 d.number ++ flagByte true)]
    refine ⟨_, hexec, ?_, ?_, ?_, ?_⟩
    · rw [resultBytes_fixed, List.length_append, be_length] at hshows
      exact hshows
    · exact (State.docket?_congr (by simp [State.closeWaits]) _).trans (State.closing_docket? hget s.yardTime)
    · exact fun m hm => (State.docket?_congr (by simp [State.closeWaits]) m).trans
        (s.updateDocket_others d.number (f := Docket.closingAt s.yardTime) (fun _ => rfl) m hm)
    · simp only [State.answered_frame, State.closeWaits, State.updateDocket_frame, SameOrders, SameClock,
        SameLanes, SameFloat, SameRecords, SameFaults, SameStore, and_self, true_and]
      exact ⟨rfl, hflags, hothers⟩
  case completes =>
    obtain ⟨-, hget, rfl, hl⟩ := hs.ledger.laneDocket hd
    have hin : (s.detectors.get d.lane).state.inPass = false := by
      by_contra hpass
      exact ((LaneState.inPass_iff _).mp (by simpa using hpass)).elim hne1 hne2
    have hexec := exec_closeDocket htakes hn hd hopen
    rw [State.close_eq, hin, if_neg Bool.false_ne_true] at hexec
    have hclosing := State.closing_docket? hget s.yardTime
    have hcloses := State.completeClosing_samePhases (n := d.lane) (why := .normal) hclosing
    generalize hx : (s.updateDocket d.number (Docket.closingAt s.yardTime)).completeClosing d.lane d.number
      .normal = x at hexec hcloses
    have hother := State.respond_others x .lane .closeDocket .ok [fixed (be 2 d.number ++ flagByte false)]
    refine ⟨_, hexec, State.conclude_shows s ?_, ?_, ?_, fun q hq => ?_⟩
    · have hshows := State.respond_shows x .lane .closeDocket .ok [fixed (be 2 d.number ++ flagByte false)]
      rw [resultBytes_fixed, List.length_append, be_length] at hshows
      exact hshows
    · refine State.closed_of (b := s.updateDocket d.number (Docket.closingAt s.yardTime))
        (st := .closing) (.of_same ⟨rfl, rfl, rfl, rfl, rfl, rfl, rfl, ?_, rfl, rfl, rfl, rfl, rfl, ⟨rfl, rfl⟩,
          rfl, rfl, rfl, rfl⟩ (FlagsKept.of_ports rfl)) ?_ (s.updateDocket_others _ fun _ => rfl) ?_ ?_
        (hs.ledger.holdsLane_order hget hl) hs.risingAccounts (hs.ledger.holdsLane_free hget hl)
      · exact ⟨rfl, rfl, rfl, rfl, rfl, rfl, rfl, rfl, rfl⟩
      · rw [hclosing, Docket.closingAt, ← htl]
      · rw [hx]
        exact (State.Steady.respond ..).trans (State.Steady.conclude ..)
      · rw [hx]
        simp
    · simp [SameLanes, ← hx]
    · obtain ⟨h1, h2, h3⟩ := State.conclude_samePhases s (x.respond .lane .closeDocket .ok
        [fixed (be 2 d.number ++ flagByte false)]) q
      rw [hother q hq] at h1 h2 h3
      obtain ⟨h4, h5, h6⟩ := hcloses q
      exact ⟨h1.trans h4, h2.trans h5, h3.trans h6⟩

end Sys2Proof.Proofs
end

section
/-! SUPPORT. Where an outcome is booked, and the close grace that expires (R7, R8, R18). -/
namespace Sys2Proof.Machine

variable {s b t u : State} {n : Lane} {num : Nat} {d : Docket} {o : PassOutcome} {tl v : Tallies}

/-! ### Booking (R7) -/

theorem State.bookingOf_taken (hd : s.laneDocket n = some d) (htl : d.tallies = some tl)
    (hv : tl.take o = some v) : s.bookingOf n o = some (d.number, v) := by
  simp [State.bookingOf, hd, htl, hv]

theorem State.bookingOf_full (hd : s.laneDocket n = some d) (htl : d.tallies = some tl)
    (hv : tl.take o = none) : s.bookingOf n o = none := by
  simp [State.bookingOf, hd, htl, hv]

theorem State.bookingOf_none (hd : s.laneDocket n = none) : s.bookingOf n o = none := by
  simp [State.bookingOf, hd]

/-- A docket that takes the outcome (R7). -/
theorem State.book_taken (h : s.bookingOf n o = some (num, v)) : s.book n o = s.withTallies num v := by
  simp [State.book, h]

/-- An outcome that no docket takes goes to the stray tally (R7, R121). -/
theorem State.book_none (h : s.bookingOf n o = none) : s.book n o = s.bookStray n o := by
  simp [State.book, h]

theorem State.bookStray_flagged (s : State) (n : Lane) (o : PassOutcome) :
    (s.bookStray n o).Flagged .lane .stray := State.raise_flagged _ .lane .stray

theorem State.bookStray_steady (s : State) (n : Lane) (o : PassOutcome) : s.Steady (s.bookStray n o) :=
  .of_same (by simp [SameBeside, SameClock, SameFaults])
    (FlagsKept.raise { s with strays := s.strays.set n ((s.strays.get n).count o) } .lane .stray)

theorem State.withTallies_steady (s : State) (num : Nat) (v : Tallies) : s.Steady (s.withTallies num v) :=
  .of_same (by simp [SameBeside, SameClock, SameFaults]) (FlagsKept.of_ports rfl)

theorem State.book_samePhases (s : State) (n : Lane) (o : PassOutcome) : SamePhases s (s.book n o) := by
  unfold State.book
  split
  · exact fun _ => ⟨rfl, rfl, rfl⟩
  · exact State.raise_samePhases { s with strays := s.strays.set n ((s.strays.get n).count o) } .lane .stray

end Sys2Proof.Machine

namespace Sys2Proof.Proofs
open Sys2Proof.Machine

/-- Settles O27: the CLOSING docket, or with its passes at the ceiling the stray tally, takes one
UNRESOLVED outcome, and the closing completes. -/
theorem closeGraceExpiryCloses : Obligations.CloseGraceExpiryCloses := by
  intro s n d tl c g hs hactive hgrace hd hclosing htl hc hacc
  obtain ⟨-, hget, rfl, hl⟩ := hs.ledger.laneDocket hd
  have hexec : exec (.closeGraceExpiry d.lane) s = .next (State.conclude s
      ((s.book d.lane .unresolved).completeClosing d.lane d.number .graceExpired)) := by
    show execCloseGraceExpiry d.lane s = _
    simp [execCloseGraceExpiry, hgrace, hd, hactive, hclosing]
  have hclosed {b : State} {v : Tallies} (hpre : s.Steady b)
      (hb : b.docket? d.number = some { d with tallies := some v })
      (hothers : SameOtherDockets s b d.number) : s.Closed (State.conclude s
        (b.completeClosing d.lane d.number .graceExpired)) d.lane d v c .graceExpired :=
    State.closed_of (st := d.state) hpre (by rw [hb, ← hc]) hothers (State.Steady.conclude ..) (by simp)
      (hs.ledger.holdsLane_order hget hl) hs.risingAccounts (hs.ledger.holdsLane_free hget hl)
  obtain ⟨x, hbook⟩ := State.book_docket? hget d.lane .unresolved
  refine ⟨_, hexec, ?_, by simp, by simp, by simp, by simp, fun hpasses => ?_, fun hpasses => ?_⟩
  · exact ((s.book_samePhases d.lane .unresolved).trans (State.completeClosing_samePhases hbook)).trans
      (State.conclude_samePhases s _)
  · have htaken := State.book_taken (State.bookingOf_taken hd htl (Tallies.take_unresolved hpasses))
    rw [htaken]
    refine ⟨by simp, hclosed (s.withTallies_steady ..) ?_ ?_⟩
    · exact (State.withTallies_docket? hget _ _).trans (if_pos rfl)
    · exact s.updateDocket_others _ fun _ => rfl
  · have hstray := State.book_none (State.bookingOf_full hd htl (Tallies.take_ceiling hpasses .unresolved))
    rw [hstray]
    have hflag := s.bookStray_flagged d.lane .unresolved
    rw [hstray] at hbook
    have hsame (m : Nat) : (s.bookStray d.lane .unresolved).docket? m = s.docket? m :=
      State.docket?_congr (by simp) m
    obtain ⟨⟨-, -, hflags, -, -, -⟩, -⟩ := State.completeClosing_handedOff (d := { d with tallies := x }) hbook
      (by simpa using hs.risingAccounts) (by simpa using hs.ledger.holdsLane_free hget hl) d.lane .graceExpired
    have hconclude := (State.Steady.conclude s
      ((s.bookStray d.lane .unresolved).completeClosing d.lane d.number .graceExpired)).flags
    exact ⟨by simp, hconclude _ _ (hflags _ _ (s.bookStray_flagged ..)), hclosed (s.bookStray_steady ..)
      (by rw [hsame, hget, ← htl]) fun m _ => hsame m⟩

end Sys2Proof.Proofs
end

section
/-! SUPPORT. What the end of a pass or an entry does, as the statements read it: the outcome booked, the
closing that completes, or nothing (R7, R16, R17, R102, R103, R107). -/
namespace Sys2Proof.Machine

variable {s b t u : State} {n : Lane} {num : Nat} {d : Docket} {o : PassOutcome} {tl v : Tallies}
  {c : Cause} {q : Pass}

/-! ### Work beside a booking -/

/-- What the work of an event before and after a booking on lane `n` leaves: the part beside the lanes, the
dockets, and of the lane its stray tally and last outcome record. -/
structure State.Beside (s t : State) (n : Lane) : Prop where
  steady : s.Steady t
  dockets : t.dockets = s.dockets
  stray : t.strays.get n = s.strays.get n
  outcome : (t.detectors.get n).lastOutcome = (s.detectors.get n).lastOutcome

theorem State.Beside.refl (s : State) (n : Lane) : s.Beside s n := ⟨.refl s, rfl, rfl, rfl⟩

theorem State.Beside.trans (h : s.Beside t n) (h' : t.Beside u n) : s.Beside u n :=
  ⟨h.steady.trans h'.steady, h'.dockets.trans h.dockets, h'.stray.trans h.stray,
    h'.outcome.trans h.outcome⟩

theorem State.Beside.conclude (b s : State) (n : Lane) : s.Beside (State.conclude b s) n :=
  ⟨.conclude b s, by simp, by simp, by simp⟩

theorem State.Beside.respond (s : State) (p : Port) (c : CommandCode) (rc : ResultCode) (x : Body)
    (n : Lane) : s.Beside (s.respond p c rc x) n :=
  ⟨.respond s p c rc x, rfl, rfl, rfl⟩

theorem State.Beside.raise (s : State) (p : Port) (e : Event) (n : Lane) : s.Beside (s.raise p e) n :=
  ⟨.raise s p e, rfl, rfl, rfl⟩

/-- A detector put in the place of another with the same last outcome record. -/
theorem State.Beside.setDetector (s : State) (m n : Lane) {x : Detector}
    (h : x.lastOutcome = (s.detectors.get m).lastOutcome) : s.Beside (s.setDetector m x) n := by
  refine ⟨.of_same (by simp [SameBeside, SameClock, SameFaults]) (FlagsKept.of_ports rfl), rfl, rfl, ?_⟩
  simp only [State.setDetector_detectors, PerLane.get_set]
  split
  · rename_i hm
    rw [h, hm]
  · rfl

theorem State.Beside.moveLane (s : State) (m n : Lane) {x : Detector}
    (h : x.lastOutcome = (s.detectors.get m).lastOutcome) : s.Beside (s.moveLane m x) n := by
  unfold State.moveLane
  split
  · exact (State.Beside.setDetector s m n h).trans (State.Beside.raise _ .lane .laneState n)
  · exact State.Beside.setDetector s m n h

theorem State.Beside.setLink (s : State) (m n : Lane) (l : LaneLink) : s.Beside (s.setLink m l) n :=
  ⟨.of_same (by simp [SameBeside, SameClock, SameFaults]) (FlagsKept.of_ports rfl), rfl, rfl, rfl⟩

/-- The state with the fault record of another, from which a closing is told apart from a fault recorded
at the same event. -/
abbrev State.withFaultsOf (s t : State) : State := { s with faults := t.faults, lockout := t.lockout }

/-- Before a booking an event may have recorded a fault of its own. -/
abbrev State.Before (s b : State) (n : Lane) : Prop := (s.withFaultsOf b).Beside b n

theorem State.Beside.before (h : s.Beside b n) : s.Before b n := by
  obtain ⟨-, -, -, -, -, hkept⟩ := h.steady
  obtain ⟨-, -, -, -, -, -, ⟨hfaults, hlock⟩, -⟩ := hkept
  have : s.withFaultsOf b = s := by rw [State.withFaultsOf, hfaults, hlock]
  rw [State.Before, this]
  exact h

theorem State.Before.trans (h : s.Before b n) (h' : b.Beside t n) : s.Before t n := by
  obtain ⟨-, -, -, -, -, hkept⟩ := h'.steady
  obtain ⟨-, -, -, -, -, -, ⟨hfaults, hlock⟩, -⟩ := hkept
  have : s.withFaultsOf t = s.withFaultsOf b := by rw [State.withFaultsOf, hfaults, hlock]
  rw [State.Before, this]
  exact State.Beside.trans h h'

theorem State.laneDocket_congr (hopen : t.openDocket = s.openDocket) (hdockets : t.dockets = s.dockets)
    (n : Lane) : t.laneDocket n = s.laneDocket n := by
  simp only [State.laneDocket, hopen]
  exact congrArg _ (funext fun m => State.docket?_congr hdockets m)

theorem State.Before.laneDocket (h : s.Before b n) : b.laneDocket n = s.laneDocket n :=
  State.laneDocket_congr h.steady.lanes.1 h.dockets n

/-! ### Nothing booked, and an entry discarded -/

theorem State.Beside.nothingBooked (h : s.Before b n) (h' : b.Beside t n) : s.NothingBooked t n := by
  have hall := h.trans h'
  exact ⟨hall.stray, hall.outcome, State.docket?_congr hall.dockets, hall.steady.lanes.1,
    hall.steady.lanes.2⟩

/-- A closing that completes at an event which keeps the part beside it. -/
theorem State.Ledger.closedBesides (h : s.Ledger) (hrise : Table.Rising s.accounts) {st : DocketState}
    (hd : s.laneDocket n = some d) (hpre : (s.withFaultsOf b).Steady b)
    (hb : b.docket? d.number = some { d with tallies := some v, state := st })
    (hothers : SameOtherDockets s b d.number)
    (hpost : (b.completeClosing n d.number .normal).Beside t n) : s.ClosedBesides t n d v := by
  intro c hc _
  obtain ⟨-, hget, rfl, hl⟩ := h.laneDocket hd
  obtain ⟨-, -, -, -, -, -, -, -, -, -, -, ⟨hfaults, hlock⟩, -⟩ := hpost.steady
  have hbase : s.withFaultsOf t = s.withFaultsOf b := by
    simp [State.withFaultsOf, hfaults, hlock]
  show State.Closed (s.withFaultsOf t) t d.lane d v c .normal
  rw [hbase]
  exact State.closed_of (st := st) hpre (by rw [hb, ← hc]) hothers hpost.steady hpost.dockets
    (h.holdsLane_order hget hl) hrise (h.holdsLane_free hget hl)

theorem State.waitOver_closing (hd : s.laneDocket n = some d) (hst : d.state = .closing) :
    s.waitOver n = s.completeClosing n d.number .normal := by
  simp [State.waitOver, hd, hst]

theorem State.waitOver_nothing (h : ∀ d, s.laneDocket n = some d → d.state ≠ .closing) :
    s.waitOver n = s := by
  unfold State.waitOver
  split
  · rw [if_neg (h _ ‹_›)]
  · rfl

/-- An entry that ends without an outcome (R17, R93). -/
theorem State.Ledger.discarded (h : s.Ledger) (hrise : Table.Rising s.accounts) (hpre : s.Before b n)
    (hpost : (b.waitOver n).Beside t n) : s.Discarded t n := by
  have hlane := hpre.laneDocket
  refine ⟨hpost.stray.trans (by simpa using hpre.stray), hpost.outcome.trans (by simpa using hpre.outcome),
    fun hopen => ?_, fun d tl hd hst htl => ?_⟩
  · rw [State.waitOver_nothing (by rwa [hlane])] at hpost
    exact State.Beside.nothingBooked hpre hpost
  · rw [State.waitOver_closing (hlane.trans hd) hst] at hpost
    obtain ⟨-, hget, -, -⟩ := h.laneDocket hd
    refine h.closedBesides hrise (st := d.state) hd hpre.steady ?_
      (fun m _ => State.docket?_congr hpre.dockets m) hpost
    exact (State.docket?_congr hpre.dockets _).trans (by rw [← htl]; exact hget)

/-! ### A pass that resolves -/

/-- The state in which an outcome is booked and recorded, before a docket that waited closes (R102, R103). -/
def State.booked (s : State) (n : Lane) (c : Cause) (q : Pass) : State :=
  (s.book n (s.outcomeOf c q)).setDetector n
    { (s.book n (s.outcomeOf c q)).detectors.get n with lastOutcome := some (s.outcomeRecord n c q) }

theorem State.resolve_eq (s : State) (n : Lane) (c : Cause) (q : Pass) :
    s.resolve n c q = (s.booked n c q).waitOver n := rfl

theorem State.booked_outcome (s : State) (n : Lane) (c : Cause) (q : Pass) :
    ((s.booked n c q).detectors.get n).lastOutcome = some (s.outcomeRecord n c q) := by
  simp [State.booked]

theorem State.setDetector_steady (s : State) (n : Lane) (x : Detector) : s.Steady (s.setDetector n x) :=
  .of_same (by simp [SameBeside, SameClock, SameFaults]) (FlagsKept.of_ports rfl)

/-- The stray tally takes the outcome (R121). -/
theorem State.booked_stray (h : s.bookingOf n (s.outcomeOf c q) = none) : s.Steady (s.booked n c q) ∧
    (s.booked n c q).dockets = s.dockets ∧
    (s.booked n c q).strays.get n = (s.strays.get n).count (s.outcomeOf c q) ∧
    (s.booked n c q).Flagged .lane .stray := by
  have hstray := State.bookStray_steady s n (s.outcomeOf c q)
  have hflag := s.bookStray_flagged n (s.outcomeOf c q)
  unfold State.booked
  rw [State.book_none h]
  exact ⟨hstray.trans (State.setDetector_steady ..), by simp, by simp, FlagsKept.of_ports rfl _ _ hflag⟩

/-- A docket takes the outcome (R7). -/
theorem State.booked_taken (hd : s.docket? num = some d)
    (h : s.bookingOf n (s.outcomeOf c q) = some (num, v)) : s.Steady (s.booked n c q) ∧
    (s.booked n c q).docket? num = some { d with tallies := some v } ∧
    SameOtherDockets s (s.booked n c q) num ∧ (s.booked n c q).strays.get n = s.strays.get n := by
  unfold State.booked
  rw [State.book_taken h]
  refine ⟨(State.withTallies_steady ..).trans (State.setDetector_steady ..), ?_, fun m hm => ?_, by simp⟩
  · exact (State.withTallies_docket? hd v num).trans (if_pos rfl)
  · exact (State.withTallies_docket? hd v m).trans (if_neg hm)

/-- The completion of a closing only raises flags. -/
theorem FlagsKept.completeClosing (hd : s.docket? num = some d) (n : Lane) (why : CloseReason) :
    FlagsKept s (s.completeClosing n num why) := by
  obtain ⟨-, -, hsettled, -⟩ := s.closingSettled_kept n num why d
  rw [State.completeClosing_eq hd]
  refine FlagsKept.trans ?_ (FlagsKept.raise _ .lane .docketDone)
  split
  · exact hsettled.trans (FlagsKept.of_ports (by simp))
  · have hjoin := FlagsKept.joinFinished ((s.closingSettled n num why d).updateDocket d.number fun x =>
      { x with state := .nilPayout }) d.number
    exact hsettled.trans (FlagsKept.trans hjoin (FlagsKept.queueAccountOf _ d.haulier))

theorem FlagsKept.waitOver (s : State) (n : Lane) : FlagsKept s (s.waitOver n) := by
  unfold State.waitOver
  split
  · rename_i d hd
    split
    · obtain ⟨m, -, hm⟩ := Option.bind_eq_some_iff.mp hd
      obtain rfl := State.docket?_number hm
      exact FlagsKept.completeClosing hm n .normal
    · exact fun _ _ h => h
  · exact fun _ _ h => h

theorem State.waitOver_strays (s : State) (n : Lane) : (s.waitOver n).strays = s.strays := by simp

/-- Where no docket takes the outcome and none waits, the booking changes the stray tally alone. -/
theorem State.Before.strayOnly (hpre : s.Before b n) {o : PassOutcome} (hv : b.Steady u)
    (hdockets : u.dockets = b.dockets) (hstray : u.strays.get n = (b.strays.get n).count o)
    (hflag : u.Flagged .lane .stray) (hpost : u.Beside t n) :
    t.strays.get n = (s.strays.get n).count o ∧ t.Flagged .lane .stray ∧
    (∀ num, t.docket? num = s.docket? num) ∧ t.openDocket = s.openDocket ∧ t.grace = s.grace := by
  obtain ⟨hopen, hgrace⟩ := hpre.steady.lanes
  obtain ⟨hopen', hgrace'⟩ := hv.lanes
  obtain ⟨hopen'', hgrace''⟩ := hpost.steady.lanes
  exact ⟨by rw [hpost.stray, hstray, hpre.stray], hpost.steady.flags _ _ hflag,
    State.docket?_congr ((hpost.dockets.trans hdockets).trans hpre.dockets),
    (hopen''.trans hopen').trans hopen, (hgrace''.trans hgrace').trans hgrace⟩

/-- A pass that resolves books its outcome and completes the closing that waited on it (R7, R16, R102,
R103). -/
theorem State.Ledger.resolved (h : s.Ledger) (hrise : Table.Rising s.accounts) (hpre : s.Before b n)
    (hpost : (b.resolve n c q).Beside t n) : s.Resolved t n q (b.outcomeOf c q) c := by
  rw [State.resolve_eq] at hpost
  have hlane := hpre.laneDocket
  have hyard : b.yardTime = s.yardTime := by
    obtain ⟨⟨-, -, -, -, -, hyard, -⟩, -⟩ := hpre.steady.kept
    exact hyard
  refine ⟨(b.bookingOf n (b.outcomeOf c q)).map (·.1), ?_, fun hnone => ?stray,
    fun d tl v hd htl hv => ?taken, fun d tl hd htl hv => ?full⟩
  · simp only [hpost.outcome, State.waitOver_frame, State.booked_outcome, State.outcomeRecord, hyard]
    rfl
  case stray =>
    have hbooking := State.bookingOf_none (o := b.outcomeOf c q) (hlane.trans hnone)
    obtain ⟨hv, hdockets, hstray, hflag⟩ := State.booked_stray hbooking
    have hlane' := State.laneDocket_congr hv.lanes.1 hdockets n
    rw [State.waitOver_nothing fun d hd => by rw [hlane', hlane, hnone] at hd; cases hd] at hpost
    exact ⟨by rw [hbooking]; rfl, hpre.strayOnly hv hdockets hstray hflag hpost⟩
  case taken =>
    obtain ⟨hnum, hget, -, -⟩ := h.laneDocket hd
    have hget' : b.docket? d.number = some d := (State.docket?_congr hpre.dockets _).trans hget
    have hbooking := State.bookingOf_taken (o := b.outcomeOf c q) (hlane.trans hd) htl hv
    obtain ⟨hsteady, hself, hothers, hstray⟩ := State.booked_taken hget' hbooking
    have hlane' : (b.booked n c q).laneDocket n = some { d with tallies := some v } := by
      rw [State.laneDocket, hsteady.lanes.1, hpre.steady.lanes.1]
      simp only [hnum, Option.bind_some, hself]
    have hothers' : SameOtherDockets s (b.booked n c q) d.number := fun m hm =>
      (hothers m hm).trans (State.docket?_congr hpre.dockets m)
    refine ⟨by rw [hbooking]; rfl, ?_, fun hst => ?_, fun hst => ?_⟩
    · rw [hpost.stray, State.waitOver_strays, hstray, hpre.stray]
    · rw [State.waitOver_nothing fun x hx => by
        obtain rfl := Option.some.inj (hlane'.symm.trans hx)
        simp [hst]] at hpost
      have hdockets := State.docket?_congr hpost.dockets
      obtain ⟨hopen, hgrace⟩ := (hpre.steady.trans (hsteady.trans hpost.steady)).lanes
      exact ⟨(hdockets _).trans hself, fun m hm => (hdockets m).trans (hothers' m hm), hopen, hgrace⟩
    · rw [State.waitOver_closing hlane' hst] at hpost
      have hfaults : s.withFaultsOf (b.booked n c q) = s.withFaultsOf b := by
        obtain ⟨-, -, -, -, -, -, ⟨hfault, hlock⟩, -⟩ := hsteady.kept
        rw [State.withFaultsOf, hfault, hlock]
      exact h.closedBesides hrise (st := d.state) hd (hfaults ▸ hpre.steady.trans hsteady) hself hothers' hpost
  case full =>
    obtain ⟨-, hget, -, -⟩ := h.laneDocket hd
    have hbooking := State.bookingOf_full (o := b.outcomeOf c q) (hlane.trans hd) htl hv
    obtain ⟨hsteady, hdockets, hstray, hflag⟩ := State.booked_stray hbooking
    have hlane' := (State.laneDocket_congr hsteady.lanes.1 hdockets n).trans (hlane.trans hd)
    refine ⟨by rw [hbooking]; rfl, ?_, ?_, fun hst => ?_, fun hst => ?_⟩
    · rw [hpost.stray, State.waitOver_strays, hstray, hpre.stray]
    · exact hpost.steady.flags _ _ (FlagsKept.waitOver _ n _ _ hflag)
    · rw [State.waitOver_nothing fun x hx => by
        obtain rfl := Option.some.inj (hlane'.symm.trans hx)
        simp [hst]] at hpost
      obtain ⟨-, -, hrest⟩ := hpre.strayOnly hsteady hdockets hstray hflag hpost
      exact hrest
    · rw [State.waitOver_closing hlane' hst] at hpost
      have hfaults : s.withFaultsOf (b.booked n c q) = s.withFaultsOf b := by
        obtain ⟨-, -, -, -, -, -, ⟨hfault, hlock⟩, -⟩ := hsteady.kept
        rw [State.withFaultsOf, hfault, hlock]
      have hsame (m : Nat) := State.docket?_congr (hdockets.trans hpre.dockets) m
      exact h.closedBesides hrise (st := d.state) hd (hfaults ▸ hpre.steady.trans hsteady)
        ((hsame _).trans (by rw [← htl]; exact hget)) (fun m _ => hsame m) hpost

/-! ### Leaving a pass or an entry, and what a sample brought -/

/-- A cause by which a pass does not end of itself: it resolves UNRESOLVED (R102). -/
abbrev Cause.Ends (c : Cause) : Prop := c ≠ .exit ∧ c ≠ .split

theorem State.outcomeOf_ends (hc : c.Ends) (s : State) (q : Pass) : s.outcomeOf c q = .unresolved := by
  obtain ⟨h1, h2⟩ := hc
  cases c <;> simp_all [State.outcomeOf]

/-- An event that takes a lane out of its pass or entry (R107). -/
theorem State.Ledger.passEnded (h : s.Ledger) (hrise : Table.Rising s.accounts) (hpre : s.Before b n)
    (hstate : (b.detectors.get n).state = (s.detectors.get n).state)
    (hpass : (b.detectors.get n).pass = (s.detectors.get n).pass) (hc : c.Ends)
    (hpost : (b.endPass n c).Beside t n) : s.PassEnded t n c := by
  unfold State.endPass at hpost
  rw [hstate, hpass] at hpost
  refine ⟨fun hp => ?_, fun he => ?_, fun hp he => ?_⟩
  · rw [hp] at hpost
    rw [← State.outcomeOf_ends hc b (s.detectors.get n).pass]
    exact h.resolved hrise hpre hpost
  · rw [he] at hpost
    exact h.discarded hrise hpre hpost
  · refine State.Beside.nothingBooked hpre ?_
    cases hs : (s.detectors.get n).state <;> simp_all

/-- What the Docket Table does with what a sample brought (R16, R17, R93, R102). -/
theorem State.Ledger.heard (h : s.Ledger) (hrise : Table.Rising s.accounts) (hpre : s.Before b n)
    {e : SampleEvent} (he : ∀ c q, e = .resolved c q → c = .exit ∨ c = .split)
    (hpost : (b.hear n e).Beside t n) : s.Heard t n e := by
  have hset : b.settings = s.settings := by
    obtain ⟨-, -, -, -, -, -, -, -, hset⟩ := hpre.steady.kept
    exact hset
  refine ⟨fun hn => ?_, fun hd => ?_, fun c q hr => ?_⟩
  · subst hn
    exact State.Beside.nothingBooked hpre hpost
  · subst hd
    exact h.discarded hrise hpre hpost
  · have hout : b.outcomeOf c q = classMatch s.settings.classes.toList q.peakInd q.peakCap := by
      rw [← hset]
      rcases he c q hr with rfl | rfl <;> rfl
    subst hr
    rw [← hout]
    exact h.resolved hrise hpre hpost

end Sys2Proof.Machine
end

section
/-! SUPPORT. What the end of a pass writes to its lane, and RESEED_LANE (R103, R107, R108). -/
namespace Sys2Proof.Machine

variable {s b t u : State} {n : Lane} {num : Nat} {d : Docket} {c : Cause} {q : Pass}

/-! ### The lane through the end of a pass -/

theorem State.book_strays (s : State) (n : Lane) (o : PassOutcome) : (s.book n o).strays =
    if (s.bookingOf n o).isSome then s.strays else s.strays.set n ((s.strays.get n).count o) := by
  unfold State.book
  cases s.bookingOf n o <;> simp

theorem State.resolve_strays (s : State) (n : Lane) (c : Cause) (q : Pass) :
    (s.resolve n c q).strays = (s.book n (s.outcomeOf c q)).strays := by
  rw [State.resolve_eq, State.waitOver_strays]
  simp [State.booked]

/-- A pass that resolves leaves its detector but for the last outcome record. -/
theorem State.resolve_detectors (s : State) (n : Lane) (c : Cause) (q : Pass) :
    (s.resolve n c q).detectors =
      s.detectors.set n { s.detectors.get n with lastOutcome := some (s.outcomeRecord n c q) } := by
  simp [State.resolve_eq, State.booked]

/-- The end of a pass leaves its detector but for the last outcome record, which the end of anything else
leaves too. -/
theorem State.endPass_detectors (s : State) (n : Lane) (c : Cause) : ∃ k,
    (s.endPass n c).detectors = s.detectors.set n { s.detectors.get n with lastOutcome := k } ∧
    ((s.detectors.get n).state ≠ .present →
      k = (s.detectors.get n).lastOutcome ∧ (s.endPass n c).strays = s.strays) := by
  have hsame : s.detectors = s.detectors.set n
      { s.detectors.get n with lastOutcome := (s.detectors.get n).lastOutcome } :=
    (PerLane.set_get s.detectors n).symm
  unfold State.endPass
  split
  · exact ⟨_, s.resolve_detectors n c _, fun h => absurd ‹_› h⟩
  · exact ⟨_, (by simp : (s.waitOver n).detectors = s.detectors).trans hsame, fun _ => ⟨rfl, by simp⟩⟩
  all_goals exact ⟨_, hsame, fun _ => ⟨rfl, rfl⟩⟩

/-- What ends no pass and no wait changes nothing (R107). -/
theorem State.endPass_nothing (h : (s.detectors.get n).state ≠ .present)
    (h' : (s.detectors.get n).state = .entering → ∀ d, s.laneDocket n = some d → d.state ≠ .closing) :
    s.endPass n c = s := by
  unfold State.endPass
  split
  · exact absurd ‹_› h
  · exact State.waitOver_nothing (h' ‹_›)
  all_goals rfl

/-- At an event that records no fault a closing is told as it is. -/
theorem State.ClosedBesides.closed {tl : Tallies} (h : s.ClosedBesides t n d tl) (hf : SameFaults s t)
    {x : Nat} (hx : d.closedAt = some x) (ha : d.haulier = 0 ∨ (s.account? d.haulier).isSome = true) :
    s.Closed t n d tl x .normal := by
  have hclosed : State.Closed (s.withFaultsOf t) t n d tl x .normal := h x hx ha
  obtain ⟨hfaults, hlock⟩ := hf
  rwa [State.withFaultsOf, hfaults, hlock] at hclosed

theorem Cause.ends_reseed : Cause.Ends .reseed := ⟨nofun, nofun⟩

/-! ### RESEED_LANE (R108) -/

/-- The state in which RESEED_LANE has reseeded a lane and shows its result. -/
def State.reseedEnds (s : State) (n : Lane) : State :=
  State.conclude s ((s.reseed n).respond .lane .reseedLane .ok
    [fixed (be 2 (s.detectors.get n).filtered.ind ++ be 2 (s.detectors.get n).filtered.cap)])

theorem State.reseed_detector (s : State) (n : Lane) : ∃ k,
    (s.reseed n).detectors = s.detectors.set n
      { s.detectors.get n with
        state := .idle, pass := {}, jam := false, freeze := none, lastOutcome := k
        baseline := ⟨16 * (s.detectors.get n).filtered.ind, 16 * (s.detectors.get n).filtered.cap,
          (s.detectors.get n).baseline.ref⟩ } ∧
    ((s.detectors.get n).state ≠ .present → k = (s.detectors.get n).lastOutcome ∧
      (s.reseed n).strays = s.strays) := by
  obtain ⟨k, hk, hkept⟩ := s.endPass_detectors n .reseed
  refine ⟨k, ?_, fun h => ⟨(hkept h).1, by simpa [State.reseed] using (hkept h).2⟩⟩
  simp [State.reseed, hk, Detector.reseeded, Detector.dropPass]

theorem exec_reseedLane {ps : List Byte} (htakes : s.Takes .lane .reseedLane ps)
    (hn : lane? (field ps 0 1) = some n) (hcount : (s.detectors.get n).state.counting = true) :
    exec (.reseedLane .lane ps) s = .next (s.reseedEnds n) := by
  refine congrArg _ ((State.command_takes htakes _).trans ?_)
  obtain ⟨k, hk, -⟩ := s.reseed_detector n
  simp [hn, hcount, State.reseedEnds, hk]

theorem Detector.reseeded_lastOutcome (d : Detector) : d.reseeded.lastOutcome = d.lastOutcome := rfl

/-- What follows the end of the pass leaves the part beside the lane as it was. -/
theorem State.reseedEnds_beside (s : State) (n : Lane) : (s.endPass n .reseed).Beside (s.reseedEnds n) n :=
  ((State.Beside.setDetector _ n n (Detector.reseeded_lastOutcome _)).trans
    (State.Beside.respond (s.reseed n) .lane .reseedLane .ok _ n)).trans (State.Beside.conclude s _ n)

/-- A pass of a lane without a docket resolves into the stray tally alone (R7, R121). -/
theorem State.resolve_stray (h : s.laneDocket n = none) (q : Pass) (c : Cause) :
    (s.resolve n c q).strays = s.strays.set n ((s.strays.get n).count (s.outcomeOf c q)) ∧
    (s.resolve n c q).dockets = s.dockets ∧ s.Steady (s.resolve n c q) := by
  have hbooking := State.bookingOf_none (o := s.outcomeOf c q) h
  obtain ⟨hsteady, hdockets, -, -⟩ := State.booked_stray hbooking
  have hlane := State.laneDocket_congr hsteady.lanes.1 hdockets n
  have heq : s.resolve n c q = s.booked n c q := by
    rw [State.resolve_eq, State.waitOver_nothing fun d hd => ?_]
    rw [hlane, h] at hd
    cases hd
  refine ⟨?_, heq ▸ hdockets, heq ▸ hsteady⟩
  rw [State.resolve_strays, State.book_strays, hbooking]
  rfl

/-- A reseed that ends no pass and no wait writes the lane's detector and its result alone. -/
theorem State.reseedEnds_nothing (hs : s.Fits) (h : s.endPass n .reseed = s) :
    ∃ x b, s.reseedEnds n = (s.setDetector n x).answered .lane .reseedLane b := by
  refine ⟨(s.detectors.get n).reseeded,
    [fixed (be 2 (s.detectors.get n).filtered.ind ++ be 2 (s.detectors.get n).filtered.cap)], ?_⟩
  unfold State.reseedEnds State.reseed
  dsimp only
  rw [h]
  exact State.conclude_idle hs.queue rfl rfl rfl rfl rfl

end Sys2Proof.Machine

namespace Sys2Proof.Proofs
open Sys2Proof.Machine

/-- Settles O50: the refusals, and the end of the pass or entry that the reseeded lane was in. -/
theorem reseedLaneReseeds : Obligations.ReseedLaneReseeds := by
  intro s ps hs hpins htakes
  refine ⟨fun hn => exec_refuses .outOfRange rfl hpins htakes (by simp only [hn]), fun n d hn hd =>
    ⟨fun hc => exec_refuses .wrongState rfl hpins htakes (by simp [hn, hd, hc]), fun hc => ?_⟩⟩
  subst hd
  have hrise := hs.risingAccounts
  have hpost := s.reseedEnds_beside n
  have hbeside : s.Before s n := (State.Beside.refl s n).before
  have hended := hs.ledger.passEnded hrise hbeside rfl rfl Cause.ends_reseed hpost
  obtain ⟨hresolved, hdiscarded, -⟩ := hended
  obtain ⟨k, hdet, hkept⟩ := s.reseed_detector n
  have hdet' : (s.reseedEnds n).detectors = (s.reseed n).detectors := by simp [State.reseedEnds]
  have hstrays : (s.reseedEnds n).strays = (s.endPass n .reseed).strays := by
    simp [State.reseedEnds, State.reseed]
  have hshows := State.conclude_shows s (State.respond_shows (s.reseed n) .lane .reseedLane .ok
    [fixed (be 2 (s.detectors.get n).filtered.ind ++ be 2 (s.detectors.get n).filtered.cap)])
  have hclock : SameClock s (s.reseedEnds n) ∧ SameFaults s (s.reseedEnds n) := by
    obtain ⟨hc, -, -, -, -, -, hf, -⟩ := hpost.steady.kept
    simp only [SameClock, SameFaults, State.endPass_frame] at hc hf ⊢
    exact ⟨hc, hf⟩
  refine ⟨s.reseedEnds n, exec_reseedLane htakes hn hc, ?shows, ⟨k, by simp [hdet', hdet]⟩,
    fun m hm => by simp [hdet', hdet, hm], by simp [State.reseedEnds, State.reseed],
    by simp [State.reseedEnds, State.reseed], by simp [State.reseedEnds, State.reseed],
    by simp [State.reseedEnds, State.reseed], hclock.1, fun hp => ?strays, fun hst => ?nothing, hresolved,
    hdiscarded, fun hp hnone => ?stray, fun x tl u hx htl hu => ⟨fun hp hopen => ?opened, fun c hst hx' ha =>
    ⟨fun hp => ?passed, fun he => ?entered⟩⟩⟩
  case shows =>
    rw [resultBytes_fixed, List.length_append, be_length, be_length] at hshows
    exact hshows
  case strays =>
    obtain ⟨hk, hstray⟩ := hkept hp
    exact ⟨by simpa [State.reseedEnds] using hstray, by simp [hdet', hdet, hk]⟩
  case nothing =>
    have hnothing : s.endPass n .reseed = s := by
      refine State.endPass_nothing ?_ fun he d hd => ?_
      · rcases hst with h | h | h <;> simp [h]
      · rcases hst with h | h | h <;> simp_all
    obtain ⟨x, b, heq⟩ := State.reseedEnds_nothing hs hnothing
    rw [heq]
    simp [SameDockets, SameOrders, SameFloat, SameRecords, SameFaults, SameStore]
  case stray =>
    obtain ⟨b, -, hbooked⟩ := hresolved hp
    obtain ⟨-, -, hflag, -, hopen, hgrace⟩ := hbooked.stray hnone
    have hpass : s.endPass n .reseed = s.resolve n .reseed (s.detectors.get n).pass := by
      simp [State.endPass, hp]
    obtain ⟨hstray, hdockets, hsteady⟩ := s.resolve_stray hnone (s.detectors.get n).pass .reseed
    rw [hpass] at hstrays hpost
    obtain ⟨-, -, ⟨-, hfin⟩, -, -, -, hnext, -⟩ := hsteady.trans hpost.steady
    exact ⟨hstrays.trans hstray, hflag, hpost.dockets.trans hdockets, hfin, hnext, hopen, hgrace⟩
  case opened =>
    obtain ⟨b, -, hbooked⟩ := hresolved hp
    obtain ⟨-, -, hopened, -⟩ := hbooked.taken x tl u hx htl hu
    obtain ⟨hself, hothers, -⟩ := hopened hopen
    have hpass : s.endPass n .reseed = s.resolve n .reseed (s.detectors.get n).pass := by
      simp [State.endPass, hp]
    have hbooking := State.bookingOf_taken hx htl hu
    refine ⟨?_, hself, hothers⟩
    rw [hstrays, hpass, State.resolve_strays, State.book_strays,
      show s.outcomeOf .reseed (s.detectors.get n).pass = .unresolved from rfl, hbooking]
    rfl
  case passed =>
    obtain ⟨b, -, hbooked⟩ := hresolved hp
    obtain ⟨-, -, -, hclosed⟩ := hbooked.taken x tl u hx htl hu
    exact (hclosed hst).closed hclock.2 hx' ha
  case entered =>
    obtain ⟨-, -, -, hclosed⟩ := hdiscarded he
    exact (hclosed x tl hx hst htl).closed hclock.2 hx' ha

end Sys2Proof.Proofs
end

section
/-! SUPPORT. What all that a turn's end does on its lane leaves of the rest of the part (R155). -/
namespace Sys2Proof.Machine

variable {s b t u : State} {n : Lane} {num : Nat} {d : Docket} {c : Cause} {q : Pass}

/-! ### Work on one lane -/

theorem SameButTargets.symm {a b : Detector} (h : SameButTargets a b) : SameButTargets b a := Eq.symm h

theorem SameButTargets.trans {a b c : Detector} (h : SameButTargets a b) (h' : SameButTargets b c) :
    SameButTargets a c := Eq.trans h h'

/-- Work on lane `n` at the end of its turn: what `State.TurnKept` names is kept, every flag stays, and the
lane keeps its open docket or loses it. -/
structure State.LaneWork (s t : State) (n : Lane) : Prop where
  kept : s.TurnKept t n
  docket : t.openDocket.get n = s.openDocket.get n ∨ t.openDocket.get n = none
  flags : FlagsKept s t

theorem State.LaneWork.refl (s : State) (n : Lane) : s.LaneWork s n :=
  ⟨⟨fun _ _ => ⟨rfl, rfl, rfl, rfl, rfl⟩, fun _ _ => rfl, fun _ => ⟨rfl, rfl, rfl, rfl, rfl⟩,
    ⟨rfl, rfl, rfl, rfl, rfl, rfl, rfl, rfl, rfl⟩, fun _ => ⟨rfl, rfl, rfl⟩, rfl, rfl, rfl, rfl, rfl,
    RequestsKept.same rfl rfl rfl, rfl⟩, .inl rfl, fun _ _ h => h⟩

theorem State.LaneWork.trans (h : s.LaneWork t n) (h' : t.LaneWork u n) : s.LaneWork u n := by
  obtain ⟨⟨hlanes, hdockets, hclosed, hclock, hphases, k1, k2, k3, k4, k5, hreq, hset⟩, hopen, hflags⟩ := h
  obtain ⟨⟨hlanes', hdockets', hclosed', hclock', hphases', k1', k2', k3', k4', k5', hreq', hset'⟩, hopen',
    hflags'⟩ := h'
  refine ⟨⟨fun m hm => ?_, fun num hnum => ?_, fun hu => ?_, ?_, hphases.trans hphases', k1'.trans k1,
    k2'.trans k2, k3'.trans k3, k4'.trans k4, k5'.trans k5, hreq.trans hreq', hset'.trans hset⟩, ?_,
    hflags.trans hflags'⟩
  · obtain ⟨h1, h2, h3, h4, h5⟩ := hlanes m hm
    obtain ⟨h1', h2', h3', h4', h5'⟩ := hlanes' m hm
    exact ⟨h1.trans h1', h2'.trans h2, h3'.trans h3, h4'.trans h4, h5'.trans h5⟩
  · refine (hdockets' num ?_).trans (hdockets num hnum)
    rcases hopen with ho | ho <;> rw [ho]
    · exact hnum
    · exact nofun
  · have ht : t.openDocket.get n = s.openDocket.get n := by
      rcases hopen with ho | ho
      · exact ho
      · rcases hopen' with ho' | ho' <;> rw [← hu, ho', ho]
    obtain ⟨h1, h2, h3, h4, h5⟩ := hclosed ht
    obtain ⟨h1', h2', h3', h4', h5'⟩ := hclosed' (hu.trans ht.symm)
    exact ⟨h1'.trans h1, h2'.trans h2, h3'.trans h3, h4'.trans h4, h5'.trans h5⟩
  · simp only [SameClock] at hclock hclock' ⊢
    simp only [hclock, hclock', and_self]
  · rcases hopen' with ho' | ho'
    · exact hopen.imp (ho'.trans ·) (ho'.trans ·)
    · exact .inr ho'

/-- Steady work that touches no other lane. -/
theorem State.LaneWork.of_steady (hsteady : State.Steady (s.withFaultsOf t) t)
    (hlanes : ∀ m, m ≠ n → SameButTargets (s.detectors.get m) (t.detectors.get m) ∧
      t.links.get m = s.links.get m ∧ t.strays.get m = s.strays.get m)
    (hdockets : ∀ num, s.openDocket.get n ≠ some num → t.docket? num = s.docket? num)
    (hphases : SamePhases s t) : s.LaneWork t n := by
  obtain ⟨⟨hopen, hgrace⟩, hrecords, ⟨hqueue, hfin⟩, -, hflags, hclock, k1, k2, k3, k4, k5, -, hreq, hset⟩ :=
    hsteady
  refine ⟨⟨fun m hm => ?_, hdockets, fun _ => ⟨congrArg (·.get n) hgrace, hfin, hqueue, hrecords⟩, hclock,
    hphases, k1, k2, k3, k4, k5, hreq, hset⟩, .inl (congrArg (·.get n) hopen), hflags⟩
  obtain ⟨h1, h2, h3⟩ := hlanes m hm
  exact ⟨h1, h2, h3, congrArg (·.get m) hopen, congrArg (·.get m) hgrace⟩

theorem State.LaneWork.raise (s : State) (p : Port) (e : Event) (n : Lane) : s.LaneWork (s.raise p e) n :=
  .of_steady (State.Steady.raise s p e) (fun _ _ => ⟨rfl, rfl, rfl⟩) (fun _ _ => rfl)
    (State.raise_samePhases s p e)

theorem State.LaneWork.setDetector (s : State) (n : Lane) (x : Detector) :
    s.LaneWork (s.setDetector n x) n :=
  .of_steady (State.setDetector_steady s n x) (fun m hm => ⟨by simp [hm], rfl, rfl⟩) (fun _ _ => rfl)
    fun _ => ⟨rfl, rfl, rfl⟩

theorem State.LaneWork.moveLane (s : State) (n : Lane) (x : Detector) : s.LaneWork (s.moveLane n x) n := by
  unfold State.moveLane
  split
  · exact (State.LaneWork.setDetector s n x).trans (State.LaneWork.raise _ .lane .laneState n)
  · exact State.LaneWork.setDetector s n x

theorem State.LaneWork.setLink (s : State) (n : Lane) (l : LaneLink) : s.LaneWork (s.setLink n l) n :=
  .of_steady (State.Beside.setLink s n n l).steady (fun m hm => ⟨rfl, by simp [hm], rfl⟩) (fun _ _ => rfl)
    fun _ => ⟨rfl, rfl, rfl⟩

theorem State.LaneWork.conclude (b s : State) (n : Lane) : s.LaneWork (State.conclude b s) n := by
  have hsteady := State.Steady.conclude b s
  have hfaults : s.withFaultsOf (State.conclude b s) = s := by simp [State.withFaultsOf]
  exact .of_steady (hfaults.symm ▸ hsteady) (fun m _ => by simp)
    (fun num _ => State.docket?_congr (by simp) num)
    (State.conclude_samePhases b s)

/-! ### A booking and a closing -/

theorem State.booked_steady (s : State) (n : Lane) (c : Cause) (q : Pass) : s.Steady (s.booked n c q) := by
  have hset (x : State) (hx : s.Steady x) (y : Detector) : s.Steady (x.setDetector n y) :=
    hx.trans (State.setDetector_steady x n y)
  refine hset _ ?_ _
  unfold State.book
  split
  · exact State.withTallies_steady ..
  · exact State.bookStray_steady ..

theorem State.LaneWork.booked (s : State) (n : Lane) (c : Cause) (q : Pass) :
    s.LaneWork (s.booked n c q) n := by
  have hfaults : s.withFaultsOf (s.booked n c q) = s := by simp [State.withFaultsOf, State.booked]
  refine .of_steady (hfaults.symm ▸ s.booked_steady n c q) (fun m hm => ?_) (fun num hnum => ?_) ?_
  · refine ⟨by simp [State.booked, hm], by simp [State.booked], ?_⟩
    simp only [State.booked, State.setDetector_frame, State.book_strays]
    split <;> simp [hm]
  · show (s.book n _).docket? num = _
    unfold State.book
    split
    · rename_i m tl hb
      simp only [State.bookingOf, Option.bind_eq_some_iff, Option.map_eq_some_iff, Prod.mk.injEq] at hb
      obtain ⟨x, hx, v, -, rfl, -⟩ := hb
      obtain ⟨m, hm, hget⟩ := Option.bind_eq_some_iff.mp hx
      obtain rfl := State.docket?_number hget
      exact s.updateDocket_others (f := fun d => { d with tallies := some tl }) x.number (fun _ => rfl) num
        fun he => hnum (he ▸ hm)
    · exact State.docket?_congr (by simp) num
  · exact s.book_samePhases n _

theorem RequestsKept.handOff (s : State) (d : Docket) (f : Figures) : RequestsKept s (s.handOff d f) := by
  cases hr : lowestFree 16 s.settlements with
  | some r => exact (State.handOff_requests f hr).1
  | none =>
    have hbefore : RequestsKept s (s.updateDocket d.number fun d =>
        { d with state := .awaitingPayout, order := some { state := .pendingCommit } }) :=
      RequestsKept.same (by simp) (by simp) (by simp)
    simp only [State.handOff, hr, State.updateDocket_frame]
    exact (hbefore.trans (RequestsKept.queueAccountOf _ d.haulier)).trans
      (RequestsKept.same (by simp) (by simp) (by simp))

theorem RequestsKept.completeClosing (hd : s.docket? num = some d) (n : Lane) (why : CloseReason) :
    RequestsKept s (s.completeClosing n num why) := by
  obtain ⟨hsettled, -⟩ := s.closingSettled_kept n num why d
  have hraise (y : State) : RequestsKept y (y.raise .lane .docketDone) :=
    RequestsKept.same (by simp) (by simp) (by simp)
  rw [State.completeClosing_eq hd]
  refine RequestsKept.trans ?_ (hraise _)
  split
  · exact hsettled.trans (RequestsKept.handOff _ _ _)
  · exact hsettled.trans (State.handOffNil_handedOff (f := s.figuresFor d) (by omega)).requests

theorem State.LaneWork.waitOver (s : State) (n : Lane) : s.LaneWork (s.waitOver n) n := by
  unfold State.waitOver
  split
  · rename_i d hd
    split
    · obtain ⟨m, hm, hget⟩ := Option.bind_eq_some_iff.mp hd
      obtain rfl := State.docket?_number hget
      obtain ⟨hopen, hgrace⟩ := State.completeClosing_lane (n := n) (why := .normal) hget
      have hnone : (s.completeClosing n d.number .normal).openDocket.get n = none := by simp [hopen]
      refine ⟨⟨fun m hm => by simp [hopen, hgrace, hm], fun num hnum => ?_, fun he => ?_, ?_,
        State.completeClosing_samePhases hget, by simp, by simp, by simp, by simp, by simp,
        RequestsKept.completeClosing hget n .normal, by simp⟩, .inr hnone,
        FlagsKept.completeClosing hget n .normal⟩
      · refine (State.completeClosing_docket? hget num).trans (if_neg fun he => hnum ?_)
        rw [he, hm]
      · rw [hnone, hm] at he
        cases he
      · simp [SameClock]
    · exact .refl s n
  · exact .refl s n

theorem State.LaneWork.resolve (s : State) (n : Lane) (c : Cause) (q : Pass) :
    s.LaneWork (s.resolve n c q) n :=
  (State.LaneWork.booked s n c q).trans (State.LaneWork.waitOver _ n)

theorem State.LaneWork.endPass (s : State) (n : Lane) (c : Cause) : s.LaneWork (s.endPass n c) n := by
  unfold State.endPass
  split
  · exact .resolve s n c _
  · exact .waitOver s n
  all_goals exact .refl s n

theorem State.LaneWork.hear (s : State) (n : Lane) (e : SampleEvent) : s.LaneWork (s.hear n e) n := by
  cases e with
  | nothing => exact .refl s n
  | resolved c q => exact .resolve s n c q
  | discarded => exact .waitOver s n

theorem State.LaneWork.leaveTo (s : State) (n : Lane) (c : Cause) (f : Detector → Detector) :
    s.LaneWork (s.leaveTo n c f) n :=
  (State.LaneWork.endPass s n c).trans (State.LaneWork.moveLane _ n _)

theorem State.LaneWork.laneOff (s : State) (n : Lane) : s.LaneWork (s.laneOff n) n :=
  (State.LaneWork.leaveTo s n .disable Detector.off).trans (State.LaneWork.setLink _ n _)

theorem State.LaneWork.checkDrift (s : State) (n : Lane) : s.LaneWork (s.checkDrift n) n := by
  unfold State.checkDrift
  dsimp only
  split
  · exact .refl s n
  · split
    · split
      · exact .moveLane s n _
      · split
        · exact .refl s n
        · exact (State.LaneWork.setDetector s n _).trans (.raise _ .lane .drift n)
    · exact .setDetector s n _

end Sys2Proof.Machine
end

section
/-! SUPPORT. The figures a miss counts before it is delivered: the statistic, the silent run and its episode,
and the miss run (R154 to R158). -/
namespace Sys2Proof.Machine

variable {s b t u : State} {n : Lane} {x : Turn} {k : MissKind}

/-! ### An occurrence of a fault beside a lane -/

theorem State.Beside.queueRecord (s : State) (r : RecordId) (n : Lane) : s.Beside (s.queueRecord r) n :=
  ⟨⟨by simp, ⟨by simp, by simp⟩, by simp, WaitsKept.of_waiters (by simp), FlagsKept.of_ports (by simp),
    by simp [SameClock], by simp, by simp, by simp, by simp, by simp, ⟨by simp, by simp⟩,
    RequestsKept.queueRecord s r, by simp⟩, by simp, by simp, by simp⟩

theorem State.evalLockout_ports (s : State) : FlagsKept s s.evalLockout ∧ SamePhases s s.evalLockout := by
  unfold State.evalLockout
  dsimp only
  split
  · exact ⟨fun _ _ h => h, fun _ => ⟨rfl, rfl, rfl⟩⟩
  · generalize hy : ({ s with lockout := _ } : State) = y
    have hports : y.ports = s.ports := by rw [← hy]
    refine ⟨(FlagsKept.of_ports hports).trans
      ((FlagsKept.raise y .payout .lockout).trans (FlagsKept.raise _ .office .lockout)), ?_⟩
    refine SamePhases.trans ?_ ((y.raise_samePhases .payout .lockout).trans
      ((y.raise .payout .lockout).raise_samePhases .office .lockout))
    exact fun q => by rw [hports]; exact ⟨rfl, rfl, rfl⟩

/-- An occurrence of a fault at an event that writes the fault record itself (R163, R164): the record, and
the events it raises. -/
theorem State.noteFault_beside (s : State) (f : FaultRecord) (k : FaultKind) (n : Lane) :
    s.Before (({ s with faults := f }).noteFault k) n ∧
    SamePhases s (({ s with faults := f }).noteFault k) ∧
    (({ s with faults := f }).noteFault k).Flagged .office .fault := by
  have hframe : SameBeside (s.withFaultsOf (({ s with faults := f }).noteFault k))
      (({ s with faults := f }).noteFault k) := by simp [State.noteFault, SameBeside, SameClock, SameFaults]
  have hdockets : (({ s with faults := f }).noteFault k).dockets = s.dockets := by simp [State.noteFault]
  have hstrays : (({ s with faults := f }).noteFault k).strays = s.strays := by simp [State.noteFault]
  have hdetectors : (({ s with faults := f }).noteFault k).detectors = s.detectors := by
    simp [State.noteFault]
  suffices hports : FlagsKept s (({ s with faults := f }).noteFault k) ∧
      SamePhases s (({ s with faults := f }).noteFault k) ∧
      (({ s with faults := f }).noteFault k).Flagged .office .fault by
    obtain ⟨hflags, hphases, hflag⟩ := hports
    exact ⟨⟨.of_same hframe hflags, hdockets, by rw [hstrays], by rw [hdetectors]⟩, hphases, hflag⟩
  unfold State.noteFault
  generalize hy : State.mk .. = y
  have hsame : y.ports = s.ports := by rw [← hy]
  obtain ⟨hflags, hphases⟩ := (y.raise .office .fault).evalLockout_ports
  have hbefore : SamePhases s y := fun q => by rw [hsame]; exact ⟨rfl, rfl, rfl⟩
  exact ⟨(FlagsKept.of_ports hsame).trans ((FlagsKept.raise y .office .fault).trans hflags),
    hbefore.trans ((y.raise_samePhases .office .fault).trans hphases),
    hflags _ _ (State.raise_flagged y .office .fault)⟩

/-- An occurrence of a fault that queues its record (R165). -/
theorem State.recordFault_beside (s : State) (f : FaultRecord) (k : FaultKind) (n : Lane) :
    s.Before (({ s with faults := f }).recordFault k) n ∧
    SamePhases s (({ s with faults := f }).recordFault k) ∧
    (({ s with faults := f }).recordFault k).Flagged .office .fault ∧
    (({ s with faults := f }).recordFault k).hasEntry .fault = true := by
  obtain ⟨hbefore, hphases, hflag⟩ := s.noteFault_beside f k n
  have hports : (({ s with faults := f }).recordFault k).ports =
      (({ s with faults := f }).noteFault k).ports := by
    simp [State.recordFault]
  exact ⟨hbefore.trans (State.Beside.queueRecord _ .fault n), fun q => by rw [hports]; exact hphases q,
    FlagsKept.of_ports hports _ _ hflag, State.queueRecord_self _ rfl false⟩

/-! ### The statistic, the silent run and the miss run -/

/-- The state in which a turn's end has counted its outcome, before the delivery (R155 steps 1 to 4). -/
def State.counted (s : State) (x : Turn) (v : Verdict) : State :=
  ((({ s with turn := none }).countTurn x v).silence x v).missRunAfter x v

/-- What a miss counts: `State.Missed` names the figures. -/
structure State.MissCounted (s b : State) (x : Turn) (k : MissKind) : Prop where
  stats : (b.links.get x.lane).stats = (s.links.get x.lane).stats.raiseMiss k
  runs : (b.links.get x.lane).silentRun = min 1020 ((s.links.get x.lane).silentRun + 1) ∧
    (b.links.get x.lane).missRun = min 255 ((s.links.get x.lane).missRun + 1) ∧
    (b.links.get x.lane).lastSeq = (s.links.get x.lane).lastSeq
  opens : (s.links.get x.lane).silentOpen = false →
    s.settings.silentLimit ≤ min 1020 ((s.links.get x.lane).silentRun + 1) →
    (b.links.get x.lane).silentOpen = true ∧
    b.faults = ({ s.faults with silentLanes := s.faults.silentLanes.set x.lane true }).set .gateSilent
      ((s.faults.get .gateSilent).occur s.yardTime) ∧
    b.hasEntry .fault = true ∧ b.Flagged .office .fault
  stays : ((s.links.get x.lane).silentOpen = true ∨
      min 1020 ((s.links.get x.lane).silentRun + 1) < s.settings.silentLimit) →
    (b.links.get x.lane).silentOpen = (s.links.get x.lane).silentOpen ∧ SameFaults s b
  before : s.Before b x.lane
  links : ∀ m, m ≠ x.lane → b.links.get m = s.links.get m
  phases : SamePhases s b

/-- A turn that is over, and its lane's figures, are beside what a closing reads. -/
theorem State.Beside.setTurn (s : State) (y : Option Turn) (n : Lane) : s.Beside { s with turn := y } n :=
  ⟨.of_same (by simp [SameBeside, SameClock, SameFaults]) (FlagsKept.of_ports rfl), rfl, rfl, rfl⟩

theorem State.Beside.withFaultsOf (h : s.Beside t n) (u : State) :
    (s.withFaultsOf u).Beside (t.withFaultsOf u) n := by
  obtain ⟨⟨hlanes, hrecords, hlists, hwaits, hflags, hclock, k1, k2, k3, k4, k5, -, hreq, hset⟩, hd, hs,
    ho⟩ := h
  exact ⟨⟨hlanes, hrecords, hlists, hwaits, hflags, hclock, k1, k2, k3, k4, k5, ⟨rfl, rfl⟩, hreq, hset⟩,
    hd, hs, ho⟩

theorem State.Beside.thenBefore (h : s.Beside b n) (h' : b.Before t n) : s.Before t n :=
  (h.withFaultsOf t).trans h'

/-- What a miss does to the silent run, and where it opens an episode, to the fault record (R156). -/
theorem State.silence_miss (s : State) (x : Turn) (k : MissKind) :
    (s.silence x (.miss k)).links = s.links.set x.lane
      { s.links.get x.lane with
        silentRun := min 1020 ((s.links.get x.lane).silentRun + 1)
        silentOpen := (s.links.get x.lane).silentOpen ||
          decide (s.settings.silentLimit ≤ min 1020 ((s.links.get x.lane).silentRun + 1)) } ∧
    ((s.links.get x.lane).silentOpen = false →
      s.settings.silentLimit ≤ min 1020 ((s.links.get x.lane).silentRun + 1) →
      (s.silence x (.miss k)).faults =
        ({ s.faults with silentLanes := s.faults.silentLanes.set x.lane true }).set .gateSilent
          ((s.faults.get .gateSilent).occur s.yardTime) ∧
      (s.silence x (.miss k)).hasEntry .fault = true ∧ (s.silence x (.miss k)).Flagged .office .fault) ∧
    (((s.links.get x.lane).silentOpen = true ∨
        min 1020 ((s.links.get x.lane).silentRun + 1) < s.settings.silentLimit) →
      SameFaults s (s.silence x (.miss k))) ∧
    s.Before (s.silence x (.miss k)) x.lane ∧ SamePhases s (s.silence x (.miss k)) := by
  unfold State.silence
  generalize hl : s.links.get x.lane = l
  dsimp only
  split
  · rename_i hopens
    obtain ⟨hlimit, hopen⟩ := hopens
    have hbeside := State.Beside.setLink s x.lane x.lane
      { l with silentRun := min 1020 (l.silentRun + 1), silentOpen := true }
    obtain ⟨hbefore, hphases, hflag, hentry⟩ :=
      (s.setLink x.lane { l with silentRun := min 1020 (l.silentRun + 1), silentOpen := true }).recordFault_beside
        { s.faults with silentLanes := s.faults.silentLanes.set x.lane true } .gateSilent x.lane
    refine ⟨by simp [hlimit], fun _ _ => ⟨?_, hentry, hflag⟩, fun h => ?_, hbeside.thenBefore hbefore, hphases⟩
    · simp [FaultRecord.get]
    · rcases h with h | h
      · simp [h] at hopen
      · omega
  · rename_i hstays
    refine ⟨?_, fun ho hlimit => absurd ⟨hlimit, by simp [ho]⟩ hstays, fun _ => ⟨rfl, rfl⟩,
      (State.Beside.setLink s x.lane x.lane _).before, fun _ => ⟨rfl, rfl, rfl⟩⟩
    have : (l.silentOpen || decide (s.settings.silentLimit ≤ min 1020 (l.silentRun + 1))) = l.silentOpen := by
      cases ho : l.silentOpen <;> simp_all
    rw [this]
    rfl

theorem State.counted_miss (s : State) (x : Turn) (k : MissKind) :
    s.MissCounted (s.counted x (.miss k)) x k := by
  unfold State.counted
  generalize hy : ({ s with turn := none } : State).countTurn x (.miss k) = y
  have hbeside : s.Beside y x.lane := hy ▸ (State.Beside.setTurn s none x.lane).trans
    (State.Beside.setLink _ x.lane x.lane _)
  have hlinks : y.links = s.links.set x.lane
      { s.links.get x.lane with stats := (s.links.get x.lane).stats.raiseMiss k } := by
    simp [← hy, State.countTurn, LinkStats.afterTurn]
  have hports : y.ports = s.ports := by simp [← hy]
  have hsettings : y.settings = s.settings := by simp [← hy]
  have hfaults : y.faults = s.faults ∧ y.lockout = s.lockout := by simp [← hy]
  have hyard : y.yardTime = s.yardTime := by simp [← hy]
  obtain ⟨hlinks', hopens, hstays, hbefore, hphases⟩ := y.silence_miss x k
  generalize y.silence x (.miss k) = z at *
  have hend := State.Beside.setLink z x.lane x.lane
    { z.links.get x.lane with missRun := min 255 ((z.links.get x.lane).missRun + 1) }
  simp only [hlinks, hsettings, hfaults, hyard, PerLane.get_set, if_true, SameFaults] at hlinks' hopens hstays
  refine ⟨?_, ?_, fun ho hlimit => ?_, fun h => ?_, (hbeside.thenBefore hbefore).trans hend, fun m hm => ?_, ?_⟩
  · simp [State.missRunAfter, hlinks']
  · simp [State.missRunAfter, hlinks']
  · exact ⟨by simp [State.missRunAfter, hlinks', hlimit], hopens ho hlimit⟩
  · refine ⟨?_, hstays h⟩
    rcases h with h | h
    · simp [State.missRunAfter, hlinks', h]
    · simp [State.missRunAfter, hlinks', Nat.not_le.mpr h]
  · simp [State.missRunAfter, hlinks', hm]
  · intro q
    have := hphases q
    rwa [hports] at this

/-- Counting a miss is work on one lane. -/
theorem State.MissCounted.work (h : s.MissCounted b x k) (hdetectors : b.detectors = s.detectors)
    (hstrays : b.strays = s.strays) : s.LaneWork b x.lane :=
  .of_steady h.before.steady (fun m hm => ⟨by rw [hdetectors], h.links m hm, by rw [hstrays]⟩)
    (fun num _ => State.docket?_congr h.before.dockets num) h.phases

end Sys2Proof.Machine
end

section
/-! SUPPORT. What a sample processed in a counting state does to its lane, as the statements read it (R90,
R92 to R101, R138, R139). -/
namespace Sys2Proof.Machine

variable {s b t u : State} {n : Lane} {cfg : LaneSettings} {d e : Detector} {raw : PerChan Nat} {r : Sampled}

/-! ### The four stages -/

/-- What stage 4 keeps of the detector that stages 1 and 2 left, and what it reports (R92 to R101). -/
structure Sampled.After (r : Sampled) (d : Detector) : Prop where
  filtered : r.detector.filtered = d.filtered
  lastRaw : r.detector.lastRaw = d.lastRaw
  driftMark : r.detector.driftMark = d.driftMark
  lastOutcome : r.detector.lastOutcome = d.lastOutcome
  counting : r.detector.state.counting = true
  resolved : ∀ c q, r.event = .resolved c q →
    (c = .exit ∨ c = .split) ∧ r.detector.state ≠ .present ∧ r.detector.state ≠ .entering

theorem Detector.beginPass_after (cfg : LaneSettings) (d : Detector) (q : Pass) :
    Sampled.After { detector := d.beginPass cfg q } d :=
  ⟨rfl, rfl, rfl, rfl, rfl, nofun⟩

theorem sampleIdle_after (cfg : LaneSettings) (h : d.state = .idle) (x : Deltas) :
    (sampleIdle cfg d x).After d := by
  unfold sampleIdle
  split
  · dsimp only
    split
    · exact d.beginPass_after cfg _
    · exact ⟨rfl, rfl, rfl, rfl, rfl, nofun⟩
  · exact ⟨rfl, rfl, rfl, rfl, by rw [h]; rfl, nofun⟩

theorem sampleEntering_after (cfg : LaneSettings) (h : d.state = .entering) (x : Deltas) :
    (sampleEntering cfg d x).After d := by
  unfold sampleEntering
  split
  · dsimp only
    split
    · exact d.beginPass_after cfg _
    · exact ⟨rfl, rfl, rfl, rfl, by rw [h]; rfl, nofun⟩
  · exact ⟨rfl, rfl, rfl, rfl, rfl, nofun⟩

theorem samplePresent_after (cfg : LaneSettings) (h : d.state = .present) (x : Deltas) :
    (samplePresent cfg d x).After d := by
  unfold samplePresent
  dsimp only
  split
  · exact ⟨rfl, rfl, rfl, rfl, rfl, fun c q hr => by cases hr; exact ⟨.inl rfl, nofun, nofun⟩⟩
  · split
    · exact ⟨rfl, rfl, rfl, rfl, rfl, fun c q hr => by cases hr; exact ⟨.inr rfl, nofun, nofun⟩⟩
    · exact ⟨rfl, rfl, rfl, rfl, by rw [h]; rfl, nofun⟩

theorem sampleGap_after (cfg : LaneSettings) (h : d.state = .gap) (x : Deltas) :
    (sampleGap cfg d x).After d := by
  unfold sampleGap
  dsimp only
  split
  · exact ⟨rfl, rfl, rfl, rfl, rfl, nofun⟩
  · split
    · exact ⟨rfl, rfl, rfl, rfl, rfl, nofun⟩
    · exact ⟨rfl, rfl, rfl, rfl, by rw [h]; rfl, nofun⟩

theorem detect_after (cfg : LaneSettings) (h : d.state.counting = true) (raw : PerChan Nat) :
    (detect cfg d raw).After (d.track cfg raw) := by
  unfold detect
  dsimp only
  have htrack : (d.track cfg raw).state = d.state := rfl
  split
  · exact sampleIdle_after cfg (htrack.trans ‹_›) _
  · exact sampleEntering_after cfg (htrack.trans ‹_›) _
  · exact samplePresent_after cfg (htrack.trans ‹_›) _
  · exact sampleGap_after cfg (htrack.trans ‹_›) _
  all_goals simp_all [LaneState.counting]

theorem drifted_iff (cfg : LaneSettings) (d : Detector) :
    drifted cfg d = true ↔ Drifts cfg d.baseline := by
  unfold drifted Drifts distance
  simp only [Bool.or_eq_true, decide_eq_true_eq]
  have habs (a b : Nat) : ((a : Int) - (b : Int)).natAbs = (a - b) + (b - a) := by omega
  simp only [habs]

/-! ### The drift check -/

theorem SameButTargets.lastOutcome (h : SameButTargets d e) : d.lastOutcome = e.lastOutcome := by
  have hk := congrArg Detector.lastOutcome h
  exact hk

/-- What the drift check leaves of the detector, by its state and its baselines (R138, R139). -/
theorem State.checkDrift_detector (s : State) (n : Lane) :
    ((s.detectors.get n).state ≠ .idle → (s.checkDrift n).detectors = s.detectors) ∧
    ((s.detectors.get n).state = .idle → ¬ Drifts (s.settings.lanes.get n) (s.detectors.get n).baseline →
      (s.checkDrift n).detectors = s.detectors.set n { s.detectors.get n with driftMark := false }) ∧
    ((s.detectors.get n).state = .idle → Drifts (s.settings.lanes.get n) (s.detectors.get n).baseline →
      s.openDocket.get n = none → (s.checkDrift n).detectors = s.detectors.set n (s.detectors.get n).tuning ∧
        (s.checkDrift n).Flagged .lane .laneState) ∧
    ((s.detectors.get n).state = .idle → Drifts (s.settings.lanes.get n) (s.detectors.get n).baseline →
      s.openDocket.get n ≠ none →
      (s.checkDrift n).detectors = s.detectors.set n { s.detectors.get n with driftMark := true } ∧
      ((s.detectors.get n).driftMark = false → (s.checkDrift n).Flagged .lane .drift)) := by
  unfold State.checkDrift
  simp only [← drifted_iff]
  generalize hd : s.detectors.get n = d
  by_cases hidle : d.state = .idle
  · rw [if_neg (not_not_intro hidle)]
    by_cases hdrift : drifted (s.settings.lanes.get n) d = true
    · rw [if_pos hdrift]
      refine ⟨fun h => absurd hidle h, fun _ h => absurd hdrift h, fun _ _ hopen => ?_, fun _ _ hopen => ?_⟩
      · rw [if_pos (by simp [hopen])]
        refine ⟨by simp, ?_⟩
        rw [State.moveLane, hd, hidle]
        exact State.raise_flagged _ .lane .laneState
      · rw [if_neg (by simp [hopen])]
        split
        · rename_i hmark
          refine ⟨?_, fun h => absurd (hmark.symm.trans h) (by decide)⟩
          rw [← hmark, ← hd, PerLane.set_get]
        · exact ⟨rfl, fun _ => State.raise_flagged _ .lane .drift⟩
    · rw [if_neg hdrift]
      exact ⟨fun h => absurd hidle h, fun _ _ => rfl, fun _ h => absurd h hdrift, fun _ h => absurd h hdrift⟩
  · rw [if_pos hidle]
    exact ⟨fun _ => rfl, fun h => absurd h hidle, fun h => absurd h hidle, fun h => absurd h hidle⟩

theorem State.Beside.checkDrift (s : State) (n : Lane) : s.Beside (s.checkDrift n) n := by
  unfold State.checkDrift
  dsimp only
  split
  · exact .refl s n
  · split
    · split
      · exact .moveLane s n n rfl
      · split
        · exact .refl s n
        · exact (State.Beside.setDetector s n n (x := { s.detectors.get n with driftMark := true }) rfl).trans
            (.raise _ .lane .drift n)
    · exact .setDetector s n n rfl

/-! ### A sample processed -/

/-- What is heard of a sample leaves its detector but for the last outcome record. -/
theorem State.hear_detectors (s : State) (n : Lane) (e : SampleEvent) : ∃ k,
    (s.hear n e).detectors = s.detectors.set n { s.detectors.get n with lastOutcome := k } := by
  cases e with
  | nothing => exact ⟨_, (PerLane.set_get s.detectors n).symm⟩
  | resolved c q => exact ⟨_, s.resolve_detectors n c q⟩
  | discarded =>
    exact ⟨_, (by simp [State.hear] : (s.hear n .discarded).detectors = s.detectors).trans
      (PerLane.set_get s.detectors n).symm⟩

/-- The detector and the jam event of a sample, before the Docket Table hears of it (R90, R97). -/
def State.sampled (s : State) (n : Lane) (raw : PerChan Nat) : State :=
  let r := detect (s.settings.lanes.get n) (s.detectors.get n) raw
  if r.jam then (s.setDetector n r.detector).raise .lane .jam else s.setDetector n r.detector

theorem State.countingSample_eq (s : State) (n : Lane) (raw : PerChan Nat) : s.countingSample n raw =
    ((s.sampled n raw).hear n (detect (s.settings.lanes.get n) (s.detectors.get n) raw).event).checkDrift n := rfl

theorem State.sampled_detectors (s : State) (n : Lane) (raw : PerChan Nat) : (s.sampled n raw).detectors =
    s.detectors.set n (detect (s.settings.lanes.get n) (s.detectors.get n) raw).detector := by
  unfold State.sampled
  dsimp only
  split <;> rfl

theorem State.sampled_beside (h : (s.detectors.get n).state.counting = true) (raw : PerChan Nat) :
    s.Beside (s.sampled n raw) n := by
  have hset := State.Beside.setDetector s n n
    (detect_after (s.settings.lanes.get n) h raw).lastOutcome
  unfold State.sampled
  dsimp only
  split
  · exact hset.trans (.raise _ .lane .jam n)
  · exact hset

/-- A state that goes on from a sample processed: it lies beside, and a turn that begins may have written the
targets sent. -/
structure State.GoesOn (s t : State) (n : Lane) : Prop where
  beside : s.Beside t n
  detector : SameButTargets (s.detectors.get n) (t.detectors.get n)

/-- The drift check of the detector that a sample left, as `State.Processed` reads it (R138, R139). -/
theorem State.checkDrift_goesOn {x : Detector} (k : Option OutcomeRecord)
    (hget : s.detectors.get n = { x with lastOutcome := k }) (hpost : (s.checkDrift n).GoesOn t n) :
    (x.state ≠ .idle → SameButTargets (x.withOutcomeOf (t.detectors.get n)) (t.detectors.get n)) ∧
    (x.state = .idle → ¬ Drifts (s.settings.lanes.get n) x.baseline →
      SameButTargets { x.withOutcomeOf (t.detectors.get n) with driftMark := false } (t.detectors.get n)) ∧
    (x.state = .idle → Drifts (s.settings.lanes.get n) x.baseline → t.openDocket.get n = none →
      SameButTargets { x.withOutcomeOf (t.detectors.get n) with
        state := .tuning, pass := {}, jam := false, freeze := none, freshRun := 0, settleCount := 0
        tuneAck := false, tuneCount := 0, tuneFailure := none, driftMark := false } (t.detectors.get n) ∧
      t.Flagged .lane .laneState) ∧
    (x.state = .idle → Drifts (s.settings.lanes.get n) x.baseline → t.openDocket.get n ≠ none →
      SameButTargets { x.withOutcomeOf (t.detectors.get n) with driftMark := true } (t.detectors.get n) ∧
      (x.driftMark = false → t.Flagged .lane .drift)) := by
  obtain ⟨hon, hsame⟩ := hpost
  obtain ⟨hbusy, hsteady, hretunes, hdefers⟩ := s.checkDrift_detector n
  have hall := (State.Beside.checkDrift s n).trans hon
  have hopen : t.openDocket = s.openDocket := hall.steady.lanes.1
  have hk : (t.detectors.get n).lastOutcome = k := by rw [hall.outcome, hget]
  subst hk
  rw [hget] at hbusy hsteady hretunes hdefers
  rw [hopen]
  refine ⟨fun hst => ?_, fun hst hdrift => ?_, fun hst hdrift ho => ?_, fun hst hdrift ho => ?_⟩
  · rwa [hbusy hst, hget] at hsame
  · rwa [hsteady hst hdrift, PerLane.get_set, if_pos rfl] at hsame
  · obtain ⟨hdet, hflag⟩ := hretunes hst hdrift ho
    rw [hdet, PerLane.get_set, if_pos rfl] at hsame
    exact ⟨hsame, hon.steady.flags _ _ hflag⟩
  · obtain ⟨hdet, hflag⟩ := hdefers hst hdrift ho
    rw [hdet, PerLane.get_set, if_pos rfl] at hsame
    exact ⟨hsame, fun hmark => hon.steady.flags _ _ (hflag hmark)⟩

/-- A sample processed in a counting state (R90, R97, R104, R138, R139). -/
theorem State.Ledger.processed (h : s.Ledger) (hrise : Table.Rising s.accounts) (hpre : s.Before b n)
    {raw : PerChan Nat} (hdet : b.detectors.get n = { s.detectors.get n with lastRaw := raw })
    (hcount : (s.detectors.get n).state.counting = true)
    (hpost : (b.countingSample n raw).GoesOn t n) :
    s.Processed t n raw (detect (s.settings.lanes.get n) { s.detectors.get n with lastRaw := raw } raw) := by
  have hset : b.settings = s.settings := by
    obtain ⟨-, -, -, -, -, -, -, -, hset⟩ := hpre.steady.kept
    exact hset
  have hcount' : (b.detectors.get n).state.counting = true := by rw [hdet]; exact hcount
  have hafter := detect_after (b.settings.lanes.get n) hcount' raw
  have hsampled := State.sampled_beside hcount' raw
  have hdet' := b.sampled_detectors n raw
  have hjam : (detect (b.settings.lanes.get n) (b.detectors.get n) raw).jam = true →
      (b.sampled n raw).Flagged .lane .jam := fun hj => by
    rw [State.sampled, if_pos hj]
    exact State.raise_flagged _ .lane .jam
  rw [State.countingSample_eq] at hpost
  rw [hdet, hset] at hafter hdet' hjam hpost
  generalize hr : detect (s.settings.lanes.get n) { s.detectors.get n with lastRaw := raw } raw = r at *
  generalize b.sampled n raw = y at *
  obtain ⟨k, hk⟩ := y.hear_detectors n r.event
  have hdrift := State.Beside.checkDrift (y.hear n r.event) n
  have hheard := h.heard hrise (hpre.trans hsampled) (fun c q he => (hafter.resolved c q he).1)
    (hdrift.trans hpost.beside)
  have hset' : (y.hear n r.event).settings = s.settings := by
    obtain ⟨-, -, -, -, -, -, -, -, hy⟩ := hsampled.steady.kept
    simp [hy, hset]
  obtain ⟨hbusy, hsteady, hretunes, hdefers⟩ :=
    State.checkDrift_goesOn (x := r.detector) k (by simp [hk, hdet']) hpost
  rw [hset'] at hsteady hretunes hdefers
  refine ⟨hr.symm, hheard, fun hj => ?_, hbusy, hsteady, hretunes, fun hst hd ho => ?_⟩
  · exact hpost.beside.steady.flags _ _ (hdrift.steady.flags _ _
      ((State.LaneWork.hear y n r.event).flags _ _ (hjam hj)))
  · obtain ⟨hsame, hflag⟩ := hdefers hst hd ho
    exact ⟨hsame, fun hmark => hflag (hafter.driftMark.trans hmark)⟩

end Sys2Proof.Machine
end

section
/-! SUPPORT. The turn that follows the end of a turn: the lane of the rotation, its call, and what its
beginning leaves (R143, R145, R147, R148). -/
namespace Sys2Proof.Machine

variable {s t u : State} {n m : Lane}

/-! ### The lane of the next turn -/

theorem Lane.list_rising : Lane.list.Pairwise fun l l' => laneIndex l < laneIndex l' := by decide

theorem Lane.mem_list (l : Lane) : l ∈ Lane.list := by cases l <;> decide

/-- The head of the lanes that pass a test is the lowest of them. -/
theorem Lane.head_lowest {f : Lane → Bool} (h : (Lane.list.filter f).head? = some m) :
    f m = true ∧ ∀ l, f l = true → laneIndex m ≤ laneIndex l := by
  obtain ⟨rest, hrest⟩ := List.head?_eq_some_iff.mp h
  have hmem : m ∈ Lane.list.filter f := hrest ▸ List.mem_cons_self
  refine ⟨(List.mem_filter.mp hmem).2, fun l hl => ?_⟩
  have hrise := Lane.list_rising.filter f
  have hl' : l ∈ Lane.list.filter f := List.mem_filter.mpr ⟨Lane.mem_list l, hl⟩
  rw [hrest] at hrise hl'
  rcases List.mem_cons.mp hl' with rfl | hin
  · exact le_rfl
  · exact Nat.le_of_lt ((List.pairwise_cons.mp hrise).1 l hin)

theorem State.nextLane_some (h : s.nextLane = some m) : s.NextInRotation m := by
  unfold State.nextLane at h
  dsimp only at h
  rw [List.filter_filter] at h
  rcases (Option.orElse_eq_some _ _ _).mp h with habove | ⟨hnone, hlow⟩
  · obtain ⟨hm, hlowest⟩ := Lane.head_lowest habove
    simp only [Bool.and_eq_true] at hm hlowest
    exact ⟨hm.2, fun l hl => ⟨fun _ hal => hlowest l ⟨hal, hl⟩, fun hna => absurd hm.1 hna⟩⟩
  · obtain ⟨hm, hlowest⟩ := Lane.head_lowest hlow
    have hempty (l : Lane) (hl : s.enabled l = true) : ¬ s.Above l := fun hal => by
      rw [List.head?_eq_none_iff, List.filter_eq_nil_iff] at hnone
      exact hnone l (Lane.mem_list l) (by simp only [Bool.and_eq_true]; exact ⟨hal, hl⟩)
    exact ⟨hm, fun l hl => ⟨fun _ hal => absurd hal (hempty l hl), fun _ => ⟨hempty l hl, hlowest l hl⟩⟩⟩

theorem State.nextLane_none (h : s.nextLane = none) (l : Lane) : s.enabled l = false := by
  obtain ⟨-, hempty⟩ := (Option.orElse_eq_none _ _).mp h
  rw [List.head?_eq_none_iff, List.filter_eq_nil_iff] at hempty
  simpa using hempty l (Lane.mem_list l)

/-! ### A turn that begins -/

theorem State.beginTurn_detectors (s : State) (n : Lane) :
    (s.beginTurn n).detectors = (if callKindOf (s.detectors.get n) = .tune
      then s.detectors.set n { s.detectors.get n with targetsSent := some (s.settings.lanes.get n).targets }
      else s.detectors) := by
  unfold State.beginTurn
  dsimp only
  split <;> rfl

theorem State.beginTurn_turn (s : State) (n : Lane) : (s.beginTurn n).turn =
    some ⟨n, callKindOf (s.detectors.get n), s.settings.bitRate,
      callBytes (callKindOf (s.detectors.get n)) n s.settings.bitRate (s.settings.lanes.get n).targets,
      .watching, false⟩ := by
  unfold State.beginTurn
  dsimp only
  split <;> rfl

theorem callKindOf_config (d : Detector) : callKindOf d = .config ↔ d.state = .configuring := by
  unfold callKindOf
  cases d.state <;> cases d.tuneAck <;> simp

theorem callKindOf_tune (d : Detector) : callKindOf d = .tune ↔ d.state = .tuning ∧ d.tuneAck = false := by
  unfold callKindOf
  cases d.state <;> cases d.tuneAck <;> simp

theorem State.beginTurn_begun (s : State) (n : Lane) :
    ∃ y, (s.beginTurn n).turn = some y ∧ (s.beginTurn n).Begun y ∧ y.lane = n := by
  refine ⟨_, s.beginTurn_turn n, ⟨rfl, rfl, by simp, rfl, by simp, ?_, ?_, ?_⟩, rfl⟩
  · dsimp only
    rw [callKindOf_config, s.beginTurn_detectors n]
    split <;> simp
  · dsimp only
    rw [callKindOf_tune, s.beginTurn_detectors n]
    split <;> simp
  · dsimp only
    intro hk
    rw [s.beginTurn_detectors n, if_pos hk]
    simp

/-- Another state with the same turn, rotation, settings and detectors. -/
theorem State.Begun.congr {y : Turn} (h : s.Begun y) (hrot : t.rotation = s.rotation)
    (hset : t.settings = s.settings) (hdet : t.detectors = s.detectors) : t.Begun y := by
  simp only [State.Begun, hrot, hset, hdet] at h ⊢
  exact h

/-- The turn that follows: it begins for the lane of the rotation where the part runs and a lane is enabled,
and otherwise the link idles (R147, R160). -/
theorem State.nextTurn_follows (s : State) :
    (s.mode = .running → (∃ m, s.enabled m = true) →
      ∃ y, s.nextTurn.turn = some y ∧ s.nextTurn.Begun y ∧ s.NextInRotation y.lane) ∧
    (s.mode ≠ .running ∨ (∀ m, s.enabled m = false) → s.nextTurn = s) := by
  unfold State.nextTurn
  refine ⟨fun hmode hany => ?_, fun hnone => ?_⟩
  · rw [if_pos hmode]
    split
    · rename_i m hm
      obtain ⟨y, hy, hbegun, rfl⟩ := s.beginTurn_begun m
      exact ⟨y, hy, hbegun, State.nextLane_some hm⟩
    · obtain ⟨m, hm⟩ := hany
      exact absurd (State.nextLane_none ‹_› m) (by simp [hm])
  · split
    · split
      · rename_i hmode _ m hm
        obtain ⟨hen, -⟩ := State.nextLane_some hm
        rcases hnone with h | h
        · exact absurd hmode h
        · exact absurd (h m) (by simp [hen])
      · rfl
    · rfl

/-! ### What the beginning of a turn leaves -/

theorem State.GoesOn.refl (s : State) (n : Lane) : s.GoesOn s n := ⟨.refl s n, rfl⟩

theorem State.GoesOn.trans (h : s.GoesOn t n) (h' : t.GoesOn u n) : s.GoesOn u n :=
  ⟨h.beside.trans h'.beside, h.detector.trans h'.detector⟩

theorem State.GoesOn.conclude (b s : State) (n : Lane) : s.GoesOn (State.conclude b s) n :=
  ⟨.conclude b s n, by simp⟩

theorem State.beginTurn_sameButTargets (s : State) (n m : Lane) :
    SameButTargets (s.detectors.get m) ((s.beginTurn n).detectors.get m) := by
  rw [s.beginTurn_detectors n]
  split
  · rw [PerLane.get_set]
    split
    · rename_i hm
      rw [hm]
    · rfl
  · rfl

theorem State.beginTurn_goesOn (s : State) (n m : Lane) : s.GoesOn (s.beginTurn n) m := by
  have hsame := s.beginTurn_sameButTargets n m
  refine ⟨⟨.of_same (by simp [SameBeside, SameClock, SameFaults]) (FlagsKept.of_ports (by simp)), by simp,
    by simp, ?_⟩, hsame⟩
  exact hsame.lastOutcome.symm

theorem State.nextTurn_goesOn (s : State) (m : Lane) : s.GoesOn s.nextTurn m := by
  unfold State.nextTurn
  split
  · split
    · exact s.beginTurn_goesOn _ m
    · exact .refl s m
  · exact .refl s m

theorem State.LaneWork.nextTurn (s : State) (n : Lane) : s.LaneWork s.nextTurn n := by
  have hfaults : s.withFaultsOf s.nextTurn = s := by simp [State.withFaultsOf]
  exact .of_steady (hfaults.symm ▸ (s.nextTurn_goesOn n).beside.steady)
    (fun m _ => ⟨(s.nextTurn_goesOn m).detector, by simp, by simp⟩)
    (fun num _ => State.docket?_congr (by simp) num) fun q => by simp

end Sys2Proof.Machine
end

section
/-! SUPPORT. A miss delivered to its lane, and the end of a turn as a miss (R104 to R107, R133, R134, R155). -/
namespace Sys2Proof.Machine

variable {s b t u : State} {n : Lane} {x : Turn} {k : MissKind} {raw : PerChan Nat} {r : Sampled}

/-! ### The delivery, by the lane's state -/

theorem State.missDelivered_lost (hcount : (s.detectors.get n).state.counting = true)
    (hlimit : (s.settings.lanes.get n).holdLimit < (s.links.get n).missRun) :
    s.missDelivered n = s.leaveTo n .lost Detector.lost := by
  unfold State.missDelivered
  dsimp only
  split
  iterate 4 exact if_neg (Nat.not_le.mpr hlimit)
  all_goals simp_all [LaneState.counting]

theorem State.missDelivered_held (hcount : (s.detectors.get n).state.counting = true)
    (hlimit : (s.links.get n).missRun ≤ (s.settings.lanes.get n).holdLimit) :
    s.missDelivered n = s.countingSample n (s.detectors.get n).lastRaw := by
  unfold State.missDelivered
  dsimp only
  split
  iterate 4 exact if_pos hlimit
  all_goals simp_all [LaneState.counting]

theorem State.missDelivered_breaks (h : (s.detectors.get n).state = .lost) :
    s.missDelivered n = s.setDetector n { s.detectors.get n with freshRun := 0 } := by
  simp [State.missDelivered, h]

theorem State.missDelivered_trims (h : (s.detectors.get n).state = .tuning)
    (hack : (s.detectors.get n).tuneAck = true) : s.missDelivered n = s.raiseTuneCount n := by
  simp [State.missDelivered, h, hack]

theorem State.missDelivered_nothing (h : (s.detectors.get n).state = .off ∨
    (s.detectors.get n).state = .configuring ∨ (s.detectors.get n).state = .tuneFailed ∨
    (s.detectors.get n).state = .settling ∨
    ((s.detectors.get n).state = .tuning ∧ (s.detectors.get n).tuneAck = false)) :
    s.missDelivered n = s := by
  rcases h with h | h | h | h | ⟨h, hack⟩ <;> simp [State.missDelivered, *]

theorem State.Beside.raiseTuneCount (s : State) (n : Lane) : s.Beside (s.raiseTuneCount n) n := by
  unfold State.raiseTuneCount
  dsimp only
  split
  · exact (State.Beside.moveLane s n n (x := Detector.tuneFailed
      { s.detectors.get n with tuneCount := min 255 ((s.detectors.get n).tuneCount + 1) } ⟨.limit, .all false⟩)
      rfl).trans (.raise _ .lane .tuneError n)
  · exact .setDetector s n n rfl

/-- The tune count rises, and at 255 the tune fails (R133, R134). -/
theorem State.raiseTuneCount_detector (h : (s.detectors.get n).state = .tuning) :
    ((s.raiseTuneCount n).detectors.get n).tuneCount = min 255 ((s.detectors.get n).tuneCount + 1) ∧
    (((s.raiseTuneCount n).detectors.get n).state = .tuneFailed ↔ 254 ≤ (s.detectors.get n).tuneCount) := by
  unfold State.raiseTuneCount
  dsimp only
  split <;> simp [Detector.tuneFailed, h] <;> omega

/-- A miss delivered to a lane that does not count stays beside the dockets. -/
theorem State.missDelivered_beside (h : (s.detectors.get n).state.counting = false) :
    s.Beside (s.missDelivered n) n := by
  cases hst : (s.detectors.get n).state <;> rw [hst] at h
  case lost => rw [State.missDelivered_breaks hst]; exact .setDetector s n n rfl
  case tuning =>
    cases hack : (s.detectors.get n).tuneAck
    · rw [State.missDelivered_nothing (by simp [hst, hack])]; exact .refl s n
    · rw [State.missDelivered_trims hst hack]; exact .raiseTuneCount s n
  case idle | entering | present | gap => cases h
  all_goals rw [State.missDelivered_nothing (by simp [hst])]; exact .refl s n

theorem State.LaneWork.raiseTuneCount (s : State) (n : Lane) : s.LaneWork (s.raiseTuneCount n) n := by
  unfold State.raiseTuneCount
  dsimp only
  split
  · exact (State.LaneWork.moveLane s n _).trans (.raise _ .lane .tuneError n)
  · exact .setDetector s n _

theorem State.LaneWork.countingSample (s : State) (n : Lane) (raw : PerChan Nat) :
    s.LaneWork (s.countingSample n raw) n := by
  have hsampled : s.LaneWork (s.sampled n raw) n := by
    unfold State.sampled
    dsimp only
    split
    · exact (State.LaneWork.setDetector s n _).trans (.raise _ .lane .jam n)
    · exact .setDetector s n _
  rw [State.countingSample_eq]
  exact (hsampled.trans (.hear _ n _)).trans (.checkDrift _ n)

theorem State.LaneWork.missDelivered (s : State) (n : Lane) : s.LaneWork (s.missDelivered n) n := by
  unfold State.missDelivered
  dsimp only
  split
  iterate 4
    split
    · exact .countingSample s n _
    · exact .leaveTo s n _ _
  · exact .setDetector s n _
  · split
    · exact .raiseTuneCount s n
    · exact .refl s n
  all_goals exact .refl s n

theorem State.applyVerdict_miss (s : State) (x : Turn) (k : MissKind) :
    s.applyVerdict x (.miss k) = if x.stale then s else s.missDelivered x.lane := rfl

theorem State.LaneWork.missApplied (s : State) (x : Turn) (k : MissKind) :
    s.LaneWork (s.applyVerdict x (.miss k)) x.lane := by
  rw [State.applyVerdict_miss]
  split
  · exact .refl s _
  · exact .missDelivered s _

/-! ### What a sample processed leaves of the counts -/

theorem SameButTargets.counts {d e : Detector} (h : SameButTargets d e) :
    e.filtered = d.filtered ∧ e.lastRaw = d.lastRaw := by
  have hf := congrArg Detector.filtered h
  have hl := congrArg Detector.lastRaw h
  exact ⟨hf.symm, hl.symm⟩

theorem State.Processed.counts (h : s.Processed t n raw r) :
    (t.detectors.get n).filtered = r.detector.filtered ∧ (t.detectors.get n).lastRaw = r.detector.lastRaw := by
  by_cases hidle : r.detector.state = .idle
  · by_cases hdrift : Drifts (s.settings.lanes.get n) r.detector.baseline
    · by_cases ho : t.openDocket.get n = none
      · obtain ⟨hsame, -⟩ := h.retunes hidle hdrift ho
        have hk := hsame.counts
        exact hk
      · obtain ⟨hsame, -⟩ := h.defers hidle hdrift ho
        have hk := hsame.counts
        exact hk
    · have hk := (h.steady hidle hdrift).counts
      exact hk
  · have hk := (h.busy hidle).counts
    exact hk

/-! ### The end of a pass by a passage to LOST -/

theorem Cause.ends_lost : Cause.Ends .lost := ⟨nofun, nofun⟩

theorem Cause.ends_disable : Cause.Ends .disable := ⟨nofun, nofun⟩

/-- A lane that leaves its pass or entry and moves to another state (R107). -/
theorem State.leaveTo_detector (s : State) (n : Lane) (c : Cause) (f : Detector → Detector) :
    ∃ o, (s.leaveTo n c f).detectors.get n = f { s.detectors.get n with lastOutcome := o } ∧
    (raisesLaneState (s.detectors.get n).state (f { s.detectors.get n with lastOutcome := o }).state = true →
      (s.leaveTo n c f).Flagged .lane .laneState) := by
  obtain ⟨o, ho, -⟩ := s.endPass_detectors n c
  refine ⟨o, by simp [State.leaveTo, ho], fun hraises => ?_⟩
  unfold State.leaveTo State.moveLane
  dsimp only
  simp only [ho, PerLane.get_set, if_true]
  rw [if_pos hraises]
  exact State.raise_flagged _ .lane .laneState

theorem State.leaveTo_beside (s : State) (n : Lane) (c : Cause) {f : Detector → Detector}
    (hf : ∀ d, (f d).lastOutcome = d.lastOutcome) : (s.endPass n c).Beside (s.leaveTo n c f) n :=
  .moveLane _ n n (hf _)

end Sys2Proof.Machine
end

section
/-! SUPPORT. The end of a turn as a miss, as the statements read it (R104 to R107, R111, R154 to R156). -/
namespace Sys2Proof.Machine

variable {s b t u : State} {n : Lane} {x : Turn} {k : MissKind} {raw : PerChan Nat} {r : Sampled}

theorem raisesLaneState_of_counting {a b : LaneState} (ha : a.counting = true) (hb : b.counting = false) :
    raisesLaneState a b = true := by
  have hne : a ≠ b := fun h => by rw [h, hb] at ha; cases ha
  simp [raisesLaneState, hne, hb]

theorem raisesLaneState_off {a : LaneState} (ha : a ≠ .off) : raisesLaneState a .off = true := by
  simp [raisesLaneState, ha, LaneState.counting]

theorem State.LaneWork.hasEntry (h : s.LaneWork t n) {e : RecordId} (he : s.hasEntry e = true) :
    t.hasEntry e = true := by
  obtain ⟨-, -, -, -, -, -, -, -, -, -, ⟨-, hentries, -⟩, -⟩ := h.kept
  exact hentries e he

/-! ### A miss on a lane that stays -/

/-- The detector that a passage to LOST leaves (R105, R107). -/
theorem State.GoesOn.lost (hdet : b.detectors = s.detectors) (hcount : (s.detectors.get n).state.counting = true)
    (hon : (b.leaveTo n .lost Detector.lost).GoesOn t n) :
    (t.detectors.get n).state = .lost ∧ (t.detectors.get n).freshRun = 0 ∧
    (t.detectors.get n).pass = {} ∧ (t.detectors.get n).freeze = none ∧ (t.detectors.get n).jam = false ∧
    (t.detectors.get n).baseline = (s.detectors.get n).baseline ∧ t.Flagged .lane .laneState := by
  obtain ⟨o, ho, hflag⟩ := b.leaveTo_detector n .lost Detector.lost
  have hsame := hon.detector
  rw [ho, hdet] at hsame
  simp only [SameButTargets, Detector.lost, Detector.dropPass, Detector.mk.injEq] at hsame
  obtain ⟨hstate, -, -, hpass, hjam, hrun, -, hbase, hfreeze, -⟩ := hsame
  refine ⟨hstate.symm, hrun.symm, hpass.symm, hfreeze.symm, hjam.symm, hbase.symm, ?_⟩
  refine hon.beside.steady.flags _ _ (hflag ?_)
  rw [hdet]
  exact raisesLaneState_of_counting hcount rfl

/-- A miss has ended the turn of a lane that stays. -/
theorem State.missed_of (hs : s.Fits) (hc : s.MissCounted b x k) (hdet : b.detectors = s.detectors)
    (hon : (b.applyVerdict x (.miss k)).GoesOn t x.lane) (hlinks : t.links = b.links)
    (hfaults : SameFaults b t) (hfrom : b.LaneWork t x.lane) (hwork : s.LaneWork t x.lane)
    (hnext : s.TurnFollows t) : s.Missed t x k := by
  have hset : b.settings = s.settings := by
    obtain ⟨-, -, -, -, -, -, -, -, hset⟩ := hc.before.steady.kept
    exact hset
  obtain ⟨hsilent, hmiss, hseq⟩ := hc.runs
  have hrise := hs.risingAccounts
  rw [State.applyVerdict_miss] at hon
  have hpass {c : Cause} {f : Detector → Detector} (hf : ∀ d, (f d).lastOutcome = d.lastOutcome)
      (hends : c.Ends) (hto : (b.leaveTo x.lane c f).Beside t x.lane) : s.PassEnded t x.lane c :=
    hs.ledger.passEnded hrise hc.before (by rw [hdet]) (by rw [hdet]) hends
      ((b.leaveTo_beside x.lane c hf).trans hto)
  refine ⟨?_, ?_, fun hopen hlimit => ?opens, fun h => ?stays, fun hst hcount hlimit => ?lost,
    fun hst hcount hlimit => ?held, fun hst hlost => ?breaks, fun hst htune hack => ?tuning,
    fun h => ?nothing, fun h => ?idle, hnext, hwork.kept⟩
  · rw [hlinks]; exact hc.stats
  · rw [hlinks]; exact hc.runs
  case opens =>
    obtain ⟨ho, hf, hentry, hflag⟩ := hc.opens hopen hlimit
    exact ⟨by rw [hlinks]; exact ho, hfaults.1.trans hf, hfrom.hasEntry hentry, hfrom.flags _ _ hflag⟩
  case stays =>
    obtain ⟨ho, hf⟩ := hc.stays h
    exact ⟨by rw [hlinks]; exact ho, hfaults.1.trans hf.1, hfaults.2.trans hf.2⟩
  case lost =>
    rw [if_neg (by simp [hst]), State.missDelivered_lost (by rwa [hdet]) (by rwa [hset, hmiss])] at hon
    obtain ⟨h1, h2, h3, h4, h5, h6, h7⟩ := State.GoesOn.lost hdet hcount hon
    exact ⟨h1, h2, h3, h4, h5, h6, h7, hpass (f := Detector.lost) (fun _ => rfl) Cause.ends_lost hon.beside⟩
  case held =>
    rw [if_neg (by simp [hst]), State.missDelivered_held (by rwa [hdet]) (by rwa [hset, hmiss]), hdet] at hon
    have hp := hs.ledger.processed hrise hc.before (raw := (s.detectors.get x.lane).lastRaw) (by rw [hdet])
      hcount hon
    have hafter := detect_after (s.settings.lanes.get x.lane) hcount (s.detectors.get x.lane).lastRaw
    obtain ⟨hfilt, hraw⟩ := hp.counts
    exact ⟨hfilt.trans hafter.filtered, hraw.trans hafter.lastRaw, _, hp⟩
  case breaks =>
    rw [if_neg (by simp [hst]), State.missDelivered_breaks (by rwa [hdet])] at hon
    have hsame := hon.detector
    rwa [State.setDetector_detectors, PerLane.get_set, if_pos rfl, hdet] at hsame
  case tuning =>
    rw [if_neg (by simp [hst]), State.missDelivered_trims (by rwa [hdet]) (by rwa [hdet])] at hon
    obtain ⟨hcount, hstate⟩ := State.raiseTuneCount_detector (s := b) (n := x.lane) (by rwa [hdet])
    have hsame := hon.detector
    have hk := congrArg Detector.tuneCount hsame
    have hst' := congrArg Detector.state hsame
    rw [hdet] at hcount hstate
    exact ⟨hk.symm.trans hcount, by rw [← hstate]; exact ⟨fun h => hst'.trans h, fun h => hst'.symm.trans h⟩⟩
  case nothing =>
    have hsame := hon.detector
    have hthere : (if x.stale then b else b.missDelivered x.lane) = b := by
      rcases h with h | h
      · exact if_pos h
      · rw [State.missDelivered_nothing (by rw [hdet]; exact .inr h), ite_self]
    rwa [hthere, hdet] at hsame
  case idle =>
    refine State.Beside.nothingBooked hc.before (State.Beside.trans ?_ hon.beside)
    split
    · exact .refl b _
    · refine State.missDelivered_beside ?_
      rw [hdet]
      exact h.resolve_left ‹_›

end Sys2Proof.Machine
end

section
/-! SUPPORT. The end of a turn as a miss that takes its lane to OFF (R110, R111), and the events that end a
turn as a miss (R143, R144, R150). -/
namespace Sys2Proof.Machine

variable {s b t u : State} {n : Lane} {x : Turn} {k : MissKind} {raw : PerChan Nat} {r : Sampled}

/-! ### Where the delivery leaves the lane -/

/-- A sample processed leaves the lane where stage 4 put it, but for a retune of an idle lane (R138). -/
theorem State.countingSample_state (s : State) (n : Lane) (raw : PerChan Nat)
    (hr : r = detect (s.settings.lanes.get n) (s.detectors.get n) raw) :
    (((s.countingSample n raw).detectors.get n).state = r.detector.state ∧
      ((s.countingSample n raw).detectors.get n).pass = r.detector.pass) ∨
    (r.detector.state = .idle ∧ ((s.countingSample n raw).detectors.get n).state = .tuning) := by
  rw [State.countingSample_eq, ← hr]
  obtain ⟨o, ho⟩ := (s.sampled n raw).hear_detectors n r.event
  rw [s.sampled_detectors n raw, ← hr] at ho
  generalize (s.sampled n raw).hear n r.event = z at *
  have hz : z.detectors.get n = { r.detector with lastOutcome := o } := by simp [ho]
  obtain ⟨hbusy, hsteady, hretunes, hdefers⟩ := z.checkDrift_detector n
  rw [hz] at hbusy hsteady hretunes hdefers
  by_cases hidle : r.detector.state = .idle
  · by_cases hdrift : Drifts (z.settings.lanes.get n) r.detector.baseline
    · by_cases hopen : z.openDocket.get n = none
      · obtain ⟨hdet, -⟩ := hretunes hidle hdrift hopen
        exact .inr ⟨hidle, by simp [hdet, Detector.tuning]⟩
      · obtain ⟨hdet, -⟩ := hdefers hidle hdrift hopen
        exact .inl (by simp [hdet])
    · exact .inl (by simp [hsteady hidle hdrift])
  · exact .inl (by simp [hbusy hidle, hz])

/-- A miss leaves a lane that does not count where it was, but for a tune that fails (R134). -/
theorem State.missDelivered_idle (h : (s.detectors.get n).state.counting = false) :
    ((s.missDelivered n).detectors.get n).state = (s.detectors.get n).state ∨
    ((s.missDelivered n).detectors.get n).state = .tuneFailed := by
  cases hst : (s.detectors.get n).state <;> rw [hst] at h
  case lost => exact .inl (by simp [State.missDelivered_breaks hst, hst])
  case tuning =>
    cases hack : (s.detectors.get n).tuneAck
    · exact .inl (by rw [State.missDelivered_nothing (by simp [hst, hack]), hst])
    · rw [State.missDelivered_trims hst hack]
      unfold State.raiseTuneCount
      dsimp only
      split
      · exact .inr (by simp [Detector.tuneFailed])
      · exact .inl (by simp [hst])
  case idle | entering | present | gap => cases h
  all_goals exact .inl (by rw [State.missDelivered_nothing (by simp [hst]), hst])

theorem LaneState.counting_ne_off {a : LaneState} (h : a.counting = true) : a ≠ .off := by
  rintro rfl
  cases h

/-- No miss takes a lane to OFF. -/
theorem State.missDelivered_ne_off (h : (s.detectors.get n).state ≠ .off) :
    ((s.missDelivered n).detectors.get n).state ≠ .off := by
  by_cases hcount : (s.detectors.get n).state.counting = true
  · by_cases hlimit : (s.links.get n).missRun ≤ (s.settings.lanes.get n).holdLimit
    · rw [State.missDelivered_held hcount hlimit]
      rcases State.countingSample_state s n (s.detectors.get n).lastRaw rfl with ⟨hst, -⟩ | ⟨-, hst⟩ <;>
        rw [hst]
      · exact LaneState.counting_ne_off (detect_after _ hcount _).counting
      · decide
    · rw [State.missDelivered_lost hcount (Nat.not_le.mp hlimit)]
      obtain ⟨o, ho, -⟩ := s.leaveTo_detector n .lost Detector.lost
      rw [ho]
      exact nofun
  · rcases State.missDelivered_idle (Bool.not_eq_true _ ▸ hcount) with hst | hst <;> rw [hst]
    · exact h
    · decide

/-! ### The lane goes to OFF -/

theorem State.laneOff_beside (s : State) (n : Lane) : (s.endPass n .disable).Beside (s.laneOff n) n :=
  (s.leaveTo_beside n .disable (f := Detector.off) fun _ => rfl).trans (.setLink _ n n _)

/-- A lane without an open docket goes to OFF from a state other than PRESENT: no outcome, no closing. -/
theorem State.laneOff_plain (hnone : s.laneDocket n = none) (h : (s.detectors.get n).state ≠ .present) :
    s.Beside (s.laneOff n) n := by
  have hbeside := s.laneOff_beside n
  rwa [State.endPass_nothing h fun _ d hd => by rw [hnone] at hd; cases hd] at hbeside

theorem State.hear_plain (hnone : s.laneDocket n = none) {e : SampleEvent} (he : ∀ c q, e ≠ .resolved c q) :
    s.hear n e = s := by
  cases e with
  | nothing => rfl
  | resolved c q => exact absurd rfl (he c q)
  | discarded => exact State.waitOver_nothing fun d hd => by rw [hnone] at hd; cases hd

/-- The detector and the link of a lane that went to OFF (R110, R152, R154, R157). -/
theorem State.laneOff_lane (h : (s.detectors.get n).state ≠ .off) (hon : (s.laneOff n).GoesOn t n)
    (hlinks : t.links = (s.laneOff n).links) :
    ((t.detectors.get n).state = .off ∧ (t.detectors.get n).pass = {} ∧ (t.detectors.get n).jam = false ∧
      (t.detectors.get n).freeze = none ∧ (t.detectors.get n).freshRun = 0 ∧
      (t.detectors.get n).settleCount = 0 ∧ (t.detectors.get n).driftMark = false ∧
      t.Flagged .lane .laneState) ∧
    ((t.links.get n).missRun = 0 ∧ (t.links.get n).silentRun = 0 ∧ (t.links.get n).silentOpen = false ∧
      (t.links.get n).lastSeq = none) ∧
    (t.links.get n).stats = (s.links.get n).stats ∧
    (t.detectors.get n).filtered = (s.detectors.get n).filtered := by
  obtain ⟨o, ho, hflag⟩ := s.leaveTo_detector n .disable Detector.off
  have hraised : (s.laneOff n).Flagged .lane .laneState := hflag (raisesLaneState_off h)
  have hsame : SameButTargets ((s.leaveTo n .disable Detector.off).detectors.get n) (t.detectors.get n) :=
    hon.detector
  rw [ho] at hsame
  simp only [SameButTargets, Detector.off, Detector.dropPass, Detector.mk.injEq] at hsame
  obtain ⟨hstate, hfilt, -, hpass, hjam, hrun, -, -, hfreeze, hsettle, -, -, -, -, hmark⟩ := hsame
  rw [hlinks]
  refine ⟨⟨hstate.symm, hpass.symm, hjam.symm, hfreeze.symm, hrun.symm, hsettle.symm, hmark.symm,
    hon.beside.steady.flags _ _ hraised⟩, ?_, ?_, hfilt.symm⟩
  · simp [State.laneOff]
  · simp [State.laneOff]

/-- A sample processed on a lane without an open docket that then goes to OFF (R107, R111): what it brought
went to stray, and a pass that it left in progress after it. -/
theorem State.Ledger.sampledOff (h : s.Ledger) (hrise : Table.Rising s.accounts) (hpre : s.Before b n)
    (hdet : b.detectors.get n = { s.detectors.get n with lastRaw := raw })
    (hcount : (s.detectors.get n).state.counting = true) (hopen : s.openDocket.get n = none)
    (hpost : ((b.countingSample n raw).laneOff n).Beside t n)
    (hr : r = detect (s.settings.lanes.get n) { s.detectors.get n with lastRaw := raw } raw) :
    (r.jam = true → t.Flagged .lane .jam) ∧
    (∀ c q, r.event = .resolved c q → r.detector.state ≠ .present ∧
      s.Resolved t n q (classMatch s.settings.classes.toList q.peakInd q.peakCap) c) ∧
    ((∀ c q, r.event ≠ .resolved c q) → r.detector.state = .present →
      s.Resolved t n r.detector.pass .unresolved .disable) ∧
    ((∀ c q, r.event ≠ .resolved c q) → r.detector.state ≠ .present → s.NothingBooked t n) := by
  have hset : b.settings = s.settings := by
    obtain ⟨-, -, -, -, -, -, -, -, hset⟩ := hpre.steady.kept
    exact hset
  have hcount' : (b.detectors.get n).state.counting = true := by rw [hdet]; exact hcount
  have hr' : r = detect (b.settings.lanes.get n) (b.detectors.get n) raw := by rw [hset, hdet]; exact hr
  have hafter := hr' ▸ detect_after (b.settings.lanes.get n) hcount' raw
  have hjam := (h.processed hrise hpre hdet hcount (.refl _ n)).jam
  have hstate := b.countingSample_state n raw hr'
  have hsampled := State.sampled_beside hcount' raw
  have hwork := State.LaneWork.laneOff (b.countingSample n raw) n
  have hdocket (y : State) (hy : y.openDocket.get n = none) : y.laneDocket n = none := by
    rw [State.laneDocket, hy]; rfl
  have hb : b.openDocket.get n = none := by rw [hpre.steady.lanes.1]; exact hopen
  have hw : (b.countingSample n raw).laneDocket n = none := by
    refine hdocket _ ?_
    rcases (State.LaneWork.countingSample b n raw).docket with ho | ho
    · exact ho.trans hb
    · exact ho
  have hplain := State.laneOff_plain (n := n) hw
  have hend := (b.countingSample n raw).laneOff_beside n
  have heq : b.countingSample n raw = ((b.sampled n raw).hear n r.event).checkDrift n := by
    rw [State.countingSample_eq, ← hr']
  have hdrift := heq ▸ State.Beside.checkDrift ((b.sampled n raw).hear n r.event) n
  have hquiet : (∀ c q, r.event ≠ .resolved c q) → s.Before (b.countingSample n raw) n := fun hev => by
    rw [State.hear_plain (hdocket _ (by rw [hsampled.steady.lanes.1]; exact hb)) hev] at hdrift
    exact hpre.trans (hsampled.trans hdrift)
  have hnot : r.detector.state ≠ .present → ((b.countingSample n raw).detectors.get n).state ≠ .present := by
    intro hne
    rcases hstate with ⟨hst, -⟩ | ⟨-, hst⟩ <;> rw [hst]
    · exact hne
    · decide
  refine ⟨fun hj => ?_, fun c q he => ?_, fun hev hp => ?_, fun hev hne => ?_⟩
  · exact hpost.steady.flags _ _ (hwork.flags _ _ (hjam (hr ▸ hj)))
  · obtain ⟨hcause, hne, -⟩ := hafter.resolved c q he
    have hheard := h.heard hrise (hpre.trans hsampled) (fun c q he => (hafter.resolved c q he).1)
      (hdrift.trans ((hplain (hnot hne)).trans hpost))
    obtain ⟨-, -, hresolved⟩ := hheard
    exact ⟨hne, hresolved c q he⟩
  · have hst : ((b.countingSample n raw).detectors.get n).state = .present ∧
        ((b.countingSample n raw).detectors.get n).pass = r.detector.pass := by
      rcases hstate with ⟨hst, hpass⟩ | ⟨hidle, -⟩
      · exact ⟨hst.trans hp, hpass⟩
      · rw [hp] at hidle; cases hidle
    have hbooked : (b.countingSample n raw).endPass n .disable =
        (b.countingSample n raw).resolve n .disable r.detector.pass := by
      simp [State.endPass, hst]
    rw [hbooked] at hend
    have hres := h.resolved hrise (hquiet hev) (hend.trans hpost)
    rwa [State.outcomeOf_ends Cause.ends_disable] at hres
  · exact State.Beside.nothingBooked (hquiet hev) ((hplain (hnot hne)).trans hpost)

/-- A miss has ended the turn of a lane without an open docket, whose enable went off during it. -/
theorem State.turnedOff_of (hs : s.Fits) (hc : s.MissCounted b x k) (hdet : b.detectors = s.detectors)
    (hoff : (s.detectors.get x.lane).state ≠ .off) (hopen : s.openDocket.get x.lane = none)
    (hon : ((b.applyVerdict x (.miss k)).laneOff x.lane).GoesOn t x.lane)
    (hlinks : t.links = ((b.applyVerdict x (.miss k)).laneOff x.lane).links) (hfaults : SameFaults b t)
    (hfrom : b.LaneWork t x.lane) (hwork : s.LaneWork t x.lane) (hnext : s.TurnFollowsOff t) :
    s.TurnedOff t x (.miss k) := by
  have hset : b.settings = s.settings := by
    obtain ⟨-, -, -, -, -, -, -, -, hset⟩ := hc.before.steady.kept
    exact hset
  obtain ⟨-, hmiss, -⟩ := hc.runs
  have hrise := hs.risingAccounts
  have hnone (u : State) (hu : u.openDocket.get x.lane = none) : u.laneDocket x.lane = none := by
    rw [State.laneDocket, hu]; rfl
  have hopen' : b.openDocket.get x.lane = none := by
    rw [hc.before.steady.lanes.1]; exact hopen
  have hopenu : (b.applyVerdict x (.miss k)).openDocket.get x.lane = none := by
    rcases (State.LaneWork.missApplied b x k).docket with h | h
    · exact h.trans hopen'
    · exact h
  have hstate : ((b.applyVerdict x (.miss k)).detectors.get x.lane).state ≠ .off := by
    rw [State.applyVerdict_miss]
    split
    · rwa [hdet]
    · exact State.missDelivered_ne_off (by rwa [hdet])
  have hstats : (b.applyVerdict x (.miss k)).links = b.links := by
    rw [State.applyVerdict_miss]
    split <;> simp
  obtain ⟨hlane, hlink, hkept, hfilt⟩ := State.laneOff_lane hstate hon hlinks
  refine ⟨hlane, hlink, fun j hj => ?missed, nofun, fun hplain => ?plain, fun _ hst hcount hlimit => ?lost,
    fun ⟨_, _, h⟩ => (nomatch h), fun raw hraw hst hcount => ?sampled, hnext, hwork.kept⟩
  case missed =>
    cases hj
    refine ⟨by rw [hkept, hstats]; exact hc.stats, fun hopen hlimit => ?_, fun h => ?_⟩
    · obtain ⟨-, hf, hentry, hflag⟩ := hc.opens hopen hlimit
      exact ⟨hfaults.1.trans hf, hfrom.hasEntry hentry, hfrom.flags _ _ hflag⟩
    · obtain ⟨-, hf⟩ := hc.stays h
      exact ⟨hfaults.1.trans hf.1, hfaults.2.trans hf.2⟩
  case plain =>
    have hstale : x.stale = true ∨ (s.detectors.get x.lane).state.counting = false := by
      rcases hplain with ⟨_, -, h⟩ | ⟨_, _, _, h, -⟩
      · exact h
      · cases h
    by_cases hst : x.stale = true
    · rw [State.applyVerdict_miss, if_pos hst] at hon
      exact hs.ledger.passEnded hrise hc.before (by rw [hdet]) (by rw [hdet]) Cause.ends_disable
        ((State.laneOff_beside b x.lane).trans hon.beside)
    · have hcount := hstale.resolve_left hst
      rw [State.applyVerdict_miss, if_neg hst] at hon hopenu
      have hquiet := State.missDelivered_beside (s := b) (n := x.lane) (by rwa [hdet])
      have hne : ((b.missDelivered x.lane).detectors.get x.lane).state ≠ .present := by
        rcases State.missDelivered_idle (s := b) (n := x.lane) (by rwa [hdet]) with h | h <;> rw [h]
        · rw [hdet]
          intro hp
          rw [hp] at hcount
          cases hcount
        · decide
      have hnothing := State.Beside.nothingBooked hc.before
        (hquiet.trans ((State.laneOff_plain (hnone _ hopenu) hne).trans hon.beside))
      refine ⟨fun hp => ?_, fun he => ?_, fun _ _ => hnothing⟩
      · rw [hp] at hcount; cases hcount
      · rw [he] at hcount; cases hcount
  case lost =>
    rw [State.applyVerdict_miss, if_neg (by simp [hst]),
      State.missDelivered_lost (by rwa [hdet]) (by rwa [hset, hmiss])] at hon hopenu
    obtain ⟨o, ho, -⟩ := b.leaveTo_detector x.lane .lost Detector.lost
    have hoff := State.laneOff_plain (hnone _ hopenu) (by rw [ho]; exact nofun)
    exact hs.ledger.passEnded hrise hc.before (by rw [hdet]) (by rw [hdet]) Cause.ends_lost
      (((b.leaveTo_beside x.lane .lost (f := Detector.lost) fun _ => rfl).trans hoff).trans hon.beside)
  case sampled =>
    obtain ⟨rfl, hlimit⟩ : raw = (s.detectors.get x.lane).lastRaw ∧
        min 255 ((s.links.get x.lane).missRun + 1) ≤ (s.settings.lanes.get x.lane).holdLimit := by
      rcases hraw with ⟨-, h⟩ | ⟨_, h, -⟩
      · exact h
      · cases h
    rw [State.applyVerdict_miss, if_neg (by simp [hst]),
      State.missDelivered_held (by rwa [hdet]) (by rwa [hset, hmiss]), hdet] at hon hfilt
    obtain ⟨hfilt', -⟩ := (hs.ledger.processed hrise hc.before (raw := (s.detectors.get x.lane).lastRaw)
      (by rw [hdet]) hcount (.refl _ x.lane)).counts
    obtain ⟨hjam, hresolved, hpassed, hnothing⟩ := hs.ledger.sampledOff hrise hc.before
      (raw := (s.detectors.get x.lane).lastRaw) (by rw [hdet]) hcount hopen hon.beside rfl
    exact ⟨_, rfl, hfilt.trans hfilt', hjam, hresolved, hpassed, hnothing⟩

end Sys2Proof.Machine
end

section
/-! SUPPORT. The events that end a turn as a miss (R143, R144, R150, R155). -/
namespace Sys2Proof.Machine

variable {s u : State} {x : Turn} {k : MissKind}

theorem State.NextInRotation.congr {m : Lane} (h : u.NextInRotation m) (hset : u.settings = s.settings)
    (hrot : u.rotation = s.rotation) : s.NextInRotation m := by
  simp only [State.NextInRotation, State.Above, State.enabled, hset, hrot] at h ⊢
  exact h

/-- The turn that follows in a state which keeps the mode, the settings and the rotation (R147, R160). -/
theorem State.nextTurn_followsOff (hmode : u.mode = s.mode) (hset : u.settings = s.settings)
    (hrot : u.rotation = s.rotation) (hturn : u.turn = none) :
    s.TurnFollowsOff (State.conclude s u.nextTurn) := by
  obtain ⟨hbegins, hidles⟩ := u.nextTurn_follows
  have henabled (m : Lane) : u.enabled m = s.enabled m := by simp only [State.enabled, hset]
  simp only [hmode, henabled] at hbegins hidles
  refine ⟨fun hrun hany => ?_, fun hnone => ?_⟩
  · obtain ⟨y, hy, hbegun, hnext⟩ := hbegins hrun hany
    exact ⟨y, by simpa using hy, hbegun.congr (by simp) (by simp) (by simp), hnext.congr hset hrot⟩
  · rw [hidles hnone]
    exact ⟨by simpa using hturn, by simpa using hrot⟩

theorem State.TurnFollowsOff.follows {t : State} (h : s.TurnFollowsOff t) {n : Lane}
    (hstays : s.StaysAtTurnEnd n) : s.TurnFollows t := by
  obtain ⟨hbegins, hidles⟩ := h
  refine ⟨fun hrun => hbegins hrun ?_, fun hrun => (hidles (.inl hrun)).1⟩
  rcases hstays with hen | ⟨-, hne⟩
  · exact ⟨n, hen⟩
  · exact absurd hrun hne

theorem State.endTurn_eq (s : State) (x : Turn) (v : Verdict) : s.endTurn x v =
    (((s.counted x v).applyVerdict x v).applyDeferredOff x.lane).nextTurn := rfl

theorem State.counted_frame (s : State) (x : Turn) (v : Verdict) :
    (s.counted x v).mode = s.mode ∧ (s.counted x v).settings = s.settings ∧
    (s.counted x v).rotation = s.rotation ∧ (s.counted x v).turn = none ∧
    (s.counted x v).detectors = s.detectors ∧ (s.counted x v).strays = s.strays := by
  simp [State.counted]

/-- No deferred off takes a lane that stays (R111, log entry 6). -/
theorem State.stays_off (hstays : s.StaysAtTurnEnd x.lane) :
    ((s.counted x (.miss k)).applyVerdict x (.miss k)).applyDeferredOff x.lane =
      (s.counted x (.miss k)).applyVerdict x (.miss k) := by
  obtain ⟨-, hset, -, -, hdet, -⟩ := s.counted_frame x (.miss k)
  refine if_neg ?_
  rcases hstays with hen | ⟨hoff, -⟩
  · simp [State.enabled, hset] at hen ⊢
    simp [hen]
  · have hnothing : (s.counted x (.miss k)).applyVerdict x (.miss k) = s.counted x (.miss k) := by
      rw [State.applyVerdict_miss, State.missDelivered_nothing (.inl (by rw [hdet]; exact hoff)), ite_self]
    simp [hnothing, hdet, hoff]

/-- The end of a turn as a miss, of a lane that stays. -/
theorem State.Fits.missed (hs : s.Fits) (hstays : s.StaysAtTurnEnd x.lane) (k : MissKind) :
    s.Missed (State.conclude s (s.endTurn x (.miss k))) x k := by
  obtain ⟨hmode, hset, hrot, hturn, hdet, hstrays⟩ := s.counted_frame x (.miss k)
  have hc := s.counted_miss x k
  have hfollows := (State.nextTurn_followsOff (s := s)
    (u := (s.counted x (.miss k)).applyVerdict x (.miss k)) (by simpa) (by simpa) (by simpa) (by simpa)).follows
    hstays
  rw [State.endTurn_eq, State.stays_off hstays]
  generalize s.counted x (.miss k) = b at *
  have hfrom := ((State.LaneWork.missApplied b x k).trans (.nextTurn _ x.lane)).trans
    (.conclude s _ x.lane)
  have hlinks : (b.applyVerdict x (.miss k)).links = b.links := by
    rw [State.applyVerdict_miss]
    split <;> simp
  exact State.missed_of hs hc hdet ((State.nextTurn_goesOn _ x.lane).trans (.conclude s _ x.lane))
    (by simp [hlinks]) (by simp [SameFaults]) hfrom ((hc.work hdet hstrays).trans hfrom) hfollows

/-- The end of a turn as a miss, of a lane that goes to OFF. -/
theorem State.Fits.missedOff (hs : s.Fits) (hoff : s.EndsInOff x.lane) (k : MissKind) :
    s.TurnedOff (State.conclude s (s.endTurn x (.miss k))) x (.miss k) := by
  obtain ⟨hen, hstate, hopen⟩ := hoff
  obtain ⟨hmode, hset, hrot, hturn, hdet, hstrays⟩ := s.counted_frame x (.miss k)
  have hc := s.counted_miss x k
  rw [State.endTurn_eq]
  generalize s.counted x (.miss k) = b at *
  have hne : ((b.applyVerdict x (.miss k)).detectors.get x.lane).state ≠ .off := by
    rw [State.applyVerdict_miss]
    split
    · rwa [hdet]
    · exact State.missDelivered_ne_off (by rwa [hdet])
  have hgoes : (b.applyVerdict x (.miss k)).applyDeferredOff x.lane =
      (b.applyVerdict x (.miss k)).laneOff x.lane := by
    refine if_pos ?_
    simp only [State.enabled] at hen
    simp [State.enabled, hset, hen, hne]
  rw [hgoes]
  have hfollows := State.nextTurn_followsOff (s := s)
    (u := (b.applyVerdict x (.miss k)).laneOff x.lane) (by simpa) (by simpa) (by simpa) (by simpa)
  have hfrom := (((State.LaneWork.missApplied b x k).trans (.laneOff _ x.lane)).trans (.nextTurn _ x.lane)).trans
    (.conclude s _ x.lane)
  exact State.turnedOff_of hs hc hdet hstate hopen
    ((State.nextTurn_goesOn _ x.lane).trans (.conclude s _ x.lane)) (by simp) (by simp [SameFaults]) hfrom
    ((hc.work hdet hstrays).trans hfrom) hfollows

end Sys2Proof.Machine

namespace Sys2Proof.Proofs
open Sys2Proof.Machine

/-- Settles O53: each event ends the turn that stands where it can, by the end of a turn as a miss. -/
theorem missesEndTurns : Obligations.MissesEndTurns := by
  intro s x hs hx
  have hends (e : TurnEnd) (k : MissKind) (hv : s.verdictOf e = some (x, .miss k)) :
      Host.Outcome.next (s.turnEnds e) =
        (.next (State.conclude s (s.endTurn x (.miss k))) : Host.Outcome State Fault Refusal) := by
    rw [State.turnEnds, hv]
  have hstuck (hp : x.phase = .watching) := hends .lineStuck .lineStuck (by simp [State.verdictOf, hx, hp])
  have hecho (hp : x.phase = .calling) := hends .echo .echo (by simp [State.verdictOf, hx, hp])
  have hnone (hp : x.phase = .listening) := hends .noAnswer .noAnswer (by simp [State.verdictOf, hx, hp])
  have hlate (hp : x.phase = .listening) :=
    hends .answerTimeout .answerTimeout (by simp [State.verdictOf, hx, hp])
  exact ⟨fun hstays => ⟨fun hp => ⟨_, hstuck hp, hs.missed hstays _⟩,
      fun hp => ⟨_, hecho hp, hs.missed hstays _⟩,
      fun hp => ⟨_, hnone hp, hs.missed hstays _⟩, fun hp => ⟨_, hlate hp, hs.missed hstays _⟩⟩,
    fun hoff => ⟨fun hp => ⟨_, hstuck hp, hs.missedOff hoff _⟩,
      fun hp => ⟨_, hecho hp, hs.missedOff hoff _⟩,
      fun hp => ⟨⟨_, hnone hp, hs.missedOff hoff _⟩, ⟨_, hlate hp, hs.missedOff hoff _⟩⟩⟩⟩

end Sys2Proof.Proofs
end

section
/-! SUPPORT. The order queue and the docket counter that the end of the scan makes (R4, R191). -/
namespace Sys2Proof.Machine

variable {s : State} {num : Nat} {d e : Docket}

/-! ### The restored order queue (R191) -/

theorem Docket.before_iff (a b : Docket) : a.before b = true ↔ a.closedAt.getD 0 < b.closedAt.getD 0 ∨
    (a.closedAt.getD 0 = b.closedAt.getD 0 ∧ a.number ≤ b.number) := by
  simp [Docket.before]

theorem Docket.before_total : Std.Total fun a b : Docket => a.before b = true :=
  ⟨fun a b => by simp only [Docket.before_iff]; omega⟩

theorem Docket.before_trans : IsTrans Docket fun a b => a.before b = true :=
  ⟨fun a b c => by simp only [Docket.before_iff]; omega⟩

theorem insertDocket_eq (a : Docket) (l : List Docket) :
    insertDocket a l = l.orderedInsert (fun a b => a.before b = true) a := by
  induction l with
  | nil => rfl
  | cons b rest ih => simp only [insertDocket, List.orderedInsert_cons, ih]

/-- The restored orders that are READY, in the order of the queue. -/
def State.restoredReady (s : State) : List Docket :=
  (s.dockets.filter fun d => d.order.any fun o => o.state = .ready).insertionSort fun a b => a.before b = true

theorem State.restoredQueue_eq (s : State) : s.restoredQueue = s.restoredReady.map (·.number) := by
  unfold State.restoredQueue State.restoredReady List.insertionSort
  congr 2
  funext a l
  exact insertDocket_eq a l

theorem State.mem_restoredReady : d ∈ s.restoredReady ↔
    d ∈ s.dockets ∧ d.order.map (·.state) = some .ready := by
  rw [State.restoredReady, List.mem_insertionSort, List.mem_filter]
  cases d.order <;> simp

theorem State.mem_restoredQueue (h : (s.dockets.map (·.number)).Nodup) (num : Nat) :
    num ∈ s.restoredQueue ↔ s.orderState? num = some .ready := by
  simp only [s.restoredQueue_eq, List.mem_map, State.mem_restoredReady, State.orderState?, State.order?]
  constructor
  · rintro ⟨d, ⟨hd, hst⟩, rfl⟩
    rw [State.docket?_of_mem h hd]
    exact hst
  · intro hst
    cases hd : s.docket? num with
    | none => rw [hd] at hst; cases hst
    | some d =>
      rw [hd] at hst
      exact ⟨d, ⟨State.docket?_mem hd, hst⟩, State.docket?_number hd⟩

/-- The queue rises by closed-at time, then by number (R191). -/
theorem State.restoredQueue_rises (h : (s.dockets.map (·.number)).Nodup) :
    s.restoredQueue.Pairwise fun a b => ∀ x y, s.docket? a = some x → s.docket? b = some y →
      x.closedAt.getD 0 < y.closedAt.getD 0 ∨ (x.closedAt.getD 0 = y.closedAt.getD 0 ∧ a ≤ b) := by
  have := Docket.before_total
  have := Docket.before_trans
  rw [s.restoredQueue_eq, List.pairwise_map]
  refine List.Pairwise.imp_of_mem ?_
    (List.pairwise_insertionSort (fun a b : Docket => a.before b = true) _)
  intro a b ha hb hbefore x y hx hy
  obtain ⟨ha, -⟩ := State.mem_restoredReady.mp ha
  obtain ⟨hb, -⟩ := State.mem_restoredReady.mp hb
  obtain rfl := Option.some.inj ((State.docket?_of_mem h ha).symm.trans hx)
  obtain rfl := Option.some.inj ((State.docket?_of_mem h hb).symm.trans hy)
  exact (Docket.before_iff a b).mp hbefore

/-! ### The docket counter (R4) -/

theorem foldl_max_le_iff (l : List Nat) (a m : Nat) : l.foldl max a ≤ m ↔ ∀ x ∈ a :: l, x ≤ m := by
  induction l generalizing a with
  | nil => simp
  | cons b rest ih => simp [ih, and_assoc]

theorem State.restoredCounter_empty (h : s.dockets = []) : s.restoredCounter = 1 := by
  simp [State.restoredCounter, h]

theorem State.restoredCounter_eq (hd : d ∈ s.dockets) (h : ∀ e ∈ s.dockets, e.number ≤ d.number) :
    s.restoredCounter = if 65535 ≤ d.number then 1 else d.number + 1 := by
  have hmem : d.number ∈ s.dockets.map (·.number) := List.mem_map_of_mem hd
  have hle : ∀ x ∈ s.dockets.map (·.number), x ≤ d.number := by
    simp only [List.mem_map, forall_exists_index, and_imp]
    rintro x e he rfl
    exact h e he
  unfold State.restoredCounter
  cases hl : s.dockets.map (·.number) with
  | nil => rw [hl] at hmem; cases hmem
  | cons a rest =>
    rw [hl] at hmem hle
    have hmax : rest.foldl max a = d.number :=
      Nat.le_antisymm ((foldl_max_le_iff rest a _).mpr hle) ((foldl_max_le_iff rest a _).mp le_rfl _ hmem)
    simp only [hmax, numberAfter]

end Sys2Proof.Machine
end

section
/-! SUPPORT. The steps of the end of STARTING: the float conditions and the order events, the ports, and the
lanes (R59 to R61, R88, R131, R189). -/
namespace Sys2Proof.Machine

variable {s t : State}

/-! ### The flags of the float conditions and of the order queue -/

theorem State.headReady_congr (hq : t.orderQueue = s.orderQueue) (hd : t.dockets = s.dockets) :
    t.headReady = s.headReady := by
  have horders (m : Nat) : t.orderState? m = s.orderState? m := by
    rw [State.orderState?, State.orderState?, State.order?, State.order?, State.docket?_congr hd]
  rw [State.headReady_eq, State.headReady_eq, State.headView_congr hq horders]

theorem State.shortNow_congr (hq : t.orderQueue = s.orderQueue) (hd : t.dockets = s.dockets)
    (hf : t.float = s.float) : t.shortNow = s.shortNow := by
  have hpay (m : Nat) : decide (t.float < t.payoutOf m) = decide (s.float < s.payoutOf m) := by
    rw [State.payoutOf, State.payoutOf, State.docket?_congr hd, hf]
  simp only [State.shortNow, State.headReady_congr hq hd, hq, hpay]

theorem State.setFloatLow_flags (s : State) (b : Bool) :
    ((s.setFloatLow b).ports.get .payout).flags = ((s.ports.get .payout).flags |||
      if b ≠ s.floatLow then Event.bit .payout .floatLow else 0) ∧
    ((s.setFloatLow b).ports.get .office).flags = ((s.ports.get .office).flags |||
      if b ≠ s.floatLow then Event.bit .office .floatLow else 0) ∧
    (s.setFloatLow b).ports.get .lane = s.ports.get .lane ∧ SamePhases s (s.setFloatLow b) := by
  rw [SamePhases, State.setFloatLow_ports]
  by_cases h : b = s.floatLow
  · simp [h]
  · simp only [h, if_false, ne_eq, not_false_eq_true, if_true, State.raise_ports, PerPort.get_set]
    refine ⟨by simp, by simp, by simp, fun q => ?_⟩
    cases q <;> simp

/-- What one flag of the Payout port's float conditions changes. -/
theorem State.setEmptyCause_flags (s : State) (b : Bool) :
    ((s.setEmptyCause b).ports.get .payout).flags = ((s.ports.get .payout).flags |||
      if b ≠ s.emptyCause then Event.bit .payout .floatOut else 0) ∧
    SameOtherPorts s (s.setEmptyCause b) .payout ∧ SamePhases s (s.setEmptyCause b) := by
  rw [SamePhases, SameOtherPorts, State.setEmptyCause_ports]
  by_cases h : b = s.emptyCause
  · simp [h]
  · simp only [h, if_false, ne_eq, not_false_eq_true, if_true, State.raise_ports, PerPort.get_set]
    refine ⟨trivial, fun q hq => if_neg hq, fun q => ?_⟩
    cases q <;> simp

theorem State.setShortCause_flags (s : State) (b : Bool) :
    ((s.setShortCause b).ports.get .payout).flags = ((s.ports.get .payout).flags |||
      if b ≠ s.shortCause then Event.bit .payout .floatOut else 0) ∧
    SameOtherPorts s (s.setShortCause b) .payout ∧ SamePhases s (s.setShortCause b) := by
  rw [SamePhases, SameOtherPorts, State.setShortCause_ports]
  by_cases h : b = s.shortCause
  · simp [h]
  · simp only [h, if_false, ne_eq, not_false_eq_true, if_true, State.raise_ports, PerPort.get_set]
    refine ⟨trivial, fun q hq => if_neg hq, fun q => ?_⟩
    cases q <;> simp

/-! ### The order queue, the counter, lockout and the float conditions (R189 step 3) -/

/-- The state with the queue, the counter and lockout, before the conditions are checked. -/
def State.queueRestored (s : State) : State :=
  { s with orderQueue := s.restoredQueue, nextNumber := s.restoredCounter
           lockout := locks s.faults s.settings.lockoutMask }

/-- The state with the float conditions checked, before the event of the head order. -/
def State.floatChecked (s : State) : State := (s.queueRestored.checkFloatLow.setEmptyCause false).checkShort

theorem State.startMoney_eq (s : State) : s.startMoney =
    if s.floatChecked.headReady then s.floatChecked.raise .payout .orderReady else s.floatChecked := rfl

theorem State.floatChecked_frame (s : State) :
    s.floatChecked.pending = s.pending ∧ s.floatChecked.addrStrap = s.addrStrap ∧
    s.floatChecked.address = s.address ∧ s.floatChecked.yardTime = s.yardTime ∧
    s.floatChecked.handedBack = s.handedBack ∧ s.floatChecked.resetLow = s.resetLow ∧
    s.floatChecked.detectors = s.detectors ∧ s.floatChecked.dockets = s.dockets ∧
    s.floatChecked.nextNumber = s.restoredCounter ∧ s.floatChecked.orderQueue = s.restoredQueue ∧
    s.floatChecked.float = s.float ∧ s.floatChecked.accounts = s.accounts ∧
    s.floatChecked.settlements = s.settlements ∧ s.floatChecked.faults = s.faults ∧
    s.floatChecked.settings = s.settings ∧
    s.floatChecked.lockout = locks s.faults s.settings.lockoutMask ∧ s.floatChecked.store = s.store ∧
    s.floatChecked.commitQueue = s.commitQueue ∧ s.floatChecked.held = s.held ∧
    s.floatChecked.program = s.program := by
  simp [State.floatChecked, State.queueRestored]

theorem State.startMoney_frame (s : State) :
    s.startMoney.pending = s.pending ∧ s.startMoney.addrStrap = s.addrStrap ∧
    s.startMoney.address = s.address ∧ s.startMoney.yardTime = s.yardTime ∧
    s.startMoney.handedBack = s.handedBack ∧ s.startMoney.resetLow = s.resetLow ∧
    s.startMoney.detectors = s.detectors ∧ s.startMoney.dockets = s.dockets ∧
    s.startMoney.nextNumber = s.restoredCounter ∧ s.startMoney.orderQueue = s.restoredQueue ∧
    s.startMoney.float = s.float ∧ s.startMoney.accounts = s.accounts ∧
    s.startMoney.settlements = s.settlements ∧ s.startMoney.faults = s.faults ∧
    s.startMoney.settings = s.settings ∧
    s.startMoney.lockout = locks s.faults s.settings.lockoutMask ∧ s.startMoney.store = s.store ∧
    s.startMoney.commitQueue = s.commitQueue ∧ s.startMoney.held = s.held ∧
    s.startMoney.program = s.program ∧ s.startMoney.floatLow = s.floatChecked.floatLow ∧
    s.startMoney.shortCause = s.floatChecked.shortCause ∧
    s.startMoney.emptyCause = s.floatChecked.emptyCause := by
  rw [s.startMoney_eq]
  split <;> simp [s.floatChecked_frame]

/-- The float conditions that the checks leave, and the flags they raise. -/
theorem State.floatChecked_money (s : State) :
    s.floatChecked.floatLow =
      floatLowAfter s.float s.settings.floatLowSet s.settings.floatLowClear s.floatLow ∧
    s.floatChecked.shortCause = s.floatChecked.shortNow ∧ s.floatChecked.emptyCause = false ∧
    (s.floatChecked.ports.get .payout).flags = ((s.ports.get .payout).flags |||
      (if s.floatChecked.floatLow ≠ s.floatLow then Event.bit .payout .floatLow else 0) |||
      (if s.floatChecked.shortCause ≠ s.shortCause ∨ s.emptyCause = true
        then Event.bit .payout .floatOut else 0)) ∧
    (s.floatChecked.ports.get .office).flags = ((s.ports.get .office).flags |||
      (if s.floatChecked.floatLow ≠ s.floatLow then Event.bit .office .floatLow else 0)) ∧
    s.floatChecked.ports.get .lane = s.ports.get .lane ∧ SamePhases s s.floatChecked := by
  obtain ⟨hlow1, hlow2, hlow3, hlow4⟩ := s.queueRestored.setFloatLow_flags (floatLowAfter s.float
    s.settings.floatLowSet s.settings.floatLowClear s.floatLow)
  obtain ⟨hempty1, hempty2, hempty3⟩ := s.queueRestored.checkFloatLow.setEmptyCause_flags false
  obtain ⟨hshort1, hshort2, hshort3⟩ :=
    (s.queueRestored.checkFloatLow.setEmptyCause false).setShortCause_flags
      (s.queueRestored.checkFloatLow.setEmptyCause false).shortNow
  have hlow : s.floatChecked.floatLow =
      floatLowAfter s.float s.settings.floatLowSet s.settings.floatLowClear s.floatLow := by
    simp [State.floatChecked, State.queueRestored]
  have hnow : s.floatChecked.shortCause = (s.queueRestored.checkFloatLow.setEmptyCause false).shortNow := by
    simp [State.floatChecked]
  have hempty : s.queueRestored.checkFloatLow.emptyCause = s.emptyCause := by simp [State.queueRestored]
  have hshort : (s.queueRestored.checkFloatLow.setEmptyCause false).shortCause = s.shortCause := by
    simp [State.queueRestored]
  have hout : (if s.floatChecked.shortCause ≠ s.shortCause ∨ s.emptyCause = true
        then Event.bit .payout .floatOut else 0) =
      ((if false ≠ s.emptyCause then Event.bit .payout .floatOut else 0) |||
        if s.floatChecked.shortCause ≠ s.shortCause then Event.bit .payout .floatOut else 0) := by
    by_cases he : s.emptyCause = true <;> by_cases hs : s.floatChecked.shortCause = s.shortCause <;>
      simp [he, hs]
  have hself : s.floatChecked =
      (s.queueRestored.checkFloatLow.setEmptyCause false).setShortCause s.floatChecked.shortCause := by
    rw [hnow]; rfl
  rw [hempty] at hempty1
  rw [hshort, ← hnow] at hshort1
  refine ⟨hlow, ?_, by simp [State.floatChecked], ?_, ?_, ?_,
    (SamePhases.trans hlow4 hempty3).trans hshort3⟩
  · rw [hnow]
    exact (State.shortNow_congr (by simp [State.floatChecked]) (by simp [State.floatChecked])
      (by simp [State.floatChecked])).symm
  · rw [hout, hlow, ← BitVec.or_assoc]
    exact (congrArg (fun q : State => (q.ports.get .payout).flags) hself).trans <|
      hshort1.trans (congrArg (· ||| _) (hempty1.trans (congrArg (· ||| _) hlow1)))
  · rw [hlow]
    exact (congrArg PortState.flags ((hshort2 .office nofun).trans (hempty2 .office nofun))).trans hlow2
  · exact ((hshort2 .lane nofun).trans (hempty2 .lane nofun)).trans hlow3

end Sys2Proof.Machine
end

section
/-! SUPPORT. The lanes that start at the end of STARTING, and SCAN_COMPLETE (R88, R131, R147, R189). -/
namespace Sys2Proof.Machine

variable {s t : State} {n : Lane}

/-! ### The lanes that start (R131, R189 step 5) -/

theorem raisesLaneState_configuring (a : LaneState) :
    raisesLaneState a .configuring = true ↔ a ≠ .configuring := by
  cases a <;> decide

@[simp] theorem State.startLane_frame (s : State) (n : Lane) :
    (s.startLane n).pending = s.pending ∧ (s.startLane n).mode = s.mode ∧
    (s.startLane n).addrStrap = s.addrStrap ∧ (s.startLane n).address = s.address ∧
    (s.startLane n).yardTime = s.yardTime ∧ (s.startLane n).subSecond = s.subSecond ∧
    (s.startLane n).handedBack = s.handedBack ∧ (s.startLane n).resetLow = s.resetLow ∧
    (s.startLane n).links = s.links ∧ (s.startLane n).rotation = s.rotation ∧
    (s.startLane n).turn = s.turn ∧ (s.startLane n).strays = s.strays ∧
    (s.startLane n).dockets = s.dockets ∧ (s.startLane n).nextNumber = s.nextNumber ∧
    (s.startLane n).orderQueue = s.orderQueue ∧ (s.startLane n).float = s.float ∧
    (s.startLane n).floatLow = s.floatLow ∧ (s.startLane n).shortCause = s.shortCause ∧
    (s.startLane n).emptyCause = s.emptyCause ∧ (s.startLane n).accounts = s.accounts ∧
    (s.startLane n).settlements = s.settlements ∧ (s.startLane n).faults = s.faults ∧
    (s.startLane n).settings = s.settings ∧ (s.startLane n).lockout = s.lockout ∧
    (s.startLane n).store = s.store ∧ (s.startLane n).commitQueue = s.commitQueue ∧
    (s.startLane n).held = s.held ∧ (s.startLane n).program = s.program := by
  unfold State.startLane
  split <;> simp

/-- One lane starts where it is enabled. -/
theorem State.startLane_detectors (s : State) (n m : Lane) : (s.startLane n).detectors.get m =
    if m = n ∧ s.enabled n = true then (s.detectors.get m).configuring else s.detectors.get m := by
  unfold State.startLane
  split
  · rename_i h
    by_cases hm : m = n
    · subst hm; simp [h]
    · simp [hm]
  · rename_i h
    simp [h]

/-- What the start of one lane raises (R88). -/
theorem State.startLane_ports (s : State) (n : Lane) :
    SameOtherPorts s (s.startLane n) .lane ∧ SamePhases s (s.startLane n) ∧
    ((s.startLane n).ports.get .lane).flags = ((s.ports.get .lane).flags |||
      if s.enabled n = true ∧ (s.detectors.get n).state ≠ .configuring
        then Event.bit .lane .laneState else 0) := by
  have hmove := State.moveLane_ports (s := s) n (s.detectors.get n).configuring
  have hraises : raisesLaneState (s.detectors.get n).state (s.detectors.get n).configuring.state = true ↔
    (s.detectors.get n).state ≠ .configuring := raisesLaneState_configuring _
  unfold State.startLane
  by_cases hen : s.enabled n = true
  · rw [if_pos hen]
    by_cases hst : (s.detectors.get n).state ≠ .configuring
    · rw [if_pos (hraises.mpr hst)] at hmove
      refine ⟨fun q hq => by simp [hmove, hq], fun q => ?_, by simp [hmove, hen, hst]⟩
      rw [hmove]
      exact s.raise_samePhases .lane .laneState q
    · rw [if_neg (fun h => hst (hraises.mp h))] at hmove
      exact ⟨fun q hq => by rw [hmove], fun q => by rw [hmove]; exact ⟨rfl, rfl, rfl⟩, by simp [hmove, hst]⟩
  · rw [if_neg hen]
    exact ⟨fun _ _ => rfl, fun _ => ⟨rfl, rfl, rfl⟩, by simp [hen]⟩

/-- What stays through the start of the lanes. -/
structure State.LanesOnly (s t : State) : Prop where
  clock : t.pending = s.pending ∧ t.mode = s.mode ∧ t.addrStrap = s.addrStrap ∧ t.address = s.address ∧
    t.yardTime = s.yardTime ∧ t.handedBack = s.handedBack ∧ t.resetLow = s.resetLow
  link : t.links = s.links ∧ t.rotation = s.rotation ∧ t.turn = s.turn ∧ t.strays = s.strays
  money : t.dockets = s.dockets ∧ t.nextNumber = s.nextNumber ∧ t.orderQueue = s.orderQueue ∧
    t.float = s.float ∧ t.floatLow = s.floatLow ∧ t.shortCause = s.shortCause ∧ t.emptyCause = s.emptyCause
  records : t.accounts = s.accounts ∧ t.settlements = s.settlements ∧ t.faults = s.faults ∧
    t.settings = s.settings ∧ t.lockout = s.lockout
  store : t.store = s.store ∧ t.commitQueue = s.commitQueue ∧ t.held = s.held ∧ t.program = s.program

theorem State.startLanes_only (l : List Lane) (s : State) : s.LanesOnly (l.foldl State.startLane s) := by
  induction l generalizing s with
  | nil => exact ⟨by simp, by simp, by simp, by simp, by simp⟩
  | cons n rest ih =>
    obtain ⟨h1, h2, h3, h4, h5⟩ := ih (s.startLane n)
    simp only [State.startLane_frame] at h1 h2 h3 h4 h5
    exact ⟨h1, h2, h3, h4, h5⟩

theorem State.startLane_enabled (s : State) (n m : Lane) : (s.startLane n).enabled m = s.enabled m := by
  simp [State.enabled]

/-- The lanes of a list start, each once, where they are enabled. -/
theorem State.startLanes_detectors {l : List Lane} (hl : l.Nodup) (s : State) (m : Lane) :
    (l.foldl State.startLane s).detectors.get m =
      if m ∈ l ∧ s.enabled m = true then (s.detectors.get m).configuring else s.detectors.get m := by
  induction l generalizing s with
  | nil => simp
  | cons n rest ih =>
    obtain ⟨hn, hrest⟩ := List.nodup_cons.mp hl
    rw [List.foldl_cons, ih hrest, s.startLane_enabled, s.startLane_detectors]
    by_cases hm : m = n
    · subst hm; simp [hn]
    · simp [hm]

/-- LANE_STATE is raised where a lane of the list starts (R88), and nothing else. -/
theorem State.startLanes_ports {l : List Lane} (hl : l.Nodup) (s : State) :
    SameOtherPorts s (l.foldl State.startLane s) .lane ∧ SamePhases s (l.foldl State.startLane s) ∧
    ((l.foldl State.startLane s).ports.get .lane).flags = ((s.ports.get .lane).flags |||
      if ∃ n ∈ l, s.enabled n = true ∧ (s.detectors.get n).state ≠ .configuring
        then Event.bit .lane .laneState else 0) := by
  induction l generalizing s with
  | nil => exact ⟨fun _ _ => rfl, fun _ => ⟨rfl, rfl, rfl⟩, by simp⟩
  | cons n rest ih =>
    obtain ⟨hn, hrest⟩ := List.nodup_cons.mp hl
    obtain ⟨hothers, hphases, hflags⟩ := s.startLane_ports n
    obtain ⟨hothers', hphases', hflags'⟩ := ih hrest (s.startLane n)
    refine ⟨fun q hq => (hothers' q hq).trans (hothers q hq), hphases.trans hphases', ?_⟩
    have hsame : (∃ m ∈ rest, (s.startLane n).enabled m = true ∧
        ((s.startLane n).detectors.get m).state ≠ .configuring) ↔
        ∃ m ∈ rest, s.enabled m = true ∧ (s.detectors.get m).state ≠ .configuring := by
      refine exists_congr fun m => and_congr_right fun hm => ?_
      have hne : m ≠ n := fun h => hn (h ▸ hm)
      rw [s.startLane_enabled, s.startLane_detectors, if_neg fun h => hne h.1]
    rw [List.foldl_cons, hflags', hflags, BitVec.or_assoc]
    simp only [hsame, List.exists_mem_cons_iff]
    congr 1
    by_cases h1 : s.enabled n = true ∧ (s.detectors.get n).state ≠ .configuring <;>
      by_cases h2 : ∃ m ∈ rest, s.enabled m = true ∧ (s.detectors.get m).state ≠ .configuring <;>
      simp [h1, h2]

/-! ### SCAN_COMPLETE -/

/-- The state in which STARTING has ended and the lanes have started, before the rotation begins. -/
def State.opened (s : State) : State := Lane.list.foldl State.startLane s.startMoney.openPorts

/-- The state that SCAN_COMPLETE leaves. -/
def State.scanCompleted (s : State) : State := (s.opened.nextTurn.beginProgram).drivePins

theorem exec_scanComplete (h : s.mode = .scanning) : exec .scanComplete s = .next s.scanCompleted := by
  refine (if_pos h).trans ?_
  rfl

theorem State.opened_only (s : State) : s.startMoney.openPorts.LanesOnly s.opened :=
  State.startLanes_only Lane.list _

theorem State.opened_detectors (s : State) (m : Lane) : s.opened.detectors.get m =
    if s.enabled m = true then (s.detectors.get m).configuring else s.detectors.get m := by
  have hdet : s.startMoney.openPorts.detectors = s.detectors := by
    simp [State.openPorts, s.startMoney_frame]
  have hen : s.startMoney.openPorts.enabled m = s.enabled m := by
    simp [State.openPorts, State.enabled, s.startMoney_frame]
  unfold State.opened
  rw [State.startLanes_detectors (by decide), hdet, hen]
  simp [Lane.mem_list]

/-- The ports of the opened part: each is READY, and LANE_STATE is raised where a lane starts. -/
theorem State.opened_ports (s : State) :
    (∀ p, (s.opened.ports.get p).phase = .ready ∧
      (s.opened.ports.get p).result = (s.startMoney.ports.get p).result) ∧
    (∀ p, p ≠ .lane → (s.opened.ports.get p).flags = (s.startMoney.ports.get p).flags) ∧
    (s.opened.ports.get .lane).flags = ((s.startMoney.ports.get .lane).flags |||
      if ∃ n ∈ Lane.list, s.enabled n = true ∧ (s.detectors.get n).state ≠ .configuring
        then Event.bit .lane .laneState else 0) := by
  obtain ⟨hothers, hphases, hflags⟩ := s.startMoney.openPorts.startLanes_ports (l := Lane.list) (by decide)
  have hports (p : Port) : s.startMoney.openPorts.ports.get p =
      { s.startMoney.ports.get p with phase := .ready } := by simp [State.openPorts]
  have hdet : s.startMoney.openPorts.detectors = s.detectors := by
    simp [State.openPorts, s.startMoney_frame]
  have hen (m : Lane) : s.startMoney.openPorts.enabled m = s.enabled m := by
    simp [State.openPorts, State.enabled, s.startMoney_frame]
  refine ⟨fun p => ?_, fun p hp => ?_, ?_⟩
  · obtain ⟨hphase, hresult, -⟩ := hphases p
    rw [hports] at hphase hresult
    exact ⟨hphase, hresult⟩
  · exact (congrArg PortState.flags (hothers p hp)).trans (by rw [hports])
  · simp only [hdet, hen, hports] at hflags
    exact hflags

/-- The opened part, field by field: `State.scanCompleted` begins a turn and a program besides. -/
theorem State.opened_frame (s : State) :
    (s.opened.pending = s.pending ∧ s.opened.mode = .running ∧ s.opened.addrStrap = s.addrStrap ∧
      s.opened.address = s.address ∧ s.opened.yardTime = s.yardTime ∧
      s.opened.handedBack = s.handedBack ∧ s.opened.resetLow = s.resetLow) ∧
    (s.opened.links = .all { stats := { since := s.yardTime } } ∧ s.opened.rotation = none ∧
      s.opened.turn = none ∧ s.opened.strays = .all { since := s.yardTime }) ∧
    (s.opened.dockets = s.dockets ∧ s.opened.nextNumber = s.restoredCounter ∧
      s.opened.orderQueue = s.restoredQueue ∧ s.opened.float = s.float ∧
      s.opened.floatLow = s.floatChecked.floatLow ∧ s.opened.shortCause = s.floatChecked.shortCause ∧
      s.opened.emptyCause = s.floatChecked.emptyCause) ∧
    (s.opened.accounts = s.accounts ∧ s.opened.settlements = s.settlements ∧ s.opened.faults = s.faults ∧
      s.opened.settings = s.settings ∧ s.opened.lockout = locks s.faults s.settings.lockoutMask) ∧
    s.opened.store = s.store ∧ s.opened.commitQueue = s.commitQueue ∧ s.opened.held = s.held ∧
    s.opened.program = s.program := by
  obtain ⟨h1, h2, h3, h4, h5⟩ := s.opened_only
  simp only [State.openPorts, s.startMoney_frame] at h1 h2 h3 h4 h5
  exact ⟨h1, h2, h3, h4, h5⟩

/-- The flags of the opened part (R40, R58 to R61, R88). -/
theorem State.opened_flags (s : State) :
    (s.opened.ports.get .payout).flags = ((s.ports.get .payout).flags |||
      (if s.opened.headReady then Event.bit .payout .orderReady else 0) |||
      (if s.opened.floatLow ≠ s.floatLow then Event.bit .payout .floatLow else 0) |||
      (if s.opened.shortCause ≠ s.shortCause ∨ s.emptyCause = true
        then Event.bit .payout .floatOut else 0)) ∧
    (s.opened.ports.get .office).flags = ((s.ports.get .office).flags |||
      (if s.opened.floatLow ≠ s.floatLow then Event.bit .office .floatLow else 0)) ∧
    (s.opened.ports.get .lane).flags = ((s.ports.get .lane).flags |||
      if ∃ n ∈ Lane.list, s.enabled n = true ∧ (s.detectors.get n).state ≠ .configuring
        then Event.bit .lane .laneState else 0) ∧
    (∀ p, (s.opened.ports.get p).phase = .ready ∧
      (s.opened.ports.get p).result = (s.ports.get p).result) := by
  obtain ⟨hphases, hothers, hlane⟩ := s.opened_ports
  obtain ⟨-, -, -, hpayout, hoffice, hlane', hsame⟩ := s.floatChecked_money
  obtain ⟨-, -, ⟨hdockets, -, hqueue, -, hlow, hshort, -⟩, -⟩ := s.opened_frame
  have hready : s.opened.headReady = s.floatChecked.headReady :=
    State.headReady_congr (hqueue.trans (by simp [s.floatChecked_frame]))
      (hdockets.trans (by simp [s.floatChecked_frame]))
  have hraised : SamePhases s s.startMoney ∧
      (s.startMoney.ports.get .payout).flags = ((s.floatChecked.ports.get .payout).flags |||
        if s.opened.headReady then Event.bit .payout .orderReady else 0) ∧
      ∀ p, p ≠ .payout → s.startMoney.ports.get p = s.floatChecked.ports.get p := by
    rw [s.startMoney_eq, hready]
    split
    · exact ⟨hsame.trans (State.raise_samePhases _ .payout .orderReady), by simp, fun p hp => by simp [hp]⟩
    · exact ⟨hsame, by simp, fun _ _ => rfl⟩
  obtain ⟨hsame', hflags, hports⟩ := hraised
  rw [hlow, hshort]
  refine ⟨?_, ?_, ?_, fun p => ?_⟩
  · rw [hothers .payout nofun, hflags, hpayout]
    ac_rfl
  · rw [hothers .office nofun, hports .office nofun, hoffice]
  · rw [hlane, hports .lane nofun, hlane']
  · obtain ⟨hphase, hresult⟩ := hphases p
    obtain ⟨-, hr, -⟩ := hsame' p
    exact ⟨hphase, hresult.trans hr⟩

/-- The program that begins once the part runs (R64). -/
theorem State.beginProgram_first (hnone : s.program = none) (ha : s.active = true) :
    s.beginProgram.program =
      s.commitQueue.head?.map fun e => ⟨e.record, s.image e.record, .first, { limit := 15 }⟩ := by
  cases hq : s.commitQueue with
  | nil => rw [s.beginProgram_nil hq, hnone]; rfl
  | cons e rest => rw [s.beginProgram_head hnone hq ha]; rfl

theorem State.image_congr (ha : t.accounts = s.accounts) (hr : t.settlements = s.settlements)
    (hf : t.float = s.float) (hfault : t.faults = s.faults) (hset : t.settings = s.settings) (r : RecordId) :
    t.image r = s.image r := by
  cases r <;> simp only [State.image, ha, hr, hf, hfault, hset]

/-- A turn of a lane in CONFIGURING sends no targets (R148). -/
theorem State.nextTurn_detectors (h : ∀ n, s.enabled n = true → (s.detectors.get n).state = .configuring) :
    s.nextTurn.detectors = s.detectors := by
  unfold State.nextTurn
  split
  · split
    · rename_i n hn
      obtain ⟨hen, -⟩ := State.nextLane_some hn
      rw [s.beginTurn_detectors n, (callKindOf_config _).mpr (h n hen), if_neg nofun]
    · rfl
  · rfl

end Sys2Proof.Machine

namespace Sys2Proof.Proofs
open Sys2Proof.Machine

/-- Settles O60: the queue, the counter and the money, the ports, the lanes, the rotation and the first
program, each step by its own lemma. -/
theorem scanCompleteOpensThePart : Obligations.ScanCompleteOpensThePart := by
  intro s hs hmode
  have hnodup := hs.ledger.numbers
  obtain ⟨⟨hpend, hrun, hstrap, haddress, hyard, hhanded, hreset⟩, ⟨hlinks, hrot, hturn, hstrays⟩,
    ⟨hdockets, hnext, hqueue, hfloat, hlow, hshort, hempty⟩, ⟨hacc, hset, hfault, hsettings, hlock⟩,
    hstore, hcommit, hheld, hprogram⟩ := s.opened_frame
  obtain ⟨hpayout, hoffice, hlane, hphases⟩ := s.opened_flags
  obtain ⟨hlow', hshort', hempty', -⟩ := s.floatChecked_money
  obtain ⟨hbegins, hidles⟩ := s.opened.nextTurn_follows
  have hready : s.scanCompleted.headReady = s.opened.headReady :=
    State.headReady_congr (by simp [State.scanCompleted]) (by simp [State.scanCompleted])
  have hnow : s.scanCompleted.shortNow = s.floatChecked.shortNow :=
    State.shortNow_congr (by simp [State.scanCompleted, hqueue, s.floatChecked_frame])
      (by simp [State.scanCompleted, hdockets, s.floatChecked_frame])
      (by simp [State.scanCompleted, hfloat, s.floatChecked_frame])
  have hports : s.scanCompleted.ports = s.opened.ports := by simp [State.scanCompleted]
  have hlowT : s.scanCompleted.floatLow = s.opened.floatLow := by simp [State.scanCompleted]
  have hshortT : s.scanCompleted.shortCause = s.opened.shortCause := by simp [State.scanCompleted]
  have henabled (n : Lane) : s.opened.enabled n = s.enabled n := by simp [State.enabled, hsettings]
  have hdet : s.scanCompleted.detectors = s.opened.detectors := by
    have hkept := State.nextTurn_detectors (s := s.opened) fun n hn => by
      rw [henabled] at hn
      rw [s.opened_detectors, if_pos hn]
      rfl
    simpa [State.scanCompleted] using hkept
  have hnone : s.opened.nextTurn.program = none := by
    obtain ⟨-, -, -, -, -, -, hactive, -⟩ := hs.queue
    have : ¬ s.program.isSome = true := fun h => by simpa [State.active, hmode] using (hactive h).1
    simpa [hprogram] using this
  simp only [← hready, ← hlowT, ← hshortT, ← hports] at hpayout hoffice hlane hphases
  simp only [hrun, henabled] at hbegins hidles
  refine ⟨_, exec_scanComplete hmode, by simp [State.scanCompleted, hrun], hphases, fun num => ?_, ?_,
    fun he => ?_, fun d hd hmax => ?_, by simp [State.scanCompleted, hlock], by rw [hlowT, hlow, hlow'],
    by rw [hshortT, hshort, hnow, hshort'], by simp [State.scanCompleted, hempty, hempty'],
    fun h => ?flagged, hpayout, hoffice, fun h => ?starts, fun h => ?quiet, fun n => ?_, fun n hn => ?_,
    fun n hn => ?_, fun h => ?begins, fun h => ?idles, ?program, by simp [State.scanCompleted, hcommit],
    by simp [State.scanCompleted, *]⟩
  case flagged =>
    rw [State.Flagged, hpayout, if_pos h]
    ext i
    simp only [BitVec.getElem_and, BitVec.getElem_or]
    cases (Event.bit .payout .orderReady)[i] <;> simp
  case starts =>
    rw [hlane, if_pos]
    obtain ⟨n, hn⟩ := h
    exact ⟨n, Lane.mem_list n, hn⟩
  case quiet =>
    rw [hlane, if_neg]
    · simp
    · rintro ⟨n, -, hn, hne⟩
      exact hne (h n hn)
  case begins =>
    obtain ⟨y, hy, hbegun, hlane⟩ := hbegins trivial h
    refine ⟨y, by simpa [State.scanCompleted] using hy, hbegun.congr (by simp [State.scanCompleted])
      (by simp [State.scanCompleted]) (by simp [State.scanCompleted]), ?_⟩
    exact hlane.congr hsettings hrot
  case idles =>
    have hsame := hidles (.inr h)
    simp [State.scanCompleted, hsame, hturn, hrot]
  case program =>
    have hbegun := State.beginProgram_first hnone (by simp [State.active, hrun])
    have himage (r : RecordId) : s.opened.nextTurn.image r = s.image r :=
      State.image_congr (by simp [hacc]) (by simp [hset]) (by simp [hfloat]) (by simp [hfault])
        (by simp [hsettings]) r
    simpa [State.scanCompleted, hcommit, himage] using hbegun
  · simpa [State.scanCompleted, hqueue] using State.mem_restoredQueue hnodup num
  · simpa [State.scanCompleted, hqueue] using State.restoredQueue_rises hnodup
  · simpa [State.scanCompleted, hnext] using State.restoredCounter_empty he
  · simpa [State.scanCompleted, hnext] using State.restoredCounter_eq hd hmax
  · simp [State.scanCompleted, hstrays, hlinks]
  · rw [hdet, s.opened_detectors, if_pos hn]
    rfl
  · rw [hdet, s.opened_detectors, if_neg (by simp [hn])]

end Sys2Proof.Proofs
end

section
/-! SUPPORT. What the parts of the start-up scan queue and record (R64 to R66, R163, R166, R190). -/
namespace Sys2Proof.Machine

variable {s t u : State} {qs qs' : List RecordId} {k k' : Nat}

/-! ### Requests -/

/-- A record stands queued after a request where it stood before or is the record asked for. -/
theorem State.queueRecord_queued_iff (s : State) (r x : RecordId) :
    (s.queueRecord r).Queued x ↔ s.Queued x ∨ x = r := by
  constructor
  · rintro (h | ⟨n, hn, rfl⟩)
    · rw [State.hasEntry_map] at h
      rcases s.queueRecord_records r false with hr | ⟨-, hr⟩ <;> rw [hr] at h
      · exact .inl (.inl ((State.hasEntry_map s x).mpr h))
      · rcases List.mem_append.mp h with h | h
        · exact .inl (.inl ((State.hasEntry_map s x).mpr h))
        · exact .inr (List.mem_singleton.mp h)
    · rcases s.queueRecord_cases r false with ⟨-, hq⟩ | ⟨-, -, hq⟩ | ⟨-, m, hm, -, -, hq⟩ | ⟨-, -, hq⟩ <;>
        rw [hq] at hn
      · exact .inl (.inr ⟨n, hn, rfl⟩)
      · exact .inl (.inr ⟨n, hn, rfl⟩)
      · rcases List.mem_append.mp hn with hn | hn
        · exact .inl (.inr ⟨n, hn, rfl⟩)
        · rw [hm, List.mem_singleton.mp hn]
          exact .inr rfl
      · exact .inl (.inr ⟨n, hn, rfl⟩)
  · rintro (h | rfl)
    · exact (RequestsKept.queueRecord s r).queued h
    · exact s.queueRecord_queued x false

theorem State.Queued.congr (hq : t.commitQueue = s.commitQueue) (hh : t.held = s.held) (r : RecordId) :
    t.Queued r ↔ s.Queued r := by
  simp only [State.Queued, State.hasEntry, hq, hh]

/-- Only accounts are held (R66). -/
theorem State.queued_iff {r : RecordId} (h : r.isAccount = false) : s.Queued r ↔ s.hasEntry r = true := by
  refine ⟨fun hq => hq.resolve_right ?_, .inl⟩
  rintro ⟨n, -, rfl⟩
  cases h

theorem State.queue_empty (h : ∀ r, ¬ s.Queued r) : s.commitQueue = [] ∧ s.held = [] := by
  refine ⟨List.eq_nil_iff_forall_not_mem.mpr fun e he => h e.record (.inl ?_),
    List.eq_nil_iff_forall_not_mem.mpr fun n hn => h (.account n) (.inr ⟨n, hn, rfl⟩)⟩
  exact (State.hasEntry_map s e.record).mpr (List.mem_map_of_mem he)

/-! ### What a part of the scan queues and records -/

theorem FaultRecord.set_set (f : FaultRecord) (j : FaultKind) (a b : FaultEntry) :
    (f.set j a).set j b = f.set j b := by
  cases j <;> rfl

theorem FaultRecord.set_get (f : FaultRecord) (j : FaultKind) : f.set j (f.get j) = f := by
  cases j <;> rfl

/-- STORE_CORRUPT recorded `k` times over (R163, R164). -/
def FaultRecord.corrupted (f : FaultRecord) (now k : Nat) : FaultRecord :=
  f.set .storeCorrupt ((fun e => e.occur now)^[k] (f.get .storeCorrupt))

theorem FaultRecord.corrupted_add (f : FaultRecord) (now k k' : Nat) :
    (f.corrupted now k).corrupted now k' = f.corrupted now (k + k') := by
  simp only [FaultRecord.corrupted, FaultRecord.set_set, FaultRecord.get_set, if_true, Nat.add_comm k,
    Function.iterate_add_apply]

/-- A part of the scan has queued the records `qs` and recorded STORE_CORRUPT `k` times. -/
structure State.Scans (s t : State) (qs : List RecordId) (k : Nat) : Prop where
  queued : ∀ r, t.Queued r ↔ s.Queued r ∨ r ∈ qs ∨ (r = .fault ∧ 0 < k)
  faults : t.faults = s.faults.corrupted s.yardTime k
  flag : 0 < k → t.Flagged .office .fault
  flags : FlagsKept s t
  yard : t.yardTime = s.yardTime

theorem State.Scans.of_same (hq : t.commitQueue = s.commitQueue) (hh : t.held = s.held)
    (hf : t.faults = s.faults) (hflags : FlagsKept s t) (hy : t.yardTime = s.yardTime) : s.Scans t [] 0 :=
  ⟨fun r => by simp [State.Queued.congr hq hh r],
    by simpa [FaultRecord.corrupted, FaultRecord.set_get] using hf, nofun, hflags, hy⟩

theorem State.Scans.refl (s : State) : s.Scans s [] 0 := .of_same rfl rfl rfl (fun _ _ h => h) rfl

theorem State.Scans.trans (h : s.Scans t qs k) (h' : t.Scans u qs' k') :
    s.Scans u (qs ++ qs') (k + k') := by
  refine ⟨fun r => ?_, ?_, fun hk => ?_, h.flags.trans h'.flags, h'.yard.trans h.yard⟩
  · rw [h'.queued, h.queued, List.mem_append]
    have : 0 < k + k' ↔ 0 < k ∨ 0 < k' := by omega
    simp only [this, and_or_left, or_assoc, or_comm, or_left_comm]
  · rw [h'.faults, h.faults, h.yard, FaultRecord.corrupted_add]
  · by_cases hk' : 0 < k'
    · exact h'.flag hk'
    · exact h'.flags _ _ (h.flag (by omega))

theorem State.Scans.queueRecord (s : State) (r : RecordId) : s.Scans (s.queueRecord r) [r] 0 :=
  ⟨fun x => by simp [s.queueRecord_queued_iff r x],
    by simp [FaultRecord.corrupted, FaultRecord.set_get], nofun, FlagsKept.of_ports (by simp), by simp⟩

theorem State.Scans.recordFault (s : State) : s.Scans (s.recordFault .storeCorrupt) [] 1 := by
  obtain ⟨hbefore, -, hflag, -⟩ := s.recordFault_beside s.faults .storeCorrupt .l0
  have hnote (r : RecordId) : (s.noteFault .storeCorrupt).Queued r ↔ s.Queued r :=
    State.Queued.congr (by simp [State.noteFault]) (by simp [State.noteFault]) r
  refine ⟨fun r => ?_, by simp [FaultRecord.corrupted], fun _ => hflag, hbefore.steady.flags, by simp⟩
  rw [State.recordFault, State.queueRecord_queued_iff, hnote]
  simp

end Sys2Proof.Machine
end

section
/-! SUPPORT. A table of records scanned in the order of its numbers, record by record (R190, R191). -/
namespace Sys2Proof.Machine

variable {s t u : State} {α : Type}

/-! ### A table read -/

/-- What a record of a table gives the scan, from the working copies loaded below it: its own working copy,
and whether it was treated as corrupt, which queues it. -/
abbrev ScanRule (α : Type) : Type := Table α → Cell α → Option α → Bool → Prop

/-- The working copies numbered below `n`. -/
def Table.below (l : Table α) (n : Nat) : Table α := l.filter fun e => e.1 < n

/-- The working copies `l` and the freed or corrupt records `bad` that a rule gives the records `cells`. -/
structure TableRead (rule : ScanRule α) (l : Table α) (cells : Table (Cell α)) (bad : List Nat) : Prop where
  rising : Table.Rising l
  listed : ∀ e ∈ l, e.1 ∈ cells.map (·.1)
  nodup : bad.Nodup
  badListed : ∀ n ∈ bad, n ∈ cells.map (·.1)
  read : ∀ e ∈ cells, rule (Table.below l e.1) e.2 (tableGet l e.1) (decide (e.1 ∈ bad))

theorem Table.below_all {l : Table α} {n : Nat} (h : ∀ e ∈ l, e.1 < n) : Table.below l n = l :=
  List.filter_eq_self.mpr fun e he => decide_eq_true (h e he)

theorem Table.below_append_new {n m : Nat} (h : n ≤ m) (l : Table α) (new : Option α) :
    Table.below (l ++ new.toList.map (m, ·)) n = Table.below l n := by
  cases new <;> simp [Table.below, Nat.not_lt.mpr h]

theorem tableGet_none {l : Table α} {n : Nat} (h : ∀ e ∈ l, e.1 ≠ n) : tableGet l n = none := by
  simp only [tableGet, Option.map_eq_none_iff, List.find?_eq_none, beq_iff_eq]
  exact h

theorem tableGet_append_new {n m : Nat} (l : Table α) (new : Option α) (h : tableGet l m = none) :
    tableGet (l ++ new.toList.map (m, ·)) n = if n = m then new else tableGet l n := by
  by_cases hn : n = m
  · subst hn
    rw [if_pos rfl]
    simp only [tableGet, Option.map_eq_none_iff] at h
    cases new <;> simp [tableGet, h]
  · rw [if_neg hn]
    cases new <;> simp [tableGet, Ne.symm hn]

theorem TableRead.nil (rule : ScanRule α) : TableRead rule [] [] [] :=
  ⟨List.Pairwise.nil, nofun, List.nodup_nil, nofun, nofun⟩

/-- One record more, numbered above those read. -/
theorem TableRead.snoc {rule : ScanRule α} {l : Table α} {cells : Table (Cell α)} {bad : List Nat}
    (h : TableRead rule l cells bad) {e : Nat × Cell α} (hnew : ∀ x ∈ cells, x.1 < e.1) {new : Option α}
    {q : Bool} (hrule : rule l e.2 new q) :
    TableRead rule (l ++ new.toList.map (e.1, ·)) (cells ++ [e]) (bad ++ if q then [e.1] else []) := by
  have hkey : ∀ n ∈ cells.map (·.1), n < e.1 := by
    simp only [List.mem_map, forall_exists_index, and_imp]
    rintro n x hx rfl
    exact hnew x hx
  have hlow : ∀ x ∈ l, x.1 < e.1 := fun x hx => hkey _ (h.listed x hx)
  have hfree : tableGet l e.1 = none := tableGet_none fun x hx => Nat.ne_of_lt (hlow x hx)
  have hbad : e.1 ∉ bad := fun he => Nat.lt_irrefl _ (hkey _ (h.badListed _ he))
  refine ⟨?_, fun x hx => ?_, ?_, fun n hn => ?_, fun x hx => ?_⟩
  · rw [Table.Rising, List.map_append, List.pairwise_append]
    refine ⟨h.rising, by cases new <;> simp, fun a ha b hb => ?_⟩
    obtain ⟨x, hx, rfl⟩ := List.mem_map.mp ha
    obtain rfl : b = e.1 := by cases new <;> simp_all
    exact hlow x hx
  · rw [List.map_append]
    rcases List.mem_append.mp hx with hx | hx
    · exact List.mem_append_left _ (h.listed x hx)
    · refine List.mem_append_right _ ?_
      cases new <;> simp_all
  · rw [List.nodup_append]
    refine ⟨h.nodup, by cases q <;> simp, fun a ha b hb => ?_⟩
    obtain rfl : b = e.1 := by cases q <;> simp_all
    exact fun he => hbad (he ▸ ha)
  · rw [List.map_append]
    rcases List.mem_append.mp hn with hn | hn
    · exact List.mem_append_left _ (h.badListed n hn)
    · refine List.mem_append_right _ ?_
      cases q <;> simp_all
  · rw [tableGet_append_new l new hfree]
    rcases List.mem_append.mp hx with hx | hx
    · have hlt := hnew x hx
      have hsame : x.1 ∈ bad ++ (if q then [e.1] else []) ↔ x.1 ∈ bad := by
        cases q <;> simp [Nat.ne_of_lt hlt]
      rw [Table.below_append_new (Nat.le_of_lt hlt), if_neg (Nat.ne_of_lt hlt), decide_eq_decide.mpr hsame]
      exact h.read x hx
    · obtain rfl := List.mem_singleton.mp hx
      have hsame : decide (x.1 ∈ bad ++ (if q then [x.1] else [])) = q := by
        cases q <;> simp [hbad]
      rw [Table.below_append_new le_rfl, Table.below_all hlow, if_pos rfl, hsame]
      exact hrule

/-! ### The walk over the records -/

/-- One record of a walk: what it adds to the working copies, and its request where it was treated as
corrupt. -/
structure ScanStep (rule : ScanRule α) (copies : State → Table α) (id : Nat → RecordId) (s t : State)
    (e : Nat × Cell α) (new : Option α) (q : Bool) : Prop where
  added : copies t = copies s ++ new.toList.map (e.1, ·)
  scans : s.Scans t (if q then [id e.1] else []) (if q then 1 else 0)
  follows : rule (copies s) e.2 new q

/-- A walk over the records of a table in the order of their numbers, each step by a rule, with an invariant
`J` that the steps keep. -/
theorem walk_table {rule : ScanRule α} {copies : State → Table α} {id : Nat → RecordId}
    {step : State → Nat × Cell α → State} {J : State → Prop}
    (hstep : ∀ s e, J s → (∀ x ∈ copies s, x.1 < e.1) →
      (∃ new q, ScanStep rule copies id s (step s e) e new q) ∧ J (step s e))
    {s : State} (hempty : copies s = []) (hJ : J s) {cells : Table (Cell α)} (hrise : Table.Rising cells) :
    ∃ bad, TableRead rule (copies (cells.foldl step s)) cells bad ∧
      s.Scans (cells.foldl step s) (bad.map id) bad.length ∧ J (cells.foldl step s) := by
  induction cells using List.reverseRecOn with
  | nil => exact ⟨[], by rw [List.foldl_nil, hempty]; exact .nil rule, .refl s, hJ⟩
  | append_singleton cells e ih =>
    rw [Table.Rising, List.map_append, List.pairwise_append] at hrise
    obtain ⟨hcells, -, hlast⟩ := hrise
    obtain ⟨bad, hread, hscans, hkept⟩ := ih hcells
    have hnew : ∀ x ∈ cells, x.1 < e.1 := fun x hx =>
      hlast _ (List.mem_map_of_mem hx) _ (List.mem_singleton_self _)
    have hlow : ∀ x ∈ copies (cells.foldl step s), x.1 < e.1 := fun x hx =>
      hlast _ (hread.listed x hx) _ (List.mem_singleton_self _)
    obtain ⟨⟨new, q, hadded, hq, hrule⟩, hkept'⟩ := hstep _ e hkept hlow
    rw [List.foldl_append, List.foldl_cons, List.foldl_nil]
    refine ⟨_, hadded ▸ hread.snoc hnew hrule, ?_, hkept'⟩
    have htrans := hscans.trans hq
    cases q <;> simpa using htrans

end Sys2Proof.Machine
end

section
/-! SUPPORT. The account and settlement records of the scan, and the three records before them (R55, R84,
R166, R190, R191). -/
namespace Sys2Proof.Machine

variable {s t u : State} {α : Type}

/-- A record put behind all those of a table stands at its end. -/
theorem tablePut_last {l : Table α} {n : Nat} (h : ∀ e ∈ l, e.1 < n) (a : α) :
    tablePut l n a = l ++ [(n, a)] := by
  induction l with
  | nil => rfl
  | cons e l ih =>
    have he : e.1 < n := h e List.mem_cons_self
    have hrest := ih fun x hx => h x (List.mem_cons_of_mem _ hx)
    obtain ⟨k, b⟩ := e
    simp only [tablePut, if_neg (Nat.lt_asymm he), if_neg (Nat.ne_of_gt he), hrest, List.cons_append]

/-! ### Account records (R190) -/

/-- A haulier ID borne by an account of a table. -/
abbrev Table.Loaded (l : Table Account) (id : Nat) : Prop := ∃ e ∈ l, e.2.haulier = id

/-- What an account record gives the scan (R190). -/
def accountRule : ScanRule Account := fun l c new q =>
  match c with
  | .valid a => (¬ Table.Loaded l a.haulier → new = some a ∧ q = false) ∧
      (Table.Loaded l a.haulier → new = none ∧ q = true)
  | .corrupt id =>
      (1 ≤ id → id ≤ haulierLimit → ¬ Table.Loaded l id →
        new = some { haulier := id, status := .corrupt } ∧ q = true) ∧
      (id = 0 ∨ haulierLimit < id ∨ Table.Loaded l id → new = none ∧ q = true)
  | .blank | .empty => new = none ∧ q = false

theorem State.account?_isNone (s : State) (id : Nat) :
    (s.account? id).isNone = true ↔ ¬ Table.Loaded s.accounts id := by
  simp [State.account?, Table.Loaded]

/-- A corrupt account record loads a CORRUPT account or is freed, and is queued either way (R190). -/
theorem State.scanCorruptAccount_step (hlow : ∀ x ∈ s.accounts, x.1 < n) (id : Nat) :
    ∃ new, (s.scanCorruptAccount n id).accounts = s.accounts ++ new.toList.map (n, ·) ∧
      s.Scans (s.scanCorruptAccount n id) [.account n] 1 ∧
      (1 ≤ id → id ≤ haulierLimit → ¬ Table.Loaded s.accounts id →
        new = some { haulier := id, status := .corrupt }) ∧
      (id = 0 ∨ haulierLimit < id ∨ Table.Loaded s.accounts id → new = none) := by
  have hscans (y : State) (hy : s.Scans y [] 0) :
      s.Scans ((y.queueRecord (.account n)).recordFault .storeCorrupt) [.account n] 1 := by
    simpa using (hy.trans (.queueRecord y (.account n))).trans (.recordFault _)
  unfold State.scanCorruptAccount
  simp only [s.account?_isNone]
  split
  · rename_i h
    obtain ⟨h1, h2, h3⟩ := h
    refine ⟨some { haulier := id, status := .corrupt }, by simp [tablePut_last hlow],
      hscans _ (.of_same rfl rfl rfl (FlagsKept.of_ports rfl) rfl), fun _ _ _ => rfl, fun h => ?_⟩
    rcases h with h | h | h
    · omega
    · omega
    · exact absurd h h3
  · rename_i h
    exact ⟨none, by simp, hscans _ (.refl s), fun h1 h2 h3 => absurd ⟨h1, h2, h3⟩ h, fun _ => rfl⟩

theorem State.scanAccount_step (s : State) (e : Nat × Cell Account) (hlow : ∀ x ∈ s.accounts, x.1 < e.1) :
    ∃ new q, ScanStep accountRule State.accounts RecordId.account s (s.scanAccount e) e new q := by
  obtain ⟨n, c⟩ := e
  unfold State.scanAccount
  cases c with
  | valid a =>
    simp only [s.account?_isNone]
    split
    · rename_i h
      exact ⟨some a, false, by simp [tablePut_last hlow], .of_same rfl rfl rfl (FlagsKept.of_ports rfl) rfl,
        fun _ => ⟨rfl, rfl⟩, fun hl => absurd hl h⟩
    · rename_i h
      rw [not_not] at h
      obtain ⟨new, hadded, hscans, -, hnone⟩ := State.scanCorruptAccount_step hlow a.haulier
      obtain rfl := hnone (.inr (.inr h))
      exact ⟨none, true, hadded, hscans, fun hl => absurd h hl, fun _ => ⟨rfl, rfl⟩⟩
  | corrupt id =>
    obtain ⟨new, hadded, hscans, hsome, hnone⟩ := State.scanCorruptAccount_step hlow id
    exact ⟨new, true, hadded, hscans, fun h1 h2 h3 => ⟨hsome h1 h2 h3, rfl⟩, fun h => ⟨hnone h, rfl⟩⟩
  | blank => exact ⟨none, false, by simp, .refl s, rfl, rfl⟩
  | empty => exact ⟨none, false, by simp, .refl s, rfl, rfl⟩

/-! ### Settlement records (R190, R191) -/

/-- A docket number borne by a settlement record of a table. -/
abbrev Table.Restored (l : Table SettleRecord) (num : Nat) : Prop := ∃ e ∈ l, e.2.docket = num

/-- What a settlement record gives the scan (R190, R191). -/
def settlementRule : ScanRule SettleRecord := fun l c new q =>
  match c with
  | .valid x => (¬ Table.Restored l x.docket → new = some x ∧ q = false) ∧
      (Table.Restored l x.docket → new = none ∧ q = true)
  | .corrupt _ => new = none ∧ q = true
  | .blank | .empty => new = none ∧ q = false

/-- The dockets are those of the settlement records, and the Payout and Office ports show SUSPENSE for each
record marked DISPENSING (R23, R191). -/
structure State.DebtsRestored (s : State) : Prop where
  dockets : s.dockets = s.settlements.map (·.2.restore)
  suspense : ∀ e ∈ s.settlements, e.2.marker = .dispensing →
    s.Flagged .payout .suspense ∧ s.Flagged .office .suspense

theorem State.DebtsRestored.docket?_isNone (h : s.DebtsRestored) (num : Nat) :
    (s.docket? num).isNone = true ↔ ¬ Table.Restored s.settlements num := by
  simp only [State.docket?, h.dockets, Option.isNone_iff_eq_none, List.find?_eq_none, List.forall_mem_map]
  simp [Table.Restored, SettleRecord.restore]

theorem State.DebtsRestored.of_scans {qs : List RecordId} {k : Nat} (h : s.DebtsRestored)
    (hscans : s.Scans t qs k) (hd : t.dockets = s.dockets) (hr : t.settlements = s.settlements) :
    t.DebtsRestored := by
  refine ⟨by rw [hd, hr]; exact h.dockets, fun e he hm => ?_⟩
  obtain ⟨h1, h2⟩ := h.suspense e (hr ▸ he) hm
  exact ⟨hscans.flags _ _ h1, hscans.flags _ _ h2⟩

/-- A docket restored with its record. -/
theorem State.restored_step (h : s.DebtsRestored) {n : Nat} (hlow : ∀ x ∈ s.settlements, x.1 < n)
    {x : SettleRecord} (hnew : ¬ Table.Restored s.settlements x.docket) :
    ScanStep settlementRule State.settlements RecordId.settlement s (s.scanSettlement (n, .valid x))
      (n, .valid x) (some x) false ∧ (s.scanSettlement (n, .valid x)).DebtsRestored := by
  have hnone := (h.docket?_isNone x.docket).mpr hnew
  unfold State.scanSettlement
  simp only [hnone, if_true]
  generalize hy : ({ s with settlements := tablePut s.settlements n x
                            dockets := s.dockets ++ [x.restore] } : State) = y
  have hadded : y.settlements = s.settlements ++ [(n, x)] := by rw [← hy, ← tablePut_last hlow]
  have hdockets : y.dockets = y.settlements.map (·.2.restore) := by
    rw [hadded, ← hy]
    simp [h.dockets]
  have hscans : s.Scans y [] 0 := by
    rw [← hy]
    exact .of_same rfl rfl rfl (FlagsKept.of_ports rfl) rfl
  cases hm : x.marker with
  | owed =>
    refine ⟨⟨hadded, hscans, fun _ => ⟨rfl, rfl⟩, fun hr => absurd hr hnew⟩, hdockets, fun e he hd => ?_⟩
    rw [hadded] at he
    rcases List.mem_append.mp he with he | he
    · obtain ⟨h1, h2⟩ := h.suspense e he hd
      exact ⟨hscans.flags _ _ h1, hscans.flags _ _ h2⟩
    · rw [List.mem_singleton.mp he, hm] at hd
      cases hd
  | dispensing =>
    have hraised : s.Scans ((y.raise .payout .suspense).raise .office .suspense) [] 0 :=
      hscans.trans (.of_same (by simp) (by simp) (by simp)
        ((FlagsKept.raise y .payout .suspense).trans (FlagsKept.raise _ .office .suspense)) (by simp))
    refine ⟨⟨by simpa using hadded, hraised, fun _ => ⟨rfl, rfl⟩, fun hr => absurd hr hnew⟩,
      by simpa using hdockets,
      fun _ _ _ => ⟨State.raise_keeps (State.raise_flagged y .payout .suspense) .office .suspense,
        State.raise_flagged _ .office .suspense⟩⟩

theorem State.scanSettlement_step (s : State) (e : Nat × Cell SettleRecord) (h : s.DebtsRestored)
    (hlow : ∀ x ∈ s.settlements, x.1 < e.1) :
    (∃ new q, ScanStep settlementRule State.settlements RecordId.settlement s (s.scanSettlement e) e new q) ∧
    (s.scanSettlement e).DebtsRestored := by
  obtain ⟨n, c⟩ := e
  have hfault : s.Scans ((s.queueRecord (.settlement n)).recordFault .storeCorrupt) [.settlement n] 1 := by
    simpa using (State.Scans.queueRecord s (.settlement n)).trans (.recordFault _)
  have hfault' : s.Scans ((s.recordFault .storeCorrupt).queueRecord (.settlement n)) [.settlement n] 1 := by
    simpa using (State.Scans.recordFault s).trans (.queueRecord _ (.settlement n))
  cases c with
  | valid x =>
    by_cases hnew : Table.Restored s.settlements x.docket
    · have hsome : ¬ (s.docket? x.docket).isNone = true := fun hn => (h.docket?_isNone x.docket).mp hn hnew
      have heq : s.scanSettlement (n, .valid x) = (s.queueRecord (.settlement n)).recordFault .storeCorrupt :=
        if_neg hsome
      rw [heq]
      exact ⟨⟨none, true, by simp, hfault, fun hn => absurd hnew hn, fun _ => ⟨rfl, rfl⟩⟩,
        h.of_scans hfault (by simp) (by simp)⟩
    · obtain ⟨hstep, hkept⟩ := State.restored_step h hlow hnew
      exact ⟨⟨_, _, hstep⟩, hkept⟩
  | corrupt id =>
    exact ⟨⟨none, true, by simp [State.scanSettlement], hfault', rfl, rfl⟩,
      h.of_scans hfault' (by simp [State.scanSettlement]) (by simp [State.scanSettlement])⟩
  | blank => exact ⟨⟨none, false, by simp [State.scanSettlement], .refl s, rfl, rfl⟩, h⟩
  | empty => exact ⟨⟨none, false, by simp [State.scanSettlement], .refl s, rfl, rfl⟩, h⟩

end Sys2Proof.Machine
end

section
/-! SUPPORT. The whole scan: what stands in the working copies, what is queued, and what is recorded (Table
11-2). -/
namespace Sys2Proof.Machine

variable {s t u : State} {α : Type} {kept : Option Nat} {A S : List Nat}

/-! ### The fault, settings and float records -/

/-- The state in which the fault record is loaded or emptied, before a corrupt one is recorded (R166). -/
def State.faultLoaded (s : State) : State := { s with faults := s.store.fault.validOr {} }

/-- One occurrence for a corrupt record. -/
abbrev Cell.corruptions (c : Cell α) : Nat := if c.isCorrupt then 1 else 0

theorem State.scanFault_scans (s : State) : s.faultLoaded.Scans s.scanFault [] s.store.fault.corruptions := by
  unfold State.scanFault State.faultLoaded
  cases h : s.store.fault with
  | valid f => exact .of_same rfl rfl rfl (FlagsKept.of_ports rfl) rfl
  | blank => exact .of_same rfl rfl rfl (FlagsKept.of_ports rfl) rfl
  | empty => exact .of_same rfl rfl rfl (FlagsKept.of_ports rfl) rfl
  | corrupt i => exact .recordFault _

theorem State.scanSettings_scans (s : State) :
    s.Scans s.scanSettings [] s.store.settings.corruptions ∧
    s.scanSettings.settings = s.store.settings.validOr {} ∧
    ((∀ g, s.store.settings ≠ .valid g) → s.scanSettings.Flagged .office .settingsDefault) := by
  have hdefault : s.Scans (({ s with settings := {} } : State).raise .office .settingsDefault) [] 0 :=
    .of_same rfl rfl rfl ((FlagsKept.of_ports rfl).trans (FlagsKept.raise _ .office .settingsDefault)) rfl
  have hflag := State.raise_flagged ({ s with settings := {} } : State) .office .settingsDefault
  unfold State.scanSettings
  cases h : s.store.settings with
  | valid g => exact ⟨.of_same rfl rfl rfl (FlagsKept.of_ports rfl) rfl, rfl, fun hn => absurd rfl (hn g)⟩
  | blank => exact ⟨hdefault, rfl, fun _ => hflag⟩
  | empty => exact ⟨hdefault, rfl, fun _ => hflag⟩
  | corrupt i =>
    have hrecord := State.Scans.recordFault (({ s with settings := {} } : State).raise .office .settingsDefault)
    exact ⟨hdefault.trans hrecord, by simp [Cell.validOr], fun _ => hrecord.flags _ _ hflag⟩

/-- Whether the scan queues the float record: corrupt, or not valid under a kept float (R55, R190). -/
def Cell.floatQueued (c : Cell Nat) (soft : Bool) : Bool :=
  c.isCorrupt || (soft && match c with
    | .valid _ => false
    | .blank | .empty | .corrupt _ => true)

theorem State.scanFloat_scans (s : State) (soft : Bool) :
    s.Scans (s.scanFloat soft) (if s.store.float.floatQueued soft then [.float] else [])
      s.store.float.corruptions ∧
    (s.scanFloat soft).float = if soft then s.float else s.store.float.validOr 0 := by
  have hset (v : Nat) : s.Scans { s with float := v } [] 0 := .of_same rfl rfl rfl (FlagsKept.of_ports rfl) rfl
  have hcorrupt (y : State) (hy : s.Scans y [] 0) :
      s.Scans ((y.recordFault .storeCorrupt).queueRecord .float) [.float] 1 :=
    (hy.trans (.recordFault y)).trans (.queueRecord _ .float)
  unfold State.scanFloat
  cases h : s.store.float <;> cases soft
  case valid.false v => exact ⟨hset v, rfl⟩
  case valid.true v => exact ⟨.refl s, rfl⟩
  case corrupt.false i => exact ⟨hcorrupt _ (hset 0), by simp [Cell.validOr]⟩
  case corrupt.true i => exact ⟨hcorrupt s (.refl s), by simp⟩
  case blank.false | empty.false => exact ⟨hset 0, rfl⟩
  case blank.true | empty.true => exact ⟨.queueRecord s .float, by simp⟩

/-! ### The whole scan -/

/-- What the scan leaves, with the lists `A` and `S` of the account and settlement records treated as
corrupt. -/
structure State.Rebuilt (t : State) (kept : Option Nat) (A S : List Nat) : Prop where
  accounts : TableRead accountRule t.accounts t.store.accounts A
  debts : TableRead settlementRule t.settlements t.store.settlements S
  restored : t.DebtsRestored
  numbers : (t.dockets.map (·.number)).Nodup
  queued : ∀ r, t.Queued r ↔ (∃ n ∈ A, r = .account n) ∨ (∃ n ∈ S, r = .settlement n) ∨
    (r = .float ∧ t.store.float.floatQueued kept.isSome = true) ∨
    (r = .fault ∧ 0 < t.store.fault.corruptions + t.store.settings.corruptions +
      t.store.float.corruptions + A.length + S.length)
  faults : t.faults = (t.store.fault.validOr {}).corrupted t.yardTime (t.store.fault.corruptions +
    t.store.settings.corruptions + t.store.float.corruptions + A.length + S.length)
  fault : 0 < t.store.fault.corruptions + t.store.settings.corruptions + t.store.float.corruptions +
    A.length + S.length → t.Flagged .office .fault
  settings : t.settings = t.store.settings.validOr {} ∧
    ((∀ g, t.store.settings ≠ .valid g) → t.Flagged .office .settingsDefault)
  float : t.float = kept.getD (t.store.float.validOr 0)

/-- The working copies stand empty, with nothing queued (R190). -/
structure State.Emptied (s : State) : Prop where
  queue : s.commitQueue = [] ∧ s.held = []
  copies : s.accounts = [] ∧ s.settlements = [] ∧ s.dockets = []
  lists : s.finished = [] ∧ s.openDocket = .all none

/-- The scan of a store in its one form, over working copies that stand empty. -/
theorem State.Emptied.rebuilt (h : s.Emptied) (hstore : s.store.Fits) (soft : Bool) :
    ∃ A S, (s.scan soft).Rebuilt (if soft then some s.float else none) A S := by
  obtain ⟨⟨hqueue, hheld⟩, ⟨hacc, hset, hdock⟩, hfin, hopen⟩ := h
  obtain ⟨harise, -, -, hsrise, -, -⟩ := id hstore
  have hledger := State.Ledger.scan hdock hfin hopen hset hstore soft
  have h1 := s.scanFault_scans
  obtain ⟨h2, hsettings, hdefault⟩ := s.scanFault.scanSettings_scans
  obtain ⟨h3, hfloat⟩ := s.scanFault.scanSettings.scanFloat_scans soft
  obtain ⟨hf1, ⟨hd1, hr1⟩, ha1, hv1, -⟩ := s.scanFault_frame
  obtain ⟨hf2, ⟨hd2, hr2⟩, ha2, hv2⟩ := s.scanFault.scanSettings_frame
  obtain ⟨hf3, ⟨hd3, hr3⟩, ha3, hg3⟩ := s.scanFault.scanSettings.scanFloat_frame soft
  have hframe := s.scan_frame soft
  simp only [ScanFrame] at hf1 hf2 hf3 hframe
  have hscan : s.scan soft = s.store.settlements.foldl State.scanSettlement (s.store.accounts.foldl
      State.scanAccount ((s.scanFault.scanSettings).scanFloat soft)) := s.scan_eq soft
  rw [show s.scanFault.store = s.store by simp only [hf1]] at h2 hsettings hdefault
  rw [show s.scanFault.scanSettings.store = s.store by simp only [hf2, hf1]] at h3 hfloat
  have hempty : ((s.scanFault.scanSettings).scanFloat soft).accounts = [] := by rw [ha3, ha2, ha1, hacc]
  obtain ⟨A, hA, hscansA, -⟩ := walk_table (copies := State.accounts) (J := fun _ => True)
    (step := State.scanAccount) (fun s e _ hlow => ⟨s.scanAccount_step e hlow, trivial⟩) hempty trivial harise
  obtain ⟨-, ⟨hd4, hr4⟩, hv4, hg4⟩ :=
    ((s.scanFault.scanSettings).scanFloat soft).scanAccounts_frame s.store.accounts
  rw [hd3, hd2, hd1, hdock] at hd4
  rw [hr3, hr2, hr1, hset] at hr4
  generalize s.store.accounts.foldl State.scanAccount ((s.scanFault.scanSettings).scanFloat soft) = y at *
  have hdebts : y.DebtsRestored := ⟨by rw [hd4, hr4]; rfl, by rw [hr4]; exact nofun⟩
  obtain ⟨S, hS, hscansS, hkept⟩ := walk_table (copies := State.settlements) (J := State.DebtsRestored)
    (step := State.scanSettlement) (fun s e hJ hlow => s.scanSettlement_step e hJ hlow) hr4 hdebts hsrise
  obtain ⟨-, hv5, hg5, ha5⟩ := y.scanSettlements_frame s.store.settlements
  rw [← hscan] at hS hscansS hkept hv5 hg5 ha5
  have hstore' : (s.scan soft).store = s.store := by simp only [hframe]
  have hyard : (s.scan soft).yardTime = s.yardTime := by simp only [hframe]
  have hall := (((h1.trans h2).trans h3).trans hscansA).trans hscansS
  refine ⟨A, S, ?_, ?_, hkept, hledger.numbers, fun r => ?_, ?_, ?_, ?_, ?_⟩
  · rw [ha5, hstore']; exact hA
  · rw [hstore']; exact hS
  · have hnone : ¬ s.faultLoaded.Queued r := by
      simp [State.Queued, State.hasEntry, State.faultLoaded, hqueue, hheld]
    have hsoft : (if soft then some s.float else none : Option Nat).isSome = soft := by cases soft <;> rfl
    have hfloat : r ∈ (if s.store.float.floatQueued soft then [RecordId.float] else []) ↔
        r = .float ∧ s.store.float.floatQueued soft = true := by
      split <;> simp_all
    rw [hall.queued, hstore', hsoft]
    simp only [List.nil_append, List.mem_append, hfloat, List.mem_map, eq_comm (b := r), hnone, false_or,
      Nat.add_assoc, or_assoc, or_left_comm (a := r = RecordId.float ∧ _)]
  · rw [hall.faults, hstore', hyard]; rfl
  · rw [hstore']; exact hall.flag
  · rw [hstore', hg5, hg4, hg3]
    exact ⟨hsettings, fun hn => hscansS.flags _ _ (hscansA.flags _ _ (h3.flags _ _ (hdefault hn)))⟩
  · rw [hv5, hv4, hfloat, hstore', hv2, hv1]
    cases soft <;> rfl

end Sys2Proof.Machine
end

section
/-! SUPPORT. The scan as the statements read it, and the events that do it (R188 to R191). -/
namespace Sys2Proof.Machine

variable {s t u : State} {α : Type} {kept : Option Nat} {A S : List Nat} {n : Nat}

/-! ### Records by number -/

theorem TableRead.at {rule : ScanRule α} {l : Table α} {cells : Table (Cell α)} {bad : List Nat}
    (h : TableRead rule l cells bad) {c : Cell α} (hc : tableGet cells n = some c) :
    rule (Table.below l n) c (tableGet l n) (decide (n ∈ bad)) :=
  h.read (n, c) (tableGet_mem hc)

theorem tableGet_isSome_of_key {l : Table α} (h : n ∈ l.map (·.1)) : tableGet l n ≠ none := by
  obtain ⟨e, he, rfl⟩ := List.mem_map.mp h
  simp only [tableGet, ne_eq, Option.map_eq_none_iff, List.find?_eq_none, not_forall, beq_iff_eq, not_not]
  exact ⟨e, he, rfl⟩

/-- A number that the store does not list gives nothing. -/
theorem TableRead.unlisted {rule : ScanRule α} {l : Table α} {cells : Table (Cell α)} {bad : List Nat}
    (h : TableRead rule l cells bad) (hc : tableGet cells n = none) : tableGet l n = none ∧ n ∉ bad := by
  have hkey : n ∉ cells.map (·.1) := fun hk => tableGet_isSome_of_key hk hc
  exact ⟨tableGet_none fun e he hn => hkey (hn ▸ h.listed e he), fun hb => hkey (h.badListed n hb)⟩

theorem TableRead.bad_lt {rule : ScanRule α} {l : Table α} {cells : Table (Cell α)} {bad : List Nat}
    (h : TableRead rule l cells bad) {bound : Nat} (hb : Table.Below cells bound) : ∀ n ∈ bad, n < bound := by
  intro n hn
  obtain ⟨e, he, rfl⟩ := List.mem_map.mp (h.badListed n hn)
  exact hb e he

/-- The numbers that pass a test are as many as a list of them without repeats. -/
theorem length_filter_range {P : Nat → Prop} [DecidablePred P] {l : List Nat} {b : Nat} (hl : l.Nodup)
    (hb : ∀ n ∈ l, n < b) (hP : ∀ n, P n ↔ n ∈ l) :
    ((List.range b).filter fun n => decide (P n)).length = l.length := by
  refine ((List.perm_ext_iff_of_nodup (List.nodup_range.filter _) hl).mpr fun n => ?_).length_eq
  simp only [List.mem_filter, List.mem_range, decide_eq_true_eq, hP]
  exact ⟨fun h => h.2, fun h => ⟨hb n h, h⟩⟩

theorem Table.loaded_below (l : Table Account) (n id : Nat) :
    Table.Loaded (Table.below l n) id ↔ ∃ e ∈ l, e.1 < n ∧ e.2.haulier = id := by
  simp [Table.Loaded, Table.below, and_assoc]

theorem Table.restored_below (l : Table SettleRecord) (n num : Nat) :
    Table.Restored (Table.below l n) num ↔ ∃ e ∈ l, e.1 < n ∧ e.2.docket = num := by
  simp [Table.Restored, Table.below, and_assoc]

theorem Cell.floatQueued_iff (c : Cell Nat) (soft : Bool) :
    c.floatQueued soft = true ↔ c.isCorrupt = true ∨ soft = true ∧ ∀ v, c ≠ .valid v := by
  cases c <;> simp [Cell.floatQueued, Cell.isCorrupt]

/-! ### What is queued, record by record -/

theorem State.Rebuilt.queued_account (h : t.Rebuilt kept A S) (n : Nat) : t.Queued (.account n) ↔ n ∈ A := by
  rw [h.queued]; simp

theorem State.Rebuilt.queued_settlement (h : t.Rebuilt kept A S) (n : Nat) :
    t.Queued (.settlement n) ↔ n ∈ S := by
  rw [h.queued]; simp

theorem State.Rebuilt.corruptCount (h : t.Rebuilt kept A S) (hstore : t.store.Fits) :
    t.corruptCount = t.store.fault.corruptions + t.store.settings.corruptions + t.store.float.corruptions +
      A.length + S.length := by
  obtain ⟨-, haccounts, -, -, hsettlements, -⟩ := hstore
  rw [State.corruptCount, length_filter_range h.accounts.nodup (h.accounts.bad_lt haccounts) h.queued_account,
    length_filter_range h.debts.nodup (h.debts.bad_lt hsettlements) h.queued_settlement]

/-- A settlement record's docket in the table (R23, R191). -/
theorem State.Rebuilt.docket_restored (h : t.Rebuilt kept A S) {x : SettleRecord}
    (hx : tableGet t.settlements n = some x) :
    t.docket? x.docket = some x.restore := by
  have hmem : x.restore ∈ t.dockets := by
    rw [h.restored.dockets]
    exact List.mem_map.mpr ⟨(n, x), tableGet_mem hx, rfl⟩
  exact State.docket?_of_mem h.numbers hmem

/-- The scan as the statements read it. -/
theorem State.Rebuilt.scanned (h : t.Rebuilt kept A S) (hstore : t.store.Fits) : t.Scanned kept := by
  have hcount := h.corruptCount hstore
  have hfree {β : Type} {w : Option β} {r : RecordId} (hw : w = none) (hq : t.Queued r) :
      t.Freed r w := ⟨hw, hq⟩
  have hentry {r : RecordId} (hr : r.isAccount = false) :=
    (State.queued_iff (s := t) hr).symm.trans (h.queued r)
  have hsettle (r : Nat) : t.hasEntry (.settlement r) = true ↔ r ∈ S :=
    (State.queued_iff (r := .settlement r) rfl).symm.trans (h.queued_settlement r)
  refine ⟨?faults, ?recorded, ?settings, ?float, fun n a hc => ?account, fun n id hc => ?corruptAccount,
    fun n hn hc => ?emptyAccount, fun r x hc => ?settlement, fun r id hc => ?corruptSettlement,
    fun r hr hc => ?emptySettlement, fun d hd => ?dockets⟩
  case faults => rw [hcount]; exact h.faults
  case recorded =>
    rw [hcount]
    refine ⟨?_, h.fault⟩
    rw [Bool.eq_iff_iff, hentry rfl, decide_eq_true_eq]
    simp
  case settings =>
    obtain ⟨hset, hdefault⟩ := h.settings
    refine ⟨hset, Bool.eq_false_iff.mpr fun he => ?_, hdefault⟩
    simpa using (hentry rfl).mp he
  case float =>
    refine ⟨h.float, ?_⟩
    rw [hentry rfl, ← Cell.floatQueued_iff]
    simp
  case account =>
    obtain ⟨hnew, hold⟩ := h.accounts.at hc
    rw [Table.loaded_below] at hnew hold
    simp only [decide_eq_false_iff_not, decide_eq_true_eq, ← h.queued_account] at hnew hold
    exact ⟨hnew, fun hl => hfree (hold hl).1 (hold hl).2⟩
  case corruptAccount =>
    obtain ⟨hnew, hold⟩ := h.accounts.at hc
    rw [Table.loaded_below] at hnew hold
    simp only [decide_eq_true_eq, ← h.queued_account] at hnew hold
    exact ⟨hnew, fun hl => hfree (hold hl).1 (hold hl).2⟩
  case emptyAccount =>
    rw [h.queued_account]
    rcases hc with hc | hc
    · exact h.accounts.unlisted hc
    · simpa [accountRule] using h.accounts.at hc
  case settlement =>
    obtain ⟨hnew, hold⟩ := h.debts.at hc
    rw [Table.restored_below] at hnew hold
    simp only [decide_eq_false_iff_not, decide_eq_true_eq] at hnew hold
    refine ⟨fun hl => ?_, fun hl => hfree (hold hl).1 ((h.queued_settlement r).mpr (hold hl).2)⟩
    obtain ⟨hx, hr⟩ := hnew hl
    exact ⟨hx, Bool.eq_false_iff.mpr fun he => hr ((hsettle r).mp he), h.docket_restored hx,
      h.restored.suspense (r, x) (tableGet_mem hx)⟩
  case corruptSettlement =>
    obtain ⟨hnone, hr⟩ := h.debts.at hc
    exact hfree hnone ((h.queued_settlement r).mpr (of_decide_eq_true hr))
  case emptySettlement =>
    rw [Bool.eq_false_iff, ne_eq, hsettle]
    rcases hc with hc | hc
    · exact h.debts.unlisted hc
    · simpa [settlementRule] using h.debts.at hc
  case dockets =>
    rw [h.restored.dockets] at hd
    obtain ⟨e, he, rfl⟩ := List.mem_map.mp hd
    exact ⟨e, he, rfl⟩

end Sys2Proof.Machine
end

section
/-! SUPPORT. The scan of a store whose records are valid, empty or blank, and the events that scan (R188 to
R191). -/
namespace Sys2Proof.Machine

variable {s t : State} {α : Type} {kept : Option Nat} {A S : List Nat}

/-! ### A store without a corrupt record -/

/-- A rule under which a valid record is loaded unless its name repeats, and nothing else but a corrupt
record gives a working copy. -/
structure ScanRule.Plain (rule : ScanRule α) (name : α → Nat) : Prop where
  new : ∀ l a new q, rule l (.valid a) new q → (¬ ∃ e ∈ l, name e.2 = name a) → new = some a ∧ q = false
  repeated : ∀ l a new q, rule l (.valid a) new q → (∃ e ∈ l, name e.2 = name a) → new = none ∧ q = true
  blank : ∀ l new q, rule l .blank new q → new = none ∧ q = false
  empty : ∀ l new q, rule l .empty new q → new = none ∧ q = false

theorem accountRule_plain : ScanRule.Plain accountRule (·.haulier) :=
  ⟨fun _ _ _ _ h => h.1, fun _ _ _ _ h => h.2, fun _ _ _ h => h, fun _ _ _ h => h⟩

theorem settlementRule_plain : ScanRule.Plain settlementRule (·.docket) :=
  ⟨fun _ _ _ _ h => h.1, fun _ _ _ _ h => h.2, fun _ _ _ h => h, fun _ _ _ h => h⟩

/-- Valid records with distinct names, and no corrupt one: each is loaded, and none is queued. -/
theorem TableRead.intact {rule : ScanRule α} {name : α → Nat} (hrule : ScanRule.Plain rule name) {l : Table α}
    {cells : Table (Cell α)} {bad : List Nat} (h : TableRead rule l cells bad)
    (hsound : ∀ n c, tableGet cells n = some c → ∀ i, c ≠ .corrupt i)
    (hnames : ∀ n k a b, tableGet cells n = some (.valid a) → tableGet cells k = some (.valid b) →
      name a = name b → n = k) :
    bad = [] ∧ ∀ n a, tableGet l n = some a ↔ tableGet cells n = some (.valid a) := by
  have hsource (n : Nat) (a : α) (ha : tableGet l n = some a) : tableGet cells n = some (.valid a) := by
    cases hc : tableGet cells n with
    | none => rw [(h.unlisted hc).1] at ha; cases ha
    | some c =>
      have hr := h.at hc
      rw [ha] at hr
      cases c with
      | valid b =>
        by_cases hrep : ∃ e ∈ Table.below l n, name e.2 = name b
        · cases (hrule.repeated _ _ _ _ hr hrep).1
        · rw [Option.some.inj (hrule.new _ _ _ _ hr hrep).1]
      | blank => cases (hrule.blank _ _ _ hr).1
      | empty => cases (hrule.empty _ _ _ hr).1
      | corrupt i => exact absurd rfl (hsound n _ hc i)
  have hloaded (n : Nat) (a : α) (ha : tableGet cells n = some (.valid a)) :
      tableGet l n = some a ∧ decide (n ∈ bad) = false := by
    refine hrule.new _ _ _ _ (h.at ha) ?_
    rintro ⟨e, he, hname⟩
    obtain ⟨hmem, hlt⟩ := List.mem_filter.mp he
    have hk := hsource e.1 e.2 (h.rising.get hmem)
    exact Nat.ne_of_lt (of_decide_eq_true hlt) (hnames _ _ _ _ hk ha hname)
  refine ⟨List.eq_nil_iff_forall_not_mem.mpr fun n hn => ?_,
    fun n a => ⟨hsource n a, fun ha => (hloaded n a ha).1⟩⟩
  have hq : decide (n ∈ bad) = true := decide_eq_true hn
  cases hc : tableGet cells n with
  | none => exact (h.unlisted hc).2 hn
  | some c =>
    have hr := h.at hc
    rw [hq] at hr
    cases c with
    | valid a => exact absurd hn (of_decide_eq_false (hloaded n a hc).2)
    | blank => cases (hrule.blank _ _ _ hr).2
    | empty => cases (hrule.empty _ _ _ hr).2
    | corrupt i => exact hsound n _ hc i rfl

theorem Cell.isCorrupt_false {c : Cell α} (h : ∀ i, c ≠ .corrupt i) : c.isCorrupt = false := by
  cases c with
  | corrupt i => exact absurd rfl (h i)
  | valid a => rfl
  | blank => rfl
  | empty => rfl

/-- An intact store fills the working copies, and the scan queues and records nothing. -/
theorem State.Rebuilt.intact (h : t.Rebuilt none A S) (hstore : t.store.Intact) :
    (∀ r, ¬ t.Queued r) ∧ t.faults = t.store.fault.validOr {} ∧
    (∀ n a, tableGet t.accounts n = some a ↔ tableGet t.store.accounts n = some (.valid a)) ∧
    ∀ r x, tableGet t.settlements r = some x ↔ tableGet t.store.settlements r = some (.valid x) := by
  obtain ⟨haccounts, hdebts, hfloat, hfault, hsettings, hids, hnumbers⟩ := hstore
  obtain ⟨rfl, hacc⟩ := h.accounts.intact accountRule_plain haccounts hids
  obtain ⟨rfl, hset⟩ := h.debts.intact settlementRule_plain hdebts hnumbers
  have hqueued := h.queued
  have hfaults := h.faults
  simp only [Cell.corruptions, Cell.isCorrupt_false hfloat, Cell.isCorrupt_false hfault,
    Cell.isCorrupt_false hsettings] at hqueued hfaults
  refine ⟨fun r => ?_, ?_, hacc, hset⟩
  · rw [hqueued, Cell.floatQueued_iff, Cell.isCorrupt_false hfloat]
    simp
  · rw [hfaults]
    exact FaultRecord.set_get _ _

/-! ### The events that scan (R188, log entry 8) -/

theorem State.Rebuilt.drivePins (h : t.Rebuilt kept A S) : t.drivePins.Rebuilt kept A S :=
  ⟨h.accounts, h.debts, ⟨h.restored.dockets, h.restored.suspense⟩, h.numbers, h.queued, h.faults, h.fault,
    h.settings, h.float⟩

theorem State.cleared_emptied (s : State) : s.cleared.Emptied := ⟨⟨rfl, rfl⟩, ⟨rfl, rfl, rfl⟩, rfl, rfl⟩

theorem State.drainedOut_emptied (s : State) : s.drainedOut.Emptied :=
  ⟨⟨rfl, rfl⟩, ⟨rfl, rfl, rfl⟩, rfl, rfl⟩

theorem State.scan_store (s : State) (soft : Bool) : (s.scan soft).store = s.store := by
  have hframe := s.scan_frame soft
  simp only [ScanFrame] at hframe
  simp only [hframe]

theorem State.powerUp_store (s : State) : s.powerUp.store = s.cutProgram.store :=
  State.scan_store _ false

theorem State.powerUp_rebuilt (h : s.powerUp.store.Fits) : ∃ A S, s.powerUp.Rebuilt none A S := by
  rw [s.powerUp_store] at h
  obtain ⟨A, S, hrebuilt⟩ := s.cutProgram.cleared_emptied.rebuilt h false
  exact ⟨A, S, hrebuilt.drivePins⟩

theorem State.powerUp_scanned (h : s.powerUp.store.Fits) : s.powerUp.Scanned none := by
  obtain ⟨A, S, hrebuilt⟩ := State.powerUp_rebuilt h
  exact hrebuilt.scanned h

/-- The state that the end of a drain leaves (R188). -/
def State.drainEnded (s : State) : State := (s.lanesToOff.floatToClear.drainedOut.scan true).drivePins

theorem State.lanesToOff_float (s : State) : s.lanesToOff.float = s.float := by
  simp [State.lanesToOff, Lane.list]

theorem State.drainEnded_scanned (h : s.drainEnded.store.Fits) : s.drainEnded.Scanned (some s.float) := by
  have hstore : s.drainEnded.store = s.lanesToOff.floatToClear.drainedOut.store := State.scan_store _ true
  rw [hstore] at h
  obtain ⟨A, S, hrebuilt⟩ := s.lanesToOff.floatToClear.drainedOut_emptied.rebuilt h true
  have hfloat : s.lanesToOff.floatToClear.drainedOut.float = s.float := by
    show s.lanesToOff.floatToClear.float = s.float
    simp [State.floatToClear, s.lanesToOff_float]
  rw [if_pos rfl, hfloat] at hrebuilt
  exact hrebuilt.drivePins.scanned (hstore ▸ h)

theorem exec_softResetDrainEnd (hmode : s.mode = .draining) (hqueue : s.commitQueue = []) (hheld : s.held = [])
    (hprog : s.program = none) : exec .softResetDrainEnd s = .next s.drainEnded :=
  if_pos ⟨hmode, by simp [State.drained, hqueue, hheld, hprog]⟩

theorem exec_resetNReleased (h : s.mode = .resetHeld) :
    exec .resetNReleased s = .next ({ s with resetLow := false } : State).powerUp := by
  refine congrArg _ (if_pos h)

end Sys2Proof.Machine

namespace Sys2Proof.Proofs
open Sys2Proof.Machine

/-- Settles O59: the walk over each table gives every record its rule, and an intact store leaves nothing
queued. -/
theorem scanRebuildsWorkingCopies : Obligations.ScanRebuildsWorkingCopies := by
  refine ⟨fun s => ⟨fun hlow => ?_, fun hmode => ?_, fun hmode hqueue hheld hprog => ?_⟩,
    fun s hstore hmode hprog hintact => ?_⟩
  · exact ⟨s.powerUp, congrArg _ (if_neg (by simp [hlow])), State.powerUp_scanned⟩
  · exact ⟨_, exec_resetNReleased hmode, State.powerUp_scanned⟩
  · exact ⟨_, exec_softResetDrainEnd hmode hqueue hheld hprog, State.drainEnded_scanned⟩
  · have hkept : ({ s with resetLow := false } : State).powerUp.store = s.store := by
      rw [State.powerUp_store, State.cutProgram]
      simp [hprog]
    have hexec := exec_resetNReleased hmode
    obtain ⟨A, S, hrebuilt⟩ := State.powerUp_rebuilt (s := { s with resetLow := false }) (hkept.symm ▸ hstore)
    obtain ⟨hquiet, hfaults, hacc, hset⟩ := hrebuilt.intact (hkept.symm ▸ hintact)
    obtain ⟨hqueue, hheld⟩ := State.queue_empty hquiet
    obtain ⟨hsettings, hdefault⟩ := hrebuilt.settings
    have hfloat := hrebuilt.float
    rw [hkept] at hfaults hacc hset hsettings hdefault hfloat
    refine ⟨_, hexec, hkept, hqueue, hheld, hacc, hset, fun r x hx => ?docket, fun d hd => ?source,
      fun v hv => ?_, fun hb => ?_, fun f hf => ?_, fun hb => ?_, fun g hg => ?_, fun hb => ?_⟩
    case docket =>
      have hread := (hset r x).mpr hx
      exact ⟨hrebuilt.docket_restored hread, hrebuilt.restored.suspense (r, x) (tableGet_mem hread)⟩
    case source =>
      rw [hrebuilt.restored.dockets] at hd
      obtain ⟨e, he, rfl⟩ := List.mem_map.mp hd
      exact ⟨e.1, e.2, (hset e.1 e.2).mp (hrebuilt.debts.rising.get he), rfl⟩
    · rw [hfloat, hv]; rfl
    · rw [hfloat, hb]; rfl
    · rw [hfaults, hf]; rfl
    · rw [hfaults, hb]; rfl
    · rw [hsettings, hg]; rfl
    · exact ⟨by rw [hsettings, hb]; rfl, hdefault fun g hg => by rw [hb] at hg; cases hg⟩

end Sys2Proof.Proofs
end

section
/-! SUPPORT. The settlement figures stage by stage (R26 to R31). -/
namespace Sys2Proof.Machine

/-! ### The gross (R26, R27) -/

theorem toList_eq_map_finRange {α : Type} {n : Nat} (v : Vector α n) :
    v.toList = (List.finRange n).map (v[·]) :=
  List.ext_getElem (by simp) fun i _ _ => by simp

theorem rowsMap_getElem {α β : Type} (v : Vector α 12) (f : α → β) (k : Fin 12) :
    (rowsMap v f)[k] = f v[k] := by
  simp [rowsMap]

/-- The net counts, class by class (R26). -/
theorem Tallies.net_eq (tl : Tallies) :
    tl.net = (List.finRange 12).map fun k => tl.accepted[k] - tl.rejected[k] := by
  rw [Tallies.net, toList_eq_map_finRange, toList_eq_map_finRange, List.zipWith_map, List.zipWith_self]

/-- The gross is summed over the classes, each net count at its rate (R27). -/
theorem Tallies.grossOf_net (tl : Tallies) (g : Settings) : grossOf tl.net g.rates.toList =
    ((List.finRange 12).map fun k => (tl.accepted[k] - tl.rejected[k]) * (g.classes[k]).rate).sum := by
  rw [grossOf, Tallies.net_eq, toList_eq_map_finRange, List.zipWith_map, List.zipWith_self]
  simp only [Settings.rates, rowsMap_getElem]

/-! ### The carry-in (R29) -/

theorem State.carryIn_walkIn (s : State) : s.carryIn 0 = 0 := if_pos rfl

theorem State.carryIn_account {s : State} {haulier r : Nat} {a : Account} (h0 : haulier ≠ 0)
    (ha : s.account? haulier = some (r, a)) : s.carryIn haulier = a.carry := by
  simp [State.carryIn, h0, ha]

/-! ### The cap and the rounding (R30, R31) -/

section
variable {g f carry u k : Nat}

/-- A total above the rounded cap: the cap is paid, and the rest is referred. -/
theorem figuresOf_above (hu : 0 < u) (h : k / u * u < (figuresOf g f carry u k).total) :
    (figuresOf g f carry u k).referred = (figuresOf g f carry u k).total - k / u * u ∧
    (figuresOf g f carry u k).payout = k / u * u ∧ (figuresOf g f carry u k).remainder = 0 := by
  have hmin : min (g - f + carry) (k / u * u) = k / u * u := Nat.min_eq_right (Nat.le_of_lt h)
  have hround : k / u * u / u = k / u := Nat.mul_div_cancel _ hu
  simp [figuresOf, hmin, hround]

/-- A total up to the rounded cap: nothing is referred, and the total is rounded down. -/
theorem figuresOf_within (h : (figuresOf g f carry u k).total ≤ k / u * u) :
    (figuresOf g f carry u k).referred = 0 ∧
    (figuresOf g f carry u k).payout = (figuresOf g f carry u k).total / u * u ∧
    (figuresOf g f carry u k).remainder = (figuresOf g f carry u k).total % u := by
  have hmin : min (g - f + carry) (k / u * u) = g - f + carry := Nat.min_eq_left h
  simp only [figuresOf, hmin, Nat.sub_self, true_and]
  rw [Nat.mul_comm, ← Nat.mod_eq_sub_mul_div]

/-- The payout is a multiple of the rounding unit up to the rounded cap, and less than a unit remains. -/
theorem figuresOf_rounded (hu : 0 < u) :
    u ∣ (figuresOf g f carry u k).payout ∧ (figuresOf g f carry u k).payout ≤ k / u * u ∧
    (figuresOf g f carry u k).remainder < u := by
  refine ⟨Nat.dvd_mul_left .., ?_⟩
  rcases Nat.lt_or_ge (k / u * u) (figuresOf g f carry u k).total with h | h
  · obtain ⟨-, hpayout, hrem⟩ := figuresOf_above hu h
    rw [hpayout, hrem]
    exact ⟨Nat.le_refl _, hu⟩
  · obtain ⟨-, hpayout, hrem⟩ := figuresOf_within h
    rw [hpayout, hrem]
    exact ⟨(Nat.div_mul_le_self ..).trans h, Nat.mod_lt _ hu⟩

end

end Sys2Proof.Machine

namespace Sys2Proof.Proofs
open Sys2Proof.Machine

/-- Settles O30: each figure by its stage, the total above the rounded cap or within it. -/
theorem settlementFigures : Obligations.SettlementFigures := by
  intro s haulier tl hu
  obtain ⟨hidentity, htotal, huncovered⟩ := figuresOf_fits (grossOf tl.net s.settings.rates.toList)
    (tl.foreign * s.settings.foreignFee) (s.carryIn haulier) s.settings.roundUnit s.settings.cap
  exact ⟨tl.grossOf_net s.settings, rfl, huncovered, fun h0 => h0 ▸ s.carryIn_walkIn,
    fun _ _ h0 ha => State.carryIn_account h0 ha, htotal, figuresOf_above hu, figuresOf_within, hidentity,
    figuresOf_rounded hu⟩

end Sys2Proof.Proofs
end

section
/-! SUPPORT. What the outcome of a program does to a waiter's order, to its settlement record and to its port
(Table 4-3, R34, R42, R43). -/
namespace Sys2Proof.Machine

variable {s t : State} {num r : Nat} {w : Waiter} {ok : Bool} {p : Port}

/-! ### The state of one order -/

theorem State.orderState?_congr (h : t.dockets = s.dockets) (m : Nat) :
    t.orderState? m = s.orderState? m := by
  simp only [State.orderState?, State.order?, State.docket?_congr h]

theorem State.docket?_setOrderState (s : State) (num m : Nat) (st : OrderState) :
    (s.setOrderState num st).docket? m = if m = num
      then (s.docket? num).map fun d => { d with order := d.order.map fun o => { o with state := st } }
      else s.docket? m := by
  rw [State.setOrderState, State.updateOrder, State.docket?_updateDocket]
  exact fun _ => rfl

theorem State.orderState?_setOrderState (s : State) (num m : Nat) (st : OrderState) :
    (s.setOrderState num st).orderState? m =
      if m = num then (s.orderState? num).map fun _ => st else s.orderState? m := by
  rw [State.orderState?, State.order?, State.docket?_setOrderState]
  split
  · simp only [State.orderState?, State.order?]
    cases s.docket? num with
    | none => rfl
    | some d => cases h : d.order <;> simp [h]
  · rfl

/-- While another commit of it is outstanding, an order waits on (R34). -/
theorem State.commitDone_waits (h : ∃ v ∈ s.waiters, v.kind = .order num) : s.commitDone num = s :=
  if_pos (by simpa using h)

/-- An order that waits on no commit is left as it is. -/
theorem State.commitDone_settled (h : s.orderState? num ≠ some .pendingCommit) : s.commitDone num = s := by
  simp [State.commitDone, h]

/-- With its last commit an order becomes READY (R34). -/
theorem State.commitDone_last (h : s.orderState? num = some .pendingCommit)
    (hlast : ∀ v ∈ s.waiters, v.kind ≠ .order num) : (s.commitDone num).orderState? num = some .ready := by
  have hnone : (s.waiters.any fun v => v.kind = .order num) = false := by simpa using hlast
  rw [State.commitDone, hnone, if_neg Bool.false_ne_true, if_pos h, State.orderState?_setOrderState, if_pos rfl,
    h]
  rfl

/-- A commit of one order leaves every other order. -/
theorem State.commitDone_other {m : Nat} (h : num ≠ m) : (s.commitDone m).orderState? num =
    s.orderState? num := by
  obtain he | ⟨-, he⟩ := s.commitDone_cases m
  · rw [he]
  · rw [he, State.orderState?_setOrderState, if_neg h]

/-- The end of a hand-over moves its own order alone (R42, R43). -/
theorem State.takeEnds_orderState? (s : State) (num m : Nat) (ok : Bool) : (s.takeEnds m ok).orderState? num =
    if num = m then (s.orderState? m).map fun _ => if ok then .dispensing else .ready
    else s.orderState? num := by
  rw [State.orderState?_congr (s.takeEnds_dockets m ok), State.orderState?_setOrderState]

/-- An answer on a port moves no order and no record. -/
theorem State.waiterEnds_answer (ho : ∀ m, w.kind ≠ .order m) (ht : ∀ m, w.kind ≠ .take m) :
    (State.waiterEnds ok s w).dockets = s.dockets ∧
    (State.waiterEnds ok s w).settlements = s.settlements ∧
    (State.waiterEnds ok s w).orderQueue = s.orderQueue ∧
    (State.waiterEnds ok s w).commitQueue = s.commitQueue := by
  unfold State.waiterEnds
  split
  · exact absurd ‹_› (ho _)
  · exact absurd ‹_› (ht _)
  all_goals simp

/-- The outcome of one waiter, by what it may move: an order that waits, an order in hand, or a port alone. -/
theorem State.waiterEnds_cases (ok : Bool) (s : State) (w : Waiter) :
    (∃ m, w.kind = .order m ∧ State.waiterEnds ok s w = s.commitDone m) ∨
    (∃ m, w.kind = .take m ∧ State.waiterEnds ok s w = s.takeEnds m ok) ∨
    ((∀ m, w.kind ≠ .order m) ∧ (∀ m, w.kind ≠ .take m)) := by
  unfold State.waiterEnds
  cases w.kind <;> simp

/-- A waiter for another docket leaves an order's state. -/
theorem State.waiterEnds_orderState? (ho : w.kind ≠ .order num) (ht : w.kind ≠ .take num) :
    (State.waiterEnds ok s w).orderState? num = s.orderState? num := by
  obtain ⟨m, hk, he⟩ | ⟨m, hk, he⟩ | ⟨hno, hnt⟩ := State.waiterEnds_cases ok s w
  · rw [he, State.commitDone_other fun h => ho (hk.trans (congrArg _ h.symm))]
  · rw [he, State.takeEnds_orderState?, if_neg fun h => ht (hk.trans (congrArg _ h.symm))]
  · exact State.orderState?_congr (State.waiterEnds_answer hno hnt).1 num

/-- A waiter other than a TAKE_ORDER leaves an order that waits on no commit. -/
theorem State.waiterEnds_settled (h : s.orderState? num ≠ some .pendingCommit) (ht : w.kind ≠ .take num) :
    (State.waiterEnds ok s w).orderState? num = s.orderState? num := by
  by_cases ho : w.kind = .order num
  · have he : State.waiterEnds ok s w = s.commitDone num := by rw [State.waiterEnds, ho]
    rw [he, State.commitDone_settled h]
  · exact State.waiterEnds_orderState? ho ht

/-! ### The settlement record of an order handed back (R43) -/

theorem tableGet_map {α : Type} (l : Table α) (f : α → α) (k : Nat) :
    tableGet (l.map fun e => (e.1, f e.2)) k = (tableGet l k).map f := by
  induction l with
  | nil => rfl
  | cons e l ih =>
    rw [List.map_cons, tableGet_cons, tableGet_cons, ih]
    split <;> rfl

/-- A marker is read back from the records of its docket alone. -/
theorem State.setMarker_tableGet (s : State) (num : Nat) (mk : Marker) (k : Nat) :
    tableGet (s.setMarker num mk).settlements k =
      (tableGet s.settlements k).map fun x => if x.docket = num then { x with marker := mk } else x := by
  rw [← tableGet_map, State.setMarker_settlements]
  congr 1
  exact List.map_congr_left fun e _ => by split <;> rfl

theorem State.settlementOf_congr (h : t.settlements = s.settlements) (num : Nat) :
    t.settlementOf num = s.settlementOf num := by
  simp only [State.settlementOf, h]

/-- A marker leaves every record its docket's. -/
theorem State.settlementOf_setMarker (s : State) (num : Nat) (mk : Marker) :
    (s.setMarker num mk).settlementOf num = s.settlementOf num := by
  have hdocket (e : Nat × SettleRecord) : ((if e.2.docket = num then (e.1, { e.2 with marker := mk })
      else e).2.docket == num) = (e.2.docket == num) := by split <;> rfl
  simp only [State.settlementOf, State.setMarker_settlements, List.find?_map, Function.comp_def, hdocket,
    Option.map_map]
  congr 1
  funext e
  split <;> rfl

theorem State.hasEntry_congr (h : t.commitQueue = s.commitQueue) (x : RecordId) :
    t.hasEntry x = s.hasEntry x := by
  simp only [State.hasEntry, h]

/-- The order of a docket is in a state, and record `r` is the docket's. -/
structure State.OrderOn (s : State) (num r : Nat) (st : OrderState) : Prop where
  order : s.orderState? num = some st
  record : s.settlementOf num = some r
  own : (tableGet s.settlements r).map (·.docket) = some num

/-- The order is READY at the head of the queue, and its record, marked OWED, is queued (R43). -/
structure State.BackAtHead (s : State) (num r : Nat) : Prop extends s.OrderOn num r .ready where
  head : s.orderQueue.head? = some num
  entry : s.hasEntry (.settlement r) = true
  marker : (tableGet s.settlements r).map (·.marker) = some .owed

theorem State.OrderOn.returnOrder {st : OrderState} (h : s.OrderOn num r st) :
    (s.returnOrder num).BackAtHead num r := by
  have hrecord : ∀ u : State, u.settlements = s.settlements → (u.setMarker num .owed).settlementOf num = some r :=
    fun u hu => (u.settlementOf_setMarker num .owed).trans ((State.settlementOf_congr hu num).trans h.record)
  have hread := s.setMarker_tableGet num .owed r
  obtain ⟨x, hx, hdocket⟩ := Option.map_eq_some_iff.mp h.own
  rw [hx, Option.map_some, if_pos hdocket, ← State.returnOrder_settlements] at hread
  refine ⟨⟨?_, ?_, ?_⟩, ?_, ?_, ?_⟩
  · rw [State.orderState?_congr (s.returnOrder_dockets num), State.orderState?_setOrderState, if_pos rfl,
      h.order]
    rfl
  · rw [State.settlementOf_congr (s.returnOrder_settlements num)]
    exact hrecord s rfl
  · rw [hread]
    exact congrArg some hdocket
  · simp [State.returnOrder]
  · simp only [State.returnOrder, State.markOwed, State.queueSettlement]
    rw [hrecord _ (by simp)]
    exact State.queueRecord_self _ rfl false
  · rw [hread]
    rfl

/-- A waiter that is not the order's TAKE_ORDER leaves an order that waits on no commit, with its record. -/
theorem State.OrderOn.waiterEnds {st : OrderState} (h : s.OrderOn num r st) (hst : st ≠ .pendingCommit)
    (ht : ∀ m, w.kind ≠ .take m) : (State.waiterEnds ok s w).OrderOn num r st ∧
      (State.waiterEnds ok s w).settlements = s.settlements ∧
      (State.waiterEnds ok s w).orderQueue = s.orderQueue ∧
      (State.waiterEnds ok s w).commitQueue = s.commitQueue := by
  have hbooks : (State.waiterEnds ok s w).settlements = s.settlements ∧
      (State.waiterEnds ok s w).orderQueue = s.orderQueue ∧
      (State.waiterEnds ok s w).commitQueue = s.commitQueue := by
    obtain ⟨m, -, he⟩ | ⟨m, hk, -⟩ | ⟨hno, hnt⟩ := State.waiterEnds_cases ok s w
    · rw [he]; simp
    · exact absurd hk (ht m)
    · exact (State.waiterEnds_answer hno hnt).2
  refine ⟨⟨?_, ?_, ?_⟩, hbooks⟩
  · rw [State.waiterEnds_settled (by rw [h.order]; simpa using hst) (ht num), h.order]
  · rw [State.settlementOf_congr hbooks.1, h.record]
  · rw [hbooks.1, h.own]

theorem State.BackAtHead.waiterEnds (h : s.BackAtHead num r) (ht : ∀ m, w.kind ≠ .take m) :
    (State.waiterEnds ok s w).BackAtHead num r := by
  obtain ⟨hon, hrecords, hqueue, hentries⟩ := h.toOrderOn.waiterEnds (ok := ok) (by decide) ht
  exact ⟨hon, hqueue ▸ h.head, (State.hasEntry_congr hentries _).trans h.entry, hrecords ▸ h.marker⟩

/-- A TAKE_ORDER whose program fails gives its order back (R43). -/
theorem State.OrderOn.takeFails {st : OrderState} (h : s.OrderOn num r st) (hk : w.kind = .take num) :
    (State.waiterEnds false s w).BackAtHead num r := by
  have he : State.waiterEnds false s w =
      (s.returnOrder num).answerWaiting .payout .takeOrder .storeFailed [fixed (be 2 num)] := by
    rw [State.waiterEnds, hk]; rfl
  have h := h.returnOrder
  rw [he]
  refine ⟨⟨?_, ?_, ?_⟩, ?_, ?_, ?_⟩
  · exact (State.orderState?_congr (by simp) num).trans h.order
  · exact (State.settlementOf_congr (by simp) num).trans h.record
  · simpa using h.own
  · simpa using h.head
  · exact (State.hasEntry_congr (by simp) _).trans h.entry
  · simpa using h.marker

/-! ### The answer on a waiter's port -/

/-- What a result of a waiter may show of a docket. -/
def Docket.slip (d : Docket) : Nat × Lane × Option Figures := (d.haulier, d.lane, d.figures)

/-- Every docket shows the same. -/
abbrev SameSlips (s t : State) : Prop := ∀ m, (t.docket? m).map Docket.slip = (s.docket? m).map Docket.slip

theorem SameSlips.of_dockets (h : t.dockets = s.dockets) : SameSlips s t := fun m => by
  rw [State.docket?_congr h]

theorem SameSlips.docket? (h : SameSlips s t) {m : Nat} (hd : s.docket? m ≠ none) :
    t.docket? m ≠ none := fun hnone => hd (by simpa [hnone] using (h m).symm)

theorem SameSlips.setOrderState (s : State) (num : Nat) (st : OrderState) :
    SameSlips s (s.setOrderState num st) := by
  intro m
  rw [State.docket?_setOrderState]
  split
  · rw [Option.map_map, ‹m = num›]; rfl
  · rfl

theorem SameSlips.waiterEnds (ok : Bool) (s : State) (w : Waiter) : SameSlips s (State.waiterEnds ok s w) := by
  obtain ⟨m, -, he⟩ | ⟨m, -, he⟩ | ⟨hno, hnt⟩ := State.waiterEnds_cases ok s w
  · rw [he]
    obtain hc | ⟨-, hc⟩ := s.commitDone_cases m
    · rw [hc]; exact fun _ => rfl
    · rw [hc]; exact SameSlips.setOrderState s m .ready
  · intro k
    rw [he, State.docket?_congr (s.takeEnds_dockets m ok)]
    exact SameSlips.setOrderState s m _ k
  · exact SameSlips.of_dockets (State.waiterEnds_answer hno hnt).1

/-- A waiter's result depends on what its docket shows. -/
theorem SameSlips.waiterResult (h : SameSlips s t) (k : WaitKind) (ok : Bool) :
    t.waiterResult k ok = s.waiterResult k ok := by
  cases k with
  | take num =>
    have hslip := h num
    simp only [State.waiterResult, State.payoutOf]
    cases hs : s.docket? num <;> cases ht : t.docket? num <;> simp_all [Docket.slip]
  | _ => rfl

/-- The body of an accepted TAKE_ORDER makes the result that Table 10-8 gives. -/
theorem State.takeBody_result (h : s.docket? num ≠ none) :
    resultBytes CommandCode.takeOrder.byte .ok (s.takeBody num) = s.waiterResult (.take num) true := by
  obtain ⟨d, hd⟩ := Option.ne_none_iff_exists'.mp h
  simp only [State.takeBody, hd, resultBytes_fixed, State.waiterResult, List.length_append, be_length]
  simp [CommandCode.byte, ResultCode.byte]

theorem State.answerWaiting_shows (h : (s.ports.get p).phase = .executing) (c : CommandCode)
    (rc : ResultCode) (b : Body) : (s.answerWaiting p c rc b).Shows p (resultBytes c.byte rc b) := by
  rw [State.answerWaiting, if_pos h]
  exact s.respond_shows p c rc b

/-- A port that is not the command's, or does not wait, is left as it is. -/
theorem State.answerWaiting_port {q : Port} (h : q = p → (s.ports.get p).phase ≠ .executing)
    (c : CommandCode) (rc : ResultCode) (b : Body) :
    (s.answerWaiting q c rc b).ports.get p = s.ports.get p := by
  unfold State.answerWaiting
  split
  · have hne : p ≠ q := fun he => h he.symm (he ▸ ‹_›)
    rw [State.respond_ports, PerPort.get_set, if_neg hne]
  · rfl

/-- The port that waits on a program is shown the waiter's result (Table 4-3). -/
theorem State.waiterEnds_shows (hp : w.kind.port = some p) (hphase : (s.ports.get p).phase = .executing)
    (hdocket : ∀ num, w.kind = .take num → s.docket? num ≠ none) :
    (State.waiterEnds ok s w).Shows p (s.waiterResult w.kind ok) := by
  unfold State.waiterEnds
  cases hk : w.kind with
  | order num => rw [hk] at hp; cases hp
  | take num =>
    obtain rfl : Port.payout = p := by simpa [hk, WaitKind.port] using hp
    cases ok
    · have hshows := State.answerWaiting_shows (s := s.returnOrder num) (p := .payout)
        (by simpa using hphase) .takeOrder .storeFailed [fixed (be 2 num)]
      rw [resultBytes_fixed, be_length] at hshows
      exact hshows
    · have hslips := SameSlips.setOrderState s num .dispensing
      have hshows := State.answerWaiting_shows (s := s.setOrderState num .dispensing) (p := .payout)
        (by simpa using hphase) .takeOrder .ok ((s.setOrderState num .dispensing).takeBody num)
      rw [State.takeBody_result (hslips.docket? (hdocket num hk)), hslips.waiterResult] at hshows
      exact hshows
  | confirm num late float =>
    obtain rfl : Port.payout = p := by simpa [hk, WaitKind.port] using hp
    have hshows := State.answerWaiting_shows hphase .confirmPayout (confirmCode late ok)
      [fixed (be 2 num ++ be 4 float)]
    rw [resultBytes_fixed, List.length_append, be_length, be_length] at hshows
    cases late <;> cases ok <;> exact hshows
  | resolve num float =>
    obtain rfl : Port.office = p := by simpa [hk, WaitKind.port] using hp
    have hshows := State.answerWaiting_shows hphase .resolveSuspense (confirmCode true ok)
      [fixed (be 2 num ++ be 4 float)]
    rw [resultBytes_fixed, List.length_append, be_length, be_length] at hshows
    cases ok <;> exact hshows
  | loadFloat float =>
    obtain rfl : Port.office = p := by simpa [hk, WaitKind.port] using hp
    have hshows := State.answerWaiting_shows hphase .loadFloat (if ok then .ok else .okUnstored)
      [fixed (be 4 float)]
    rw [resultBytes_fixed, be_length] at hshows
    cases ok <;> exact hshows
  | accountEdit c =>
    obtain rfl : Port.office = p := by simpa [hk, WaitKind.port] using hp
    have hshows := State.answerWaiting_shows hphase c (if ok then .ok else .storeFailed) []
    cases ok <;> exact hshows
  | storeSettings =>
    obtain rfl : Port.office = p := by simpa [hk, WaitKind.port] using hp
    have hshows := State.answerWaiting_shows hphase .storeSettings (if ok then .ok else .storeFailed) []
    cases ok <;> exact hshows

/-- A port that is not the waiter's, or does not wait, is left as it is. -/
theorem State.waiterEnds_port (h : w.kind.port = some p → (s.ports.get p).phase ≠ .executing) :
    (State.waiterEnds ok s w).ports.get p = s.ports.get p := by
  unfold State.waiterEnds
  cases hk : w.kind with
  | order num => exact congrArg (PerPort.get · p) (by simp)
  | take num =>
    have hport : Port.payout = p → (s.ports.get p).phase ≠ .executing := fun he => h (by rw [hk, ← he]; rfl)
    cases ok
    · exact (State.answerWaiting_port (s := s.returnOrder num) (by simpa using hport) ..).trans (by simp)
    · exact (State.answerWaiting_port (s := s.setOrderState num .dispensing) (by simpa using hport) ..).trans
        (by simp)
  | _ => exact State.answerWaiting_port (fun he => h (by rw [hk, ← he]; rfl)) ..

end Sys2Proof.Machine
end

section
/-! SUPPORT. The end of a program, and what all its waiters together receive (R68 to R71, Table 4-3). -/
namespace Sys2Proof.Machine

variable {s t u : State} {g : Program} {ok : Bool} {num r : Nat} {w : Waiter} {p : Port}

/-! ### A list of outcomes -/

/-- What one outcome of a list brings about, and every other keeps, stands at the end. -/
theorem foldl_reaches {α β : Type} {f : β → α → β} {P Q : β → Prop} {l : List α} {a : α} (ha : a ∈ l)
    (keep : ∀ x ∈ l, ∀ b, P b → P (f b x) ∨ Q (f b x)) (turn : ∀ b, P b → Q (f b a))
    (stay : ∀ x ∈ l, ∀ b, Q b → Q (f b x)) {b : β} (h : P b) : Q (l.foldl f b) := by
  induction l generalizing b with
  | nil => cases ha
  | cons x l ih =>
    have hlast (hq : Q (f b x)) : Q (l.foldl f (f b x)) :=
      List.foldlRecOn (motive := Q) l f hq fun c hc y hy => stay y (List.mem_cons_of_mem x hy) c hc
    rcases List.mem_cons.mp ha with rfl | hmem
    · exact hlast (turn b h)
    · rcases keep x List.mem_cons_self b h with hp | hq
      · exact ih hmem (fun y hy => keep y (List.mem_cons_of_mem x hy))
          (fun y hy => stay y (List.mem_cons_of_mem x hy)) hp
      · exact hlast hq

/-- The waiters that a program's end leaves waiting (R70). -/
theorem State.waitersEnd_waiters (s : State) (x : RecordId) (ok : Bool) :
    (s.waitersEnd x ok).waiters = s.waiters.filter fun v => !(v.begun && v.record = x) := by
  simp [State.waitersEnd]

/-- A waiter that had to wait for another program, or for one that had not begun, still waits (R70). -/
theorem State.waitersEnd_waits {v : Waiter} {x : RecordId} (hv : v ∈ s.waiters)
    (hnot : v.begun = false ∨ v.record ≠ x) (ok : Bool) : v ∈ (s.waitersEnd x ok).waiters := by
  rw [State.waitersEnd_waiters]
  refine List.mem_filter.mpr ⟨hv, ?_⟩
  rcases hnot with h | h <;> simp [h]

theorem State.waitersEnd_left {v : Waiter} {x : RecordId} (hv : v ∈ (s.waitersEnd x ok).waiters) :
    v ∈ s.waiters ∧ ¬ (v.begun = true ∧ v.record = x) := by
  rw [State.waitersEnd_waiters] at hv
  obtain ⟨hmem, hnot⟩ := List.mem_filter.mp hv
  exact ⟨hmem, fun ⟨hbegun, hrecord⟩ => by simp [hbegun, hrecord] at hnot⟩

/-- What the outcome of one waiter brings about, and those of all others keep, a program's end brings
about. -/
theorem State.waitersEnd_reaches {P Q : State → Prop} {x : RecordId} (hw : w ∈ s.waiters)
    (hbegun : w.begun = true) (hrecord : w.record = x)
    (keep : ∀ v ∈ s.waiters, ∀ u, P u → P (State.waiterEnds ok u v) ∨ Q (State.waiterEnds ok u v))
    (turn : ∀ u, P u → Q (State.waiterEnds ok u w))
    (stay : ∀ v ∈ s.waiters, ∀ u, Q u → Q (State.waiterEnds ok u v))
    (h : P { s with waiters := (s.waitersEnd x ok).waiters }) : Q (s.waitersEnd x ok) := by
  rw [State.waitersEnd_waiters] at h
  exact foldl_reaches (List.mem_filter.mpr ⟨hw, by simp [hbegun, hrecord]⟩)
    (fun v hv => keep v (List.mem_of_mem_filter hv)) turn (fun v hv => stay v (List.mem_of_mem_filter hv)) h

/-! ### What each waiter receives -/

section
variable {x : RecordId} (hw : w ∈ s.waiters) (hbegun : w.begun = true) (hrecord : w.record = x)
include hw hbegun hrecord

/-- The last commit of a PENDING_COMMIT order makes it READY (R34). -/
theorem State.waitersEnd_order_last (htakes : ∀ v ∈ s.waiters, v.kind ≠ .take num)
    (hk : w.kind = .order num) (hst : s.orderState? num = some .pendingCommit)
    (hlast : ∀ v ∈ (s.waitersEnd x ok).waiters, v.kind ≠ .order num) :
    (s.waitersEnd x ok).orderState? num = some .ready := by
  have hturn (v : Waiter) (hv : v.kind = .order num) (u : State)
      (hu : u.orderState? num = some .pendingCommit ∧ ∀ v ∈ u.waiters, v.kind ≠ .order num) :
      (State.waiterEnds ok u v).orderState? num = some .ready := by
    rw [State.waiterEnds, hv]
    exact State.commitDone_last hu.1 hu.2
  refine State.waitersEnd_reaches
    (P := fun u => u.orderState? num = some .pendingCommit ∧ ∀ v ∈ u.waiters, v.kind ≠ .order num)
    (Q := fun u => u.orderState? num = some .ready) hw hbegun hrecord
    (fun v hv u hu => ?_) (hturn w hk) (fun v hv u hu => ?_) ⟨hst, hlast⟩
  · by_cases ho : v.kind = .order num
    · exact .inr (hturn v ho u hu)
    · refine .inl ⟨(State.waiterEnds_orderState? ho (htakes v hv)).trans hu.1, ?_⟩
      simpa using hu.2
  · exact (State.waiterEnds_settled (by rw [hu]; decide) (htakes v hv)).trans hu

/-- While another commit is outstanding the order stays PENDING_COMMIT (R34). -/
theorem State.waitersEnd_order_waits (htakes : ∀ v ∈ s.waiters, v.kind ≠ .take num)
    (hst : s.orderState? num = some .pendingCommit)
    (hmore : ∃ v ∈ (s.waitersEnd x ok).waiters, v.kind = .order num) :
    (s.waitersEnd x ok).orderState? num = some .pendingCommit := by
  have hstay (v : Waiter) (hv : v ∈ s.waiters) (u : State)
      (hu : u.orderState? num = some .pendingCommit ∧ ∃ v ∈ u.waiters, v.kind = .order num) :
      (State.waiterEnds ok u v).orderState? num = some .pendingCommit ∧
        ∃ v' ∈ (State.waiterEnds ok u v).waiters, v'.kind = .order num := by
    refine ⟨?_, by simpa using hu.2⟩
    by_cases ho : v.kind = .order num
    · rw [State.waiterEnds, ho]
      exact (congrArg (State.orderState? · num) (State.commitDone_waits hu.2)).trans hu.1
    · exact (State.waiterEnds_orderState? ho (htakes v hv)).trans hu.1
  exact (State.waitersEnd_reaches
    (P := fun u => u.orderState? num = some .pendingCommit ∧ ∃ v ∈ u.waiters, v.kind = .order num)
    (Q := fun u => u.orderState? num = some .pendingCommit ∧ ∃ v ∈ u.waiters, v.kind = .order num)
    hw hbegun hrecord (fun v hv u hu => .inl (hstay v hv u hu)) (hstay w hw) hstay ⟨hst, hmore⟩).1

/-- An order whose TAKE_ORDER's program completes is DISPENSING (R42). -/
theorem State.waitersEnd_take_completes (hk : w.kind = .take num)
    (hst : s.orderState? num = some .offered) :
    (s.waitersEnd x true).orderState? num = some .dispensing := by
  have hturn (v : Waiter) (hv : v.kind = .take num) (u : State) (hu : (u.orderState? num).isSome) :
      (State.waiterEnds true u v).orderState? num = some .dispensing := by
    obtain ⟨st, hst⟩ := Option.isSome_iff_exists.mp hu
    rw [State.waiterEnds, hv]
    exact (u.takeEnds_orderState? num num true).trans (by simp [hst])
  refine State.waitersEnd_reaches (P := fun u => u.orderState? num = some .offered)
    (Q := fun u => u.orderState? num = some .dispensing) hw hbegun hrecord (fun v hv u hu => ?_)
    (fun u hu => hturn w hk u (by rw [hu]; rfl)) (fun v hv u hu => ?_) hst
  · by_cases ht : v.kind = .take num
    · exact .inr (hturn v ht u (by rw [hu]; rfl))
    · exact .inl ((State.waiterEnds_settled (by rw [hu]; decide) ht).trans hu)
  · by_cases ht : v.kind = .take num
    · exact hturn v ht u (by rw [hu]; rfl)
    · exact (State.waiterEnds_settled (by rw [hu]; decide) ht).trans hu

/-- An order whose only TAKE_ORDER's program fails is back at the head of the queue (R43). -/
theorem State.waitersEnd_take_fails (hk : w.kind = .take num)
    (honly : ∀ v ∈ s.waiters, ∀ m, v.kind = .take m → v = w) (h : s.OrderOn num r .offered) :
    (s.waitersEnd x false).BackAtHead num r := by
  refine State.waitersEnd_reaches (P := fun u => u.OrderOn num r .offered)
    (Q := fun u => u.BackAtHead num r) hw hbegun hrecord (fun v hv u hu => ?_)
    (fun u hu => hu.takeFails hk) (fun v hv u hu => ?_) ⟨h.order, h.record, h.own⟩
  · by_cases hvw : v = w
    · exact .inr (hu.takeFails (hvw ▸ hk))
    · exact .inl (hu.waiterEnds (by decide) fun m hm => hvw (honly v hv m hm)).1
  · by_cases hvw : v = w
    · exact hu.toOrderOn.takeFails (hvw ▸ hk)
    · exact hu.waiterEnds fun m hm => hvw (honly v hv m hm)

/-- A port on which one command waits is shown its result (Table 4-3). -/
theorem State.waitersEnd_shows (hp : w.kind.port = some p) (hphase : (s.ports.get p).phase = .executing)
    (hdocket : ∀ m, w.kind = .take m → s.docket? m ≠ none)
    (honly : ∀ v ∈ s.waiters, v.kind.port = some p → v = w) :
    (s.waitersEnd x ok).Shows p (s.waiterResult w.kind ok) := by
  have hturn (u : State) (hu : (u.ports.get p).phase = .executing ∧ SameSlips s u) :
      (State.waiterEnds ok u w).Shows p (s.waiterResult w.kind ok) := by
    rw [← hu.2.waiterResult]
    exact State.waiterEnds_shows hp hu.1 fun m hm => hu.2.docket? (hdocket m hm)
  refine State.waitersEnd_reaches
    (P := fun u => (u.ports.get p).phase = .executing ∧ SameSlips s u)
    (Q := fun u => u.Shows p (s.waiterResult w.kind ok)) hw hbegun hrecord (fun v hv u hu => ?_)
    hturn (fun v hv u hu => ?_) ⟨hphase, fun _ => rfl⟩
  · by_cases hvw : v = w
    · exact .inr (hvw ▸ hturn u hu)
    · have hport := State.waiterEnds_port (ok := ok) (s := u) fun h => absurd (honly v hv h) hvw
      exact .inl ⟨hport ▸ hu.1, fun m => (SameSlips.waiterEnds ok u v m).trans (hu.2 m)⟩
  · have hport := State.waiterEnds_port (ok := ok) (s := u) (w := v) (p := p) fun _ => by rw [hu.1]; decide
    rw [State.Shows, hport]
    simpa using hu

end

/-! ### The end of a program around its waiters (R68, R69, R71) -/

/-- The dockets, the orders, their records and the ports' commands stand as they were. -/
structure SameBusiness (s t : State) : Prop where
  dockets : t.dockets = s.dockets
  settlements : t.settlements = s.settlements
  orderQueue : t.orderQueue = s.orderQueue
  settings : t.settings = s.settings
  phases : SamePhases s t

theorem SameBusiness.trans (h : SameBusiness s t) (h' : SameBusiness t u) : SameBusiness s u :=
  ⟨h'.dockets.trans h.dockets, h'.settlements.trans h.settlements, h'.orderQueue.trans h.orderQueue,
    h'.settings.trans h.settings, h.phases.trans h'.phases⟩

theorem SameBusiness.orderState? (h : SameBusiness s t) (num : Nat) :
    t.orderState? num = s.orderState? num := State.orderState?_congr h.dockets num

theorem SameBusiness.shows (h : SameBusiness s t) {bs : List Byte} (hs : s.Shows p bs) : t.Shows p bs := by
  obtain ⟨hphase, hresult, hhold⟩ := h.phases p
  rw [State.Shows, hphase, hresult, hhold, h.settings]
  exact hs

theorem State.verifyFault_samePhases (s : State) (x : RecordId) : SamePhases s (s.verifyFault x) := by
  unfold State.verifyFault
  split
  · obtain ⟨-, hphases, -⟩ := s.noteFault_beside s.faults .storeVerify .l0
    exact hphases
  · obtain ⟨-, hphases, -⟩ := s.recordFault_beside s.faults .storeVerify .l0
    exact hphases

theorem State.freeze_samePhases (s : State) (x : RecordId) : SamePhases s (s.freeze x) := by
  unfold State.freeze
  repeat' split
  any_goals exact fun _ => ⟨rfl, rfl, rfl⟩
  exact State.raise_samePhases { s with accounts := _ } .office .accountFrozen

/-- The state in which the entry of a program that has ended has left the head of the queue, before the
program's waiters receive its outcome. -/
def State.entryEnded (s : State) (g : Program) (ok : Bool) : State :=
  if ok then { s with program := none, store := s.store.write g.record g.image : State }.entryEnds
  else ((({ s with program := none }).leaveFailed g).verifyFault g.record).entryEnds

theorem State.entryEnded_business (s : State) (g : Program) (ok : Bool) :
    SameBusiness s (s.entryEnded g ok) ∧ (s.entryEnded g ok).waiters = s.waiters := by
  unfold State.entryEnded
  cases ok
  · refine ⟨⟨by simp, by simp, by simp, by simp, ?_⟩, by simp⟩
    have hphases := (({ s with program := none }).leaveFailed g).verifyFault_samePhases g.record
    simpa [SamePhases] using hphases
  · exact ⟨⟨by simp, by simp, by simp, by simp, fun _ => by simp⟩, by simp⟩

theorem State.programCompletes_eq (s : State) (g : Program) :
    s.programCompletes g = (s.entryEnded g true).waitersEnd g.record true := rfl

theorem State.programFails_eq (s : State) (g : Program) :
    s.programFails g = ((s.entryEnded g false).waitersEnd g.record false).freeze g.record := rfl

/-- The beginning of a program leaves what every waiter waits for (R70). -/
@[simp] theorem State.beginProgram_kinds (s : State) :
    s.beginProgram.waiters.map (·.kind) = s.waiters.map (·.kind) := by
  unfold State.beginProgram
  split
  · split
    · rw [List.map_map]
      exact List.map_congr_left fun v _ => by simp only [Function.comp_apply]; split <;> rfl
    · rfl
  · rfl

@[simp] theorem State.conclude_kinds (b a : State) :
    (State.conclude b a).waiters.map (·.kind) = a.waiters.map (·.kind) := by
  simp [State.conclude]

theorem SameBusiness.conclude (b a : State) : SameBusiness a (State.conclude b a) :=
  ⟨by simp, by simp, by simp, by simp, State.conclude_samePhases b a⟩

/-- After the outcomes of the waiters the end of a program leaves the business, the queued records and the
waiters as they are. -/
structure State.EndsAs (s t : State) : Prop extends SameBusiness s t where
  entries : ∀ x, t.hasEntry x = s.hasEntry x
  waits : WaitsKept s t
  kinds : t.waiters.map (·.kind) = s.waiters.map (·.kind)

/-- A program that completes, and one whose second attempt fails by its read-back or by its limit, gives its
waiters their outcome (R68, R70). -/
theorem exec_programEnds {i : Instr} (hg : s.program = some g)
    (hi : i = .programAttemptEnd ok ∨ (ok = false ∧ i = .programAttemptTimeout))
    (hsecond : ok = false → g.attempt = .second) :
    ∃ t, exec i s = .next t ∧ ((s.entryEnded g ok).waitersEnd g.record ok).EndsAs t := by
  cases ok with
  | true =>
    obtain rfl : i = .programAttemptEnd true := by simpa using hi
    refine ⟨State.conclude s (s.programCompletes g), ?_, SameBusiness.conclude _ _,
      State.conclude_hasEntry _ _, fun _ _ => State.conclude_waitsFor s, State.conclude_kinds _ _⟩
    show execProgramAttemptEnd true s = _
    simp only [execProgramAttemptEnd, hg, if_true]
  | false =>
    have hfails : s.attemptFails g = State.conclude s (s.programFails g) := by
      rw [State.attemptFails, hsecond rfl]
    have hends : SameBusiness ((s.entryEnded g false).waitersEnd g.record false) (s.programFails g) :=
      ⟨by simp [State.programFails_eq], by simp [State.programFails_eq], by simp [State.programFails_eq],
        by simp [State.programFails_eq], State.freeze_samePhases _ _⟩
    have hwaiters : (s.programFails g).waiters =
        ((s.entryEnded g false).waitersEnd g.record false).waiters := by simp [State.programFails_eq]
    refine ⟨State.conclude s (s.programFails g), ?_, hends.trans (SameBusiness.conclude _ _), fun x => ?_,
      (WaitsKept.of_waiters hwaiters).trans fun _ _ => State.conclude_waitsFor s,
      by rw [State.conclude_kinds, hwaiters]⟩
    · obtain rfl | ⟨-, rfl⟩ := hi
      · show execProgramAttemptEnd false s = _
        simp only [execProgramAttemptEnd, hg, Bool.false_eq_true, if_false, hfails]
      · show execProgramAttemptTimeout s = _
        simp only [execProgramAttemptTimeout, hg, hfails]
    · rw [State.conclude_hasEntry]
      exact State.hasEntry_congr (by simp [State.programFails_eq]) x

/-! ### What the invariants say of the waiters (R34, R41) -/

/-- A waiting TAKE_ORDER waits for an OFFERED order. -/
theorem State.Fits.take_offered (h : s.Fits) (hw : w ∈ s.waiters) (hk : w.kind = .take num) :
    s.orderState? num = some .offered := by
  obtain ⟨-, -, htakes, -⟩ := h.orders
  simpa [State.takeFits, hk] using htakes w hw

theorem eq_of_mem_of_length_le_one {α : Type} {l : List α} (h : l.length ≤ 1) {a b : α} (ha : a ∈ l)
    (hb : b ∈ l) : a = b :=
  match l, h with
  | [_], _ => (List.mem_singleton.mp ha).trans (List.mem_singleton.mp hb).symm

/-- At most one TAKE_ORDER waits. -/
theorem State.Fits.take_only (h : s.Fits) (hw : w ∈ s.waiters) (hk : w.kind = .take num) :
    ∀ v ∈ s.waiters, ∀ m, v.kind = .take m → v = w := by
  obtain ⟨-, hone, -⟩ := h.orders
  have hmem {v : Waiter} {m : Nat} (hv : v ∈ s.waiters) (hm : v.kind = .take m) :
      v ∈ s.waiters.filter Waiter.isTake := List.mem_filter.mpr ⟨hv, by simp [Waiter.isTake, hm]⟩
  exact fun v hv m hm => eq_of_mem_of_length_le_one hone (hmem hv hm) (hmem hw hk)

/-- An OFFERED order has its settlement record. -/
theorem State.Fits.offered_on (h : s.Fits) (hst : s.orderState? num = some .offered) :
    ∃ r, s.OrderOn num r .offered := by
  obtain ⟨d, hd, hs, -⟩ := h.ledger.awaiting_of_order hst (by decide)
  obtain ⟨e, he, hed⟩ := (h.ledger.records num).mpr ⟨d, hd, hs⟩
  obtain ⟨r, hr⟩ := State.settlementOf_of_mem he hed
  obtain ⟨x, hx, hdocket⟩ := State.settlementOf_spec hr
  obtain ⟨-, -, -, -, hrise, -⟩ := h.tables
  exact ⟨r, hst, hr, by rw [hrise.get hx]; exact congrArg some hdocket⟩

theorem State.docket?_of_orderState? {st : OrderState} (h : s.orderState? num = some st) :
    s.docket? num ≠ none := by
  obtain ⟨d, hd, -⟩ := State.orderState?_eq_some.mp h
  rw [hd]
  exact Option.some_ne_none d

end Sys2Proof.Machine

namespace Sys2Proof.Proofs
open Sys2Proof.Machine

/-- Settles O40: the program's end hands its outcome to the waiters one by one, and the outcome of each
waiter is kept by those of the others. -/
theorem waitersReceiveTheirOutcome : Obligations.WaitersReceiveTheirOutcome := by
  intro s g ok i w hs hg hi hsecond hw hbegun hrecord
  obtain ⟨t, hexec, hends⟩ := exec_programEnds hg hi hsecond
  obtain ⟨hsame, hwaiters⟩ := s.entryEnded_business g ok
  generalize hb : s.entryEnded g ok = b at hends hsame hwaiters
  have hw' : w ∈ b.waiters := hwaiters ▸ hw
  refine ⟨t, hexec, fun num hk hst => ?order, fun num hk hok => ?completes, fun num hk hok => ?fails,
    fun p hp hphase honly => ?port⟩
  case order =>
    have htakes (v : Waiter) (hv : v ∈ b.waiters) : v.kind ≠ .take num := fun ht => by
      have := hs.take_offered (hwaiters ▸ hv) ht
      rw [hst] at this
      cases this
    have hpending : b.orderState? num = some .pendingCommit := (hsame.orderState? num).trans hst
    refine ⟨fun hall => ?_, fun v hv hvk hnot => ?_⟩
    · have hlast (v : Waiter) (hv : v ∈ (b.waitersEnd g.record ok).waiters) : v.kind ≠ .order num :=
        fun hvk => by
          obtain ⟨hmem, hleft⟩ := State.waitersEnd_left hv
          exact hleft (hall v (hwaiters ▸ hmem) hvk)
      refine ⟨(hends.orderState? num).trans
        (State.waitersEnd_order_last hw' hbegun hrecord htakes hk hpending hlast), fun v hv hvk => ?_⟩
      have hkind : v.kind ∈ t.waiters.map (·.kind) := List.mem_map_of_mem hv
      rw [hends.kinds] at hkind
      obtain ⟨v', hv', hk'⟩ := List.mem_map.mp hkind
      exact hlast v' hv' (hk'.trans hvk)
    · have hleft := State.waitersEnd_waits (hwaiters ▸ hv) hnot ok
      exact ⟨(hends.orderState? num).trans
        (State.waitersEnd_order_waits hw' hbegun hrecord htakes hpending ⟨v, hleft, hvk⟩),
        hends.waits _ _ ⟨v, hleft, rfl, hvk⟩⟩
  case completes =>
    subst hok
    exact (hends.orderState? num).trans (State.waitersEnd_take_completes hw' hbegun hrecord hk
      ((hsame.orderState? num).trans (hs.take_offered hw hk)))
  case fails =>
    subst hok
    obtain ⟨r, hon⟩ := hs.offered_on (hs.take_offered hw hk)
    have hon' : b.OrderOn num r .offered := ⟨(hsame.orderState? num).trans hon.order,
      (State.settlementOf_congr hsame.settlements num).trans hon.record, hsame.settlements ▸ hon.own⟩
    have hback := State.waitersEnd_take_fails hw' hbegun hrecord hk
      (fun v hv => hs.take_only hw hk v (hwaiters ▸ hv)) hon'
    exact ⟨(hends.orderState? num).trans hback.order, hends.orderQueue ▸ hback.head, r, hon.record,
      (hends.entries _).trans hback.entry, hends.settlements ▸ hback.marker⟩
  case port =>
    obtain ⟨hphase', -, -⟩ := hsame.phases p
    have hshows := State.waitersEnd_shows (ok := ok) hw' hbegun hrecord hp (hphase'.trans hphase)
      (fun m hm => by
        rw [State.docket?_congr hsame.dockets]
        exact State.docket?_of_orderState? (hs.take_offered hw hm))
      (fun v hv => honly v (hwaiters ▸ hv))
    rw [(SameSlips.of_dockets hsame.dockets).waiterResult] at hshows
    exact hends.shows hshows

end Sys2Proof.Proofs
end

section
/-! SUPPORT. The order queue read by the states of the orders, and what keeps it (R39, R41, R191). -/
namespace Sys2Proof.Machine

variable {s t u : State} {num : Nat} {st : OrderState}

/-! ### The TAKE_ORDERs that wait -/

/-- The docket for whose order a TAKE_ORDER waits. -/
def WaitKind.taken? : WaitKind → Option Nat
  | .take num => some num
  | .order _ | .confirm _ _ _ | .resolve _ _ | .loadFloat _ | .accountEdit _ | .storeSettings => none

/-- The dockets for whose orders TAKE_ORDERs wait. -/
def State.takers (s : State) : List Nat := s.waiters.filterMap fun w => w.kind.taken?

theorem State.takers_kinds (h : t.waiters.map (·.kind) = s.waiters.map (·.kind)) : t.takers = s.takers := by
  have hmap (x : State) : x.takers = (x.waiters.map (·.kind)).filterMap WaitKind.taken? := by
    simp [State.takers, List.filterMap_map]
  rw [hmap, hmap, h]

theorem State.takers_length (s : State) : (s.waiters.filter Waiter.isTake).length = s.takers.length := by
  unfold State.takers
  induction s.waiters with
  | nil => rfl
  | cons w l ih =>
    rw [List.filter_cons, List.filterMap_cons]
    cases hk : w.kind <;> simp [Waiter.isTake, WaitKind.taken?, hk, ih]

theorem State.takeFits_iff (s : State) (w : Waiter) :
    s.takeFits w = true ↔ ∀ num ∈ w.kind.taken?, s.orderState? num = some .offered := by
  cases hk : w.kind <;> simp [State.takeFits, WaitKind.taken?, hk]

theorem State.mem_takers : num ∈ s.takers ↔ ∃ w ∈ s.waiters, w.kind = .take num := by
  have hkind (k : WaitKind) : k.taken? = some num ↔ k = .take num := by
    cases k <;> simp [WaitKind.taken?]
  simp [State.takers, List.mem_filterMap, hkind]

theorem State.wait_takers (s : State) (r : RecordId) (k : WaitKind) :
    (s.wait r k).takers = s.takers ++ k.taken?.toList := by
  cases hk : k.taken? <;> simp [State.takers, State.wait, hk]

/-! ### The states of the orders -/

/-- An order in hand: OFFERED or DISPENSING. -/
def OrderState.held (st : OrderState) : Prop := st = .offered ∨ st = .dispensing

/-- An order that stands in the order queue: neither in SUSPENSE nor PAID (R39). -/
def OrderState.waiting (st : OrderState) : Prop := st ≠ .suspense ∧ st ≠ .paid

theorem OrderState.held.waiting (h : st.held) : st.waiting := by
  rcases h with rfl | rfl <;> exact ⟨nofun, nofun⟩

theorem OrderState.held.ne_paid (h : st.held) : st ≠ .paid := h.waiting.2

/-- The order queue and the order in hand, read by the states of the orders. -/
structure State.Slips (s : State) : Prop where
  hand : ∀ m m' st st', s.orderState? m = some st → s.orderState? m' = some st' → st.held → st'.held →
    m = m'
  taker : s.takers.length ≤ 1
  takes : ∀ num ∈ s.takers, s.orderState? num = some .offered
  nodup : s.active = true → s.orderQueue.Nodup
  queue : s.active = true → ∀ num, num ∈ s.orderQueue ↔ ∃ st, s.orderState? num = some st ∧ st.waiting
  scan : s.mode = .scanning → ∀ num d, s.docket? num = some d →
    s.orderState? num = some .ready ∨ s.orderState? num = some .suspense

theorem State.orderState?_docket {d : Docket} (h : s.docket? num = some d) :
    s.orderState? num = d.order.map (·.state) := by
  simp [State.orderState?, State.order?, h]

theorem Docket.inHand_iff (d : Docket) :
    d.inHand = true ↔ ∃ st, d.order.map (·.state) = some st ∧ st.held := by
  cases h : d.order <;> simp [Docket.inHand, OrderState.held, h]

theorem Docket.queued_iff {d : Docket} (h : d.fits = true) :
    d.queued = true ↔ ∃ st, d.order.map (·.state) = some st ∧ st.waiting := by
  cases ho : d.order <;> cases hs : d.state <;>
    simp_all [Docket.queued, Docket.fits, OrderState.waiting]

theorem filter_length_le_one {α : Type} {l : List α} (hl : l.Nodup) (p : α → Bool) :
    (l.filter p).length ≤ 1 ↔ ∀ a ∈ l, ∀ b ∈ l, p a = true → p b = true → a = b := by
  have hmem {x : α} : x ∈ l.filter p ↔ x ∈ l ∧ p x = true := List.mem_filter
  constructor
  · intro h a ha b hb hpa hpb
    exact eq_of_mem_of_length_le_one h (hmem.mpr ⟨ha, hpa⟩) (hmem.mpr ⟨hb, hpb⟩)
  · intro h
    have hn : (l.filter p).Nodup := hl.filter p
    generalize l.filter p = f at hmem hn
    match f with
    | [] | [_] => simp
    | x :: y :: _ =>
      obtain ⟨hx, hpx⟩ := hmem.mp (List.mem_cons_self (a := x))
      obtain ⟨hy, hpy⟩ := hmem.mp (List.mem_cons_of_mem x (List.mem_cons_self (a := y)))
      simp [h x hx y hy hpx hpy] at hn

/-- The order queue exactly as its invariant has it, in a state whose ledger is in order. -/
theorem State.ordersFit_iff (h : s.Ledger) : s.OrdersFit ↔ s.Slips := by
  have hmem {d : Docket} (hd : d ∈ s.dockets) := State.docket?_of_mem h.numbers hd
  have hfits {d : Docket} (hd : d ∈ s.dockets) : d.fits = true := h.orders _ d (hmem hd)
  have horder {d : Docket} (hd : d ∈ s.dockets) := State.orderState?_docket (hmem hd)
  have hfrom {m : Nat} {st : OrderState} (hst : s.orderState? m = some st) :
      ∃ d ∈ s.dockets, d.number = m ∧ d.order.map (·.state) = some st := by
    obtain ⟨d, hd, o, ho, hs⟩ := State.orderState?_eq_some.mp hst
    exact ⟨d, State.docket?_mem hd, State.docket?_number hd, by simp [ho, hs]⟩
  have hqueue (m : Nat) : (∃ d ∈ s.dockets, d.number = m ∧ d.queued = true) ↔
      ∃ st, s.orderState? m = some st ∧ st.waiting := by
    constructor
    · rintro ⟨d, hd, rfl, hq⟩
      rw [horder hd]
      exact (Docket.queued_iff (hfits hd)).mp hq
    · rintro ⟨st, hst, hw⟩
      obtain ⟨d, hd, rfl, ho⟩ := hfrom hst
      exact ⟨d, hd, rfl, (Docket.queued_iff (hfits hd)).mpr ⟨st, ho, hw⟩⟩
  have htakes : (∀ w ∈ s.waiters, s.takeFits w = true) ↔
      ∀ num ∈ s.takers, s.orderState? num = some .offered := by
    simp only [State.takeFits_iff, State.takers, List.mem_filterMap, Option.mem_def]
    exact ⟨fun hw num ⟨w, hmem, hk⟩ => hw w hmem num hk, fun hw w hmem num hk => hw num ⟨w, hmem, hk⟩⟩
  rw [State.OrdersFit, filter_length_le_one (h.numbers.of_map _), State.takers_length, htakes]
  constructor
  · rintro ⟨hhand, htaker, htake, hactive, hscan⟩
    refine ⟨fun m m' st st' hm hm' hst hst' => ?_, htaker, htake, fun ha => (hactive ha).1, fun ha num => ?_,
      fun hmode num d hd => ?_⟩
    · obtain ⟨d, hd, rfl, ho⟩ := hfrom hm
      obtain ⟨d', hd', rfl, ho'⟩ := hfrom hm'
      rw [hhand d hd d' hd' (d.inHand_iff.mpr ⟨st, ho, hst⟩) (d'.inHand_iff.mpr ⟨st', ho', hst'⟩)]
    · obtain ⟨-, hin, hout⟩ := hactive ha
      rw [← hqueue]
      exact ⟨hout num, fun ⟨d, hd, hn, hq⟩ => hn ▸ hin d hd hq⟩
    · obtain ⟨-, ho⟩ := hscan hmode d (State.docket?_mem hd)
      rw [State.orderState?_docket hd]
      cases hdo : d.order <;> simp_all
  · intro hs
    refine ⟨fun d hd d' hd' hi hi' => ?_, hs.taker, hs.takes, fun ha => ⟨hs.nodup ha, fun d hd hq => ?_,
      fun num hnum => ?_⟩, fun hmode d hd => ?_⟩
    · obtain ⟨st, ho, hst⟩ := d.inHand_iff.mp hi
      obtain ⟨st', ho', hst'⟩ := d'.inHand_iff.mp hi'
      have hn := hs.hand _ _ st st' ((horder hd).trans ho) ((horder hd').trans ho') hst hst'
      exact List.inj_on_of_nodup_map h.numbers hd hd' hn
    · exact (hs.queue ha _).mpr ((hqueue _).mp ⟨d, hd, rfl, hq⟩)
    · exact (hqueue num).mpr ((hs.queue ha num).mp hnum)
    · have ho := hs.scan hmode _ d (hmem hd)
      rw [horder hd] at ho
      have hf := hfits hd
      cases hdo : d.order <;> cases hds : d.state <;> simp_all [Docket.fits]

theorem State.Fits.slips (h : s.Fits) : s.Slips := (State.ordersFit_iff h.ledger).mp h.orders

/-! ### Orders kept and moved -/

/-- No order but one that is PAID changes its state. -/
abbrev SameOrderStates (s t : State) : Prop :=
  ∀ m st, st ≠ .paid → (t.orderState? m = some st ↔ s.orderState? m = some st)

/-- A state with the same orders. -/
theorem State.Slips.same (h : s.Slips) (hmode : t.mode = s.mode) (horders : SameOrderStates s t)
    (hqueue : t.orderQueue = s.orderQueue) (htakers : t.takers = s.takers)
    (hdockets : s.mode = .scanning → t.dockets = s.dockets) : t.Slips := by
  have hactive : t.active = s.active := by simp [State.active, hmode]
  refine ⟨fun m m' st st' hm hm' hst hst' => ?_, htakers ▸ h.taker, fun num hnum => ?_,
    fun ha => hqueue ▸ h.nodup (hactive ▸ ha), fun ha num => ?_, fun hscan num d hd => ?_⟩
  · exact h.hand m m' st st' ((horders m st hst.ne_paid).mp hm) ((horders m' st' hst'.ne_paid).mp hm')
      hst hst'
  · exact (horders num .offered (by decide)).mpr (h.takes num (htakers ▸ hnum))
  · rw [hqueue, h.queue (hactive ▸ ha)]
    exact exists_congr fun st => and_congr_left fun hw => (horders num st hw.2).symm
  · rw [hmode] at hscan
    have := h.scan hscan num d ((State.docket?_congr (hdockets hscan) num).symm.trans hd)
    rwa [State.orderState?_congr (hdockets hscan)]

/-- One order has moved: the others keep their states and their places. -/
structure State.OrderMoved (s t : State) (num : Nat) (st : OrderState) : Prop where
  mode : t.mode = s.mode
  self : t.orderState? num = some st
  others : ∀ m, m ≠ num → t.orderState? m = s.orderState? m
  nodup : s.orderQueue.Nodup → t.orderQueue.Nodup
  queue : ∀ m, m ∈ t.orderQueue ↔ m = num ∧ st.waiting ∨ m ≠ num ∧ m ∈ s.orderQueue

theorem State.Slips.moved (h : s.Slips) (hactive : s.active = true) (hm : s.OrderMoved t num st)
    (hhand : st.held → ∀ m st', m ≠ num → s.orderState? m = some st' → ¬ st'.held)
    (htaker : t.takers.length ≤ 1)
    (htakes : ∀ m ∈ t.takers, m = num ∧ st = .offered ∨ m ≠ num ∧ m ∈ s.takers) : t.Slips := by
  obtain ⟨hmode, hself, hothers, hnodup, hqueue⟩ := hm
  refine ⟨fun m m' x x' hx hx' hheld hheld' => ?_, htaker, fun m hmem => ?_,
    fun _ => hnodup (h.nodup hactive), fun _ m => ?_, fun hscan => ?_⟩
  · by_cases hm : m = num <;> by_cases hm' : m' = num
    · exact hm.trans hm'.symm
    · obtain rfl : st = x := by simpa [hm, hself] using hx
      exact absurd hheld' (hhand hheld m' x' hm' ((hothers m' hm').symm.trans hx'))
    · obtain rfl : st = x' := by simpa [hm', hself] using hx'
      exact absurd hheld (hhand hheld' m x hm ((hothers m hm).symm.trans hx))
    · exact h.hand m m' x x' ((hothers m hm).symm.trans hx) ((hothers m' hm').symm.trans hx') hheld hheld'
  · rcases htakes m hmem with ⟨rfl, rfl⟩ | ⟨hne, hold⟩
    · exact hself
    · rw [hothers m hne]
      exact h.takes m hold
  · rw [hqueue]
    by_cases hm : m = num
    · simp [hm, hself]
    · simp [hm, hothers m hm, h.queue hactive]
  · rw [hmode] at hscan
    simp [State.active, hscan] at hactive

end Sys2Proof.Machine
end

section
/-! SUPPORT. The orders through bookings and closings: what the lanes' own work does to them (R7, R16, R17,
R34). -/
namespace Sys2Proof.Machine

variable {s t u : State} {n : Lane} {num : Nat} {d : Docket} {why : CloseReason}

/-! ### Bookings and closings -/

/-- What a docket's orders are told by: the mode, the dockets with all that names them, the records, the
order queue, and the waiters. -/
abbrev SameTill (s t : State) : Prop :=
  t.mode = s.mode ∧ t.dockets = s.dockets ∧ t.finished = s.finished ∧ t.openDocket = s.openDocket ∧
  t.settlements = s.settlements ∧ t.orderQueue = s.orderQueue ∧ t.waiters = s.waiters

/-- A state reached by bookings, by closings that complete at the end of a pass or entry, and by work that
leaves the till. -/
inductive State.Tallied (s : State) : State → Prop
  | start : s.Tallied s
  | same {t u : State} (h : s.Tallied t) (hsame : SameTill t u) : s.Tallied u
  | book {t : State} (h : s.Tallied t) (n : Lane) (o : PassOutcome) : s.Tallied (t.book n o)
  | waitOver {t : State} (h : s.Tallied t) (n : Lane) : s.Tallied (t.waitOver n)

/-- The orders stand as they did, and PENDING_COMMIT orders alone have joined the queue. -/
structure State.OrdersStand (s t : State) : Prop where
  mode : t.mode = s.mode
  dockets : ∀ m, s.orderState? m ≠ none → t.docket? m = s.docket? m
  queue : ∃ l, t.orderQueue = s.orderQueue ++ l ∧ ∀ m ∈ l, t.orderState? m = some .pendingCommit

theorem State.OrdersStand.orderState? (h : s.OrdersStand t) {m : Nat} (hm : s.orderState? m ≠ none) :
    t.orderState? m = s.orderState? m := by
  simp only [State.orderState?, State.order?, h.dockets m hm]

theorem State.OrdersStand.refl (s : State) : s.OrdersStand s := ⟨rfl, fun _ _ => rfl, [], by simp⟩

theorem State.OrdersStand.trans (h : s.OrdersStand t) (h' : t.OrdersStand u) : s.OrdersStand u := by
  obtain ⟨l, hl, hnew⟩ := h.queue
  obtain ⟨l', hl', hnew'⟩ := h'.queue
  refine ⟨h'.mode.trans h.mode, fun m hm => ?_, l ++ l', by rw [hl', hl, List.append_assoc], fun m hm => ?_⟩
  · rw [h'.dockets m (by rwa [h.orderState? hm]), h.dockets m hm]
  · rcases List.mem_append.mp hm with hm | hm
    · rw [h'.orderState? (by simp [hnew m hm]), hnew m hm]
    · exact hnew' m hm

theorem State.OrdersStand.of_same (hmode : t.mode = s.mode) (hd : t.dockets = s.dockets)
    (hq : t.orderQueue = s.orderQueue) : s.OrdersStand t :=
  ⟨hmode, fun m _ => State.docket?_congr hd m, [], by simp [hq]⟩

/-! ### The orders through a booking -/

theorem State.Ledger.lane_no_order (h : s.Ledger) (hd : s.docket? num = some d)
    (hl : d.state.holdsLane = true) : s.orderState? num = none := by
  rw [State.orderState?_docket hd, h.holdsLane_order hd hl]
  rfl

theorem State.bookingOf_lane {o : PassOutcome} {tl : Tallies} (hb : s.bookingOf n o = some (num, tl)) :
    ∃ d, s.laneDocket n = some d ∧ d.number = num := by
  simp only [State.bookingOf, Option.bind_eq_some_iff, Option.map_eq_some_iff, Prod.mk.injEq] at hb
  obtain ⟨d, hd, v, -, hn, -⟩ := hb
  exact ⟨d, hd, hn⟩

/-- A booking leaves every order. -/
theorem State.Ledger.book_orders (h : s.Ledger) (n : Lane) (o : PassOutcome) :
    (∀ m, (s.book n o).orderState? m = s.orderState? m) ∧ s.OrdersStand (s.book n o) := by
  unfold State.book
  split
  · rename_i m tl hb
    obtain ⟨d, hd, rfl⟩ := State.bookingOf_lane hb
    obtain ⟨-, hget, -, hl⟩ := h.laneDocket hd
    refine ⟨fun m => State.orderState?_updateDocket s _ m fun _ => ⟨rfl, rfl⟩, rfl, fun m hm => ?_, [], by simp⟩
    refine s.updateDocket_others (f := fun d => { d with tallies := some tl }) d.number (fun _ => rfl) m ?_
    rintro rfl
    exact hm (h.lane_no_order hget hl)
  · exact ⟨State.orderState?_congr (by simp), .of_same (by simp) (by simp) (by simp)⟩

theorem State.Slips.book (h : s.Slips) (hl : s.Ledger) (n : Lane) (o : PassOutcome) : (s.book n o).Slips := by
  obtain ⟨horders, hstand⟩ := hl.book_orders n o
  refine h.same hstand.mode (fun m st _ => by rw [horders]) (by simp) (State.takers_kinds (by simp))
    fun hmode => ?_
  have hnone : s.bookingOf n o = none := by
    refine Option.eq_none_iff_forall_ne_some.mpr fun ⟨m, tl⟩ hb => ?_
    obtain ⟨d, hd, -⟩ := State.bookingOf_lane hb
    obtain ⟨-, hget, -, hhold⟩ := hl.laneDocket hd
    have := h.scan hmode _ d hget
    simp [hl.lane_no_order hget hhold] at this
  rw [State.book_none hnone]
  simp

/-! ### The orders through a closing -/

theorem State.waitOrder_takers (s : State) (num : Nat) (r : Option Nat) (haulier : Nat) :
    (s.waitOrder num r haulier).takers = s.takers := by
  have hwait (y : State) (r : RecordId) : (y.wait r (.order num)).takers = y.takers := by
    simp [State.wait_takers, WaitKind.taken?]
  unfold State.waitOrder
  cases r <;> dsimp only <;> split
  · rfl
  · split
    · exact hwait ..
    · rfl
  · exact hwait ..
  · split
    · rw [hwait, hwait]
    · exact hwait ..

theorem State.handOff_takers (s : State) (d : Docket) (f : Figures) : (s.handOff d f).takers = s.takers := by
  have hlast (y : State) (r : Option Nat) (hy : y.waiters = s.waiters) :
      ((y.queueAccountOf d.haulier).waitOrder d.number r d.haulier).takers = s.takers := by
    rw [State.waitOrder_takers]
    exact State.takers_kinds (by simp [hy])
  refine hlast _ _ ?_
  cases h : lowestFree 16 s.settlements <;> simp [h]

theorem State.completeClosing_takers (hd : s.docket? num = some d) :
    (s.completeClosing n num why).takers = s.takers := by
  have hsettled : (s.closingSettled n num why d).takers = s.takers := State.takers_kinds (by simp)
  have hraise (y : State) : (y.raise .lane .docketDone).takers = y.takers := State.takers_kinds (by simp)
  rw [State.completeClosing_eq hd, hraise, ← hsettled]
  split
  · exact State.handOff_takers ..
  · exact State.takers_kinds (by simp)

/-- The order that a completed closing makes, and no other's. -/
theorem State.completeClosing_orderState? (hd : s.docket? num = some d) (ho : d.order = none) (m : Nat) :
    (s.completeClosing n num why).orderState? m =
      if m = num ∧ 0 < (s.figuresFor d).payout then some .pendingCommit else s.orderState? m := by
  have hget := State.completeClosing_docket? (n := n) (why := why) hd m
  by_cases hm : m = num
  · rw [if_pos hm] at hget
    rw [State.orderState?_docket hget, hm, State.orderState?_docket hd, Docket.settledAs]
    by_cases hp : 0 < (s.figuresFor d).payout <;> simp [hp, ho]
  · rw [if_neg hm] at hget
    simp [hm, State.orderState?, State.order?, hget]

theorem State.Ledger.closing_orders (h : s.Ledger) (hd : s.docket? num = some d)
    (hl : d.state.holdsLane = true) : s.OrdersStand (s.completeClosing n num why) := by
  have ho := h.holdsLane_order hd hl
  refine ⟨by simp, fun m hm => ?_, if 0 < (s.figuresFor d).payout then [num] else [], ?_, fun m hm => ?_⟩
  · rw [State.completeClosing_docket? hd, if_neg]
    rintro rfl
    exact hm (h.lane_no_order hd hl)
  · rw [State.completeClosing_orderQueue hd]
    split <;> simp
  · split at hm
    · rw [State.completeClosing_orderState? hd ho, if_pos ⟨List.mem_singleton.mp hm, ‹_›⟩]
    · simp at hm

theorem State.Slips.completeClosing (h : s.Slips) (hledger : s.Ledger) (hd : s.docket? num = some d)
    (hl : d.state.holdsLane = true) : (s.completeClosing n num why).Slips := by
  have ho := hledger.holdsLane_order hd hl
  have hnone := hledger.lane_no_order hd hl
  have hscan : s.mode ≠ .scanning := fun hmode => by
    have := h.scan hmode num d hd
    simp [hnone] at this
  have htakers := State.completeClosing_takers (n := n) (why := why) hd
  by_cases hp : 0 < (s.figuresFor d).payout
  · have hself : (s.completeClosing n num why).orderState? num = some .pendingCommit := by
      rw [State.completeClosing_orderState? hd ho, if_pos ⟨rfl, hp⟩]
    have hothers (m : Nat) (hm : m ≠ num) : (s.completeClosing n num why).orderState? m = s.orderState? m := by
      rw [State.completeClosing_orderState? hd ho, if_neg fun h => hm h.1]
    have hqueue : (s.completeClosing n num why).orderQueue = s.orderQueue ++ [num] := by
      rw [State.completeClosing_orderQueue hd, if_pos hp]
    by_cases hactive : s.active = true
    · have hnot : num ∉ s.orderQueue := fun hm => by
        obtain ⟨st, hst, -⟩ := (h.queue hactive num).mp hm
        simp [hnone] at hst
      have hne {m : Nat} (hm : m ∈ s.orderQueue) : m ≠ num := ne_of_mem_of_not_mem hm hnot
      refine h.moved hactive ⟨by simp, hself, hothers, fun hn => ?_, fun m => ?_⟩
        (fun hheld => absurd hheld (by simp [OrderState.held])) (htakers ▸ h.taker) fun m hm => ?_
      · rw [hqueue]
        exact List.nodup_append.mpr ⟨hn, by simp, fun a ha b hb => by
          rw [List.mem_singleton.mp hb]; exact hne ha⟩
      · rw [hqueue, List.mem_append, List.mem_singleton]
        have : OrderState.waiting .pendingCommit := ⟨nofun, nofun⟩
        constructor
        · exact fun hm => hm.elim (fun hm => .inr ⟨hne hm, hm⟩) fun hm => .inl ⟨hm, this⟩
        · exact fun hm => hm.elim (fun hm => .inr hm.1) fun hm => .inl hm.2
      · rw [htakers] at hm
        refine .inr ⟨?_, hm⟩
        rintro rfl
        exact absurd (h.takes _ hm) (by simp [hnone])
    · have hmode : (s.completeClosing n num why).active = s.active := by simp [State.active]
      have horders (m : Nat) (st : OrderState) (hst : st.held) :
          (s.completeClosing n num why).orderState? m = some st ↔ s.orderState? m = some st := by
        by_cases hm : m = num
        · rw [hm, hself, hnone]
          rcases hst with rfl | rfl <;> simp
        · rw [hothers m hm]
      refine ⟨fun m m' st st' hm hm' hst hst' => h.hand m m' st st' ((horders m st hst).mp hm)
        ((horders m' st' hst').mp hm') hst hst', htakers ▸ h.taker, fun m hm => ?_,
        fun ha => absurd (hmode ▸ ha) hactive, fun ha => absurd (hmode ▸ ha) hactive, fun hs => ?_⟩
      · rw [htakers] at hm
        exact (horders m .offered (.inl rfl)).mpr (h.takes m hm)
      · exact absurd (by simpa using hs) hscan
  · refine h.same (by simp) (fun m st _ => ?_) ?_ htakers fun hmode => absurd hmode hscan
    · rw [State.completeClosing_orderState? hd ho, if_neg fun h => hp h.2]
    · rw [State.completeClosing_orderQueue hd, if_neg hp]

/-! ### All the lanes' own work -/

/-- Bookings and closings keep the ledger, the order queue, and every order. -/
theorem State.Tallied.kept (h : s.Tallied t) (hledger : s.Ledger) (hslips : s.Slips) :
    t.Ledger ∧ t.Slips ∧ s.OrdersStand t := by
  induction h with
  | start => exact ⟨hledger, hslips, .refl s⟩
  | same _ hsame ih =>
    obtain ⟨hl, hs, hstand⟩ := ih
    obtain ⟨hmode, hd, hf, ho, hr, hq, hw⟩ := hsame
    exact ⟨hl.same hd ho hf (by rw [hr]),
      hs.same hmode (fun m _ _ => by rw [State.orderState?_congr hd]) hq (State.takers_kinds (by rw [hw]))
        fun _ => hd, hstand.trans (.of_same hmode hd hq)⟩
  | book _ n o ih =>
    obtain ⟨hl, hs, hstand⟩ := ih
    exact ⟨ledgerLaw.book _ n o hl, hs.book hl n o, hstand.trans (hl.book_orders n o).2⟩
  | waitOver _ n ih =>
    obtain ⟨hl, hs, hstand⟩ := ih
    refine ⟨ledgerLaw.waitOver _ n hl, ?_⟩
    unfold State.waitOver
    split
    · rename_i d hd
      obtain ⟨-, hget, -, hhold⟩ := hl.laneDocket hd
      split
      · exact ⟨hs.completeClosing hl hget hhold, hstand.trans (hl.closing_orders hget hhold)⟩
      · exact ⟨hs, hstand⟩
    · exact ⟨hs, hstand⟩

end Sys2Proof.Machine
end

section
/-! SUPPORT. The lanes' own work, from the end of a pass to the end of a turn: bookings and closings, with all
else on the till as it was (R107, R155). -/
namespace Sys2Proof.Machine

namespace State.Tallied

variable {b s : State} (h : b.Tallied s)
include h

theorem resolve (n : Lane) (c : Cause) (q : Pass) : b.Tallied (s.resolve n c q) :=
  ((h.book n (s.outcomeRecord n c q).outcome).same (by simp [SameTill])).waitOver n

theorem endPass (n : Lane) (c : Cause) : b.Tallied (s.endPass n c) := by
  unfold State.endPass
  split
  · exact h.resolve n c _
  · exact h.waitOver n
  all_goals exact h

theorem leaveTo (n : Lane) (c : Cause) (f : Detector → Detector) : b.Tallied (s.leaveTo n c f) :=
  (h.endPass n c).same (by simp [SameTill, State.leaveTo])

theorem laneOff (n : Lane) : b.Tallied (s.laneOff n) :=
  (h.leaveTo n .disable Detector.off).same (by simp [SameTill, State.laneOff])

theorem hear (n : Lane) (e : SampleEvent) : b.Tallied (s.hear n e) := by
  cases e with
  | nothing => exact h
  | resolved c q => exact h.resolve n c q
  | discarded => exact h.waitOver n

theorem countingSample (n : Lane) (raw : PerChan Nat) : b.Tallied (s.countingSample n raw) := by
  have hbefore (e : SampleEvent) {y : State} (hy : SameTill s y) :
      b.Tallied ((y.hear n e).checkDrift n) :=
    ((h.same hy).hear n e).same (by simp [SameTill])
  unfold State.countingSample
  dsimp only
  split <;> exact hbefore _ (by simp [SameTill])

theorem freshSample (n : Lane) (raw : PerChan Nat) : b.Tallied (s.freshSample n raw) := by
  unfold State.freshSample
  dsimp only
  split
  case h_3 | h_4 | h_5 | h_6 => exact (h.same (by simp [SameTill])).countingSample n raw
  all_goals exact h.same (by simp [SameTill])

theorem missDelivered (n : Lane) : b.Tallied (s.missDelivered n) := by
  unfold State.missDelivered
  dsimp only
  split
  case h_1 | h_2 | h_3 | h_4 =>
    split
    · exact h.countingSample n _
    · exact h.leaveTo n _ _
  case h_6 =>
    split
    · exact h.same (by simp [SameTill])
    · exact h
  all_goals exact h.same (by simp [SameTill])

theorem sampleAnswer (x : Turn) (st : AnswerStatus) (seq : Nat) (counts : PerChan Nat) :
    b.Tallied (s.sampleAnswer x st seq counts) := by
  unfold State.sampleAnswer
  dsimp only
  split
  · exact (h.same (by simp [SameTill])).freshSample _ _
  · split
    · split <;> exact h.same (by simp [SameTill])
    · exact h

theorem freshAnswer (n : Lane) : b.Tallied (s.freshAnswer n) := by
  unfold State.freshAnswer
  dsimp only
  split
  · exact h.same (by simp [SameTill])
  · exact (h.same (by simp [SameTill])).leaveTo n _ _

theorem applyVerdict (x : Turn) (v : Verdict) : b.Tallied (s.applyVerdict x v) := by
  unfold State.applyVerdict
  split
  · split
    · exact h
    · exact h.missDelivered _
  · exact h.freshAnswer _
  · split
    · exact h
    · split
      · exact h.sampleAnswer _ _ _ _
      · exact h.same (by simp [SameTill])
      · exact h.same (by simp [SameTill])

theorem applyDeferredOff (n : Lane) : b.Tallied (s.applyDeferredOff n) := by
  unfold State.applyDeferredOff
  split
  · exact h.laneOff n
  · exact h

theorem endTurn (x : Turn) (v : Verdict) : b.Tallied (s.endTurn x v) := by
  have hcounted : b.Tallied (((({ s with turn := none }).countTurn x v).silence x v).missRunAfter x v) :=
    h.same (by simp [SameTill])
  have happlied := (hcounted.applyVerdict x v).applyDeferredOff x.lane
  exact happlied.same (u := State.nextTurn _) (by simp [SameTill])

theorem enableOn (n : Lane) : b.Tallied (s.enableOn n) := by
  unfold State.enableOn State.setEnable
  dsimp only
  refine h.same ?_
  split_ifs <;> simp [SameTill]

theorem enableOff (n : Lane) : b.Tallied (s.enableOff n) := by
  have henable : b.Tallied (s.setEnable n false) := h.same (by simp [SameTill, State.setEnable])
  unfold State.enableOff
  dsimp only
  split
  · exact henable
  · exact henable.laneOff n

theorem retune (n : Lane) : b.Tallied (s.retune n) := by
  unfold State.retune
  split
  · exact h
  · exact (h.leaveTo n .tune Detector.tuning).same (by simp [SameTill, State.markStale])

theorem reseed (n : Lane) : b.Tallied (s.reseed n) :=
  (h.endPass n .reseed).same (by simp [SameTill, State.reseed])

end State.Tallied

end Sys2Proof.Machine
end

section
/-! SUPPORT. Lockout and the order events at the end of an event, and what an event keeps of the order business
(R40, R59 to R61, R167). -/
namespace Sys2Proof.Machine

variable {b s t u : State}

/-! ### Lockout -/

/-- What lockout is told by. -/
abbrev SameLocks (s t : State) : Prop :=
  t.mode = s.mode ∧ t.faults = s.faults ∧ t.lockout = s.lockout ∧
  t.settings.lockoutMask = s.settings.lockoutMask

theorem State.LockoutFits.same (h : s.LockoutFits) (hs : SameLocks s t) : t.LockoutFits := by
  obtain ⟨hmode, hfaults, hlock, hmask⟩ := hs
  simpa [State.LockoutFits, State.active, hmode, hfaults, hlock, hmask] using h

/-- Once evaluated, lockout is what its rule gives (R167). -/
theorem State.evalLockout_fits (s : State) : s.evalLockout.LockoutFits := by
  intro ha
  have hmode : s.mode ≠ .scanning := by
    rintro hm
    simp [State.active, hm] at ha
  by_cases he : locks s.faults s.settings.lockoutMask = s.lockout
  · simp [State.evalLockout, he]
  · simp [State.evalLockout, hmode, he]

theorem State.noteFault_fits (s : State) (k : FaultKind) : (s.noteFault k).LockoutFits :=
  State.evalLockout_fits _

theorem State.recordFault_fits (s : State) (k : FaultKind) : (s.recordFault k).LockoutFits :=
  (s.noteFault_fits k).same (by simp [SameLocks, State.recordFault])

/-! ### The order events -/

theorem State.orderEvents_shortCause (b a : State) : (State.orderEvents b a).shortCause =
    if b.headView = a.headView ∧ b.float = a.float then a.shortCause else a.shortNow := by
  have hraised : State.shortNow (if (a.headReady && !b.headReady) = true then a.raise .payout .orderReady
      else a) = a.shortNow := by
    split
    · exact State.shortNow_congr (by simp) (by simp) (by simp)
    · rfl
  unfold State.orderEvents
  dsimp only
  split
  · split <;> simp
  · rw [State.checkShort_shortCause, hraised]

@[simp] theorem State.conclude_shortCause (b a : State) : (State.conclude b a).shortCause =
    if b.headView = a.headView ∧ b.float = a.float then a.shortCause else a.shortNow := by
  simp [State.conclude, State.orderEvents_shortCause]

theorem State.conclude_flags (b a : State) : FlagsKept a (State.conclude b a) :=
  (State.Steady.conclude b a).flags

/-- ORDER_READY is raised where the head has become a READY order (R40). -/
theorem State.conclude_orderReady {a : State} (hb : b.headReady = false) (ha : a.headReady = true) :
    (State.conclude b a).Flagged .payout .orderReady := by
  have hraised := State.raise_flagged a .payout .orderReady
  have hevents : (State.orderEvents b a).Flagged .payout .orderReady := by
    simp only [State.orderEvents, ha, hb, Bool.not_false, Bool.and_self, if_true]
    split
    · exact hraised
    · exact FlagsKept.setShortCause _ _ _ _ hraised
  exact FlagsKept.of_ports (by simp [State.conclude]) _ _ hevents

theorem State.setShortCause_flagged {x : Bool} (h : x ≠ s.shortCause) :
    (s.setShortCause x).Flagged .payout .floatOut := by
  rw [State.setShortCause, if_neg h]
  exact State.raise_flagged _ .payout .floatOut

theorem State.setEmptyCause_flagged {x : Bool} (h : x ≠ s.emptyCause) :
    (s.setEmptyCause x).Flagged .payout .floatOut := by
  rw [State.setEmptyCause, if_neg h]
  exact State.raise_flagged _ .payout .floatOut

/-- FLOAT_OUT is raised where the short cause changes (R61). -/
theorem State.conclude_floatOut {a : State} (h : (State.conclude b a).shortCause ≠ a.shortCause) :
    (State.conclude b a).Flagged .payout .floatOut := by
  have hevents : (State.orderEvents b a).Flagged .payout .floatOut := by
    rw [State.conclude_shortCause] at h
    have hchange : ¬ (b.headView = a.headView ∧ b.float = a.float) := fun hv => by simp [hv] at h
    rw [if_neg hchange] at h
    unfold State.orderEvents
    dsimp only
    rw [if_neg hchange]
    refine State.setShortCause_flagged ?_
    split
    · rw [State.shortNow_congr (s := a) (by simp) (by simp) (by simp)]
      simpa using h
    · exact h
  exact FlagsKept.of_ports (by simp [State.conclude]) _ _ hevents

theorem State.headReady_view {a : State} (h : a.headView = b.headView) : a.headReady = b.headReady := by
  rw [State.headReady_eq, State.headReady_eq, h]

theorem State.headView_head? {a : State} (h : a.headView = b.headView) :
    a.orderQueue.head? = b.orderQueue.head? := by
  have hfst (y : State) : y.orderQueue.head? = y.headView.map (·.1) := by
    simp [State.headView, Function.comp_def]
  rw [hfst, hfst, h]

/-- The same head with the same payout gives the same short cause (R59). -/
theorem State.shortNow_head {a : State} (hready : a.headReady = b.headReady)
    (hhead : a.orderQueue.head? = b.orderQueue.head?) (hfloat : a.float = b.float)
    (hpay : ∀ m, b.orderState? m = some .ready → a.payoutOf m = b.payoutOf m) : a.shortNow = b.shortNow := by
  unfold State.shortNow
  rw [hready, hhead, hfloat]
  cases hb : b.headReady with
  | false => simp
  | true =>
    cases hm : b.orderQueue.head? with
    | none => simp
    | some m =>
      have hst : b.orderState? m = some .ready := by simpa [State.headReady, hm] using hb
      simp [hpay m hst]

/-! ### What an event keeps -/

/-- The order business after an event: the orders with their queue, lockout and the short cause as their rules
have them, and the events of the orders and the float raised (R39, R40, R59 to R61, R167). -/
structure State.Settled (b t : State) : Prop where
  slips : t.Slips
  lockout : t.LockoutFits
  short : t.ShortFits
  events : b.active = true → t.mode = b.mode →
    (b.headReady = false → t.headReady = true → t.Flagged .payout .orderReady) ∧
    (t.shortCause ≠ b.shortCause ∨ t.emptyCause ≠ b.emptyCause → t.Flagged .payout .floatOut)

/-- The part of an event before the order events: it leaves the short cause, raises FLOAT_OUT for the empty
cause, and keeps the payouts of the READY orders. -/
structure State.Due (b a : State) : Prop where
  mode : a.mode = b.mode
  short : a.shortCause = b.shortCause
  empty : a.emptyCause ≠ b.emptyCause → a.Flagged .payout .floatOut
  payouts : ∀ m, b.orderState? m = some .ready → a.payoutOf m = b.payoutOf m

theorem State.Slips.conclude (h : s.Slips) (b : State) : (State.conclude b s).Slips :=
  h.same (by simp) (fun m _ _ => by rw [State.orderState?_congr (s := s) (by simp)]) (by simp)
    (State.takers_kinds (by simp)) fun _ => by simp

/-- The end of an event settles the order business. -/
theorem State.Due.conclude {a : State} (h : b.Due a) (hb : b.ShortFits) (hslips : a.Slips)
    (hlock : a.LockoutFits) : b.Settled (State.conclude b a) := by
  have hnow : (State.conclude b a).shortNow = a.shortNow :=
    State.shortNow_congr (by simp) (by simp) (by simp)
  have hactive : (State.conclude b a).active = b.active := by simp [State.active, h.mode]
  refine ⟨hslips.conclude b, hlock.same (by simp [SameLocks]), fun ha => ?_, fun _ _ => ⟨fun hready hready' =>
    State.conclude_orderReady hready ?_, fun hcause => ?_⟩⟩
  · rw [hnow, State.conclude_shortCause]
    split
    · rename_i hsame
      rw [h.short, hb (hactive ▸ ha)]
      obtain ⟨hview, hfloat⟩ := hsame
      exact (State.shortNow_head (State.headReady_view hview.symm) (State.headView_head? hview.symm)
        hfloat.symm h.payouts).symm
    · rfl
  · rwa [State.headReady_congr (s := a) (by simp) (by simp)] at hready'
  · rcases hcause with hshort | hempty
    · exact State.conclude_floatOut (by rwa [h.short])
    · exact State.conclude_flags b a _ _ (h.empty (by simpa using hempty))

/-- What the order business is told by. -/
abbrev SameTrade (s t : State) : Prop :=
  t.dockets = s.dockets ∧ t.orderQueue = s.orderQueue ∧ t.takers = s.takers ∧ t.float = s.float ∧
  t.shortCause = s.shortCause ∧ t.emptyCause = s.emptyCause ∧ SameLocks s t

/-- An event that leaves the orders, the float and the causes. -/
structure State.Quiet (s t : State) : Prop where
  orders : SameOrderStates s t
  payouts : ∀ m, s.orderState? m = some .ready → t.payoutOf m = s.payoutOf m
  queue : t.orderQueue = s.orderQueue
  takers : t.takers = s.takers
  float : t.float = s.float
  causes : t.shortCause = s.shortCause ∧ t.emptyCause = s.emptyCause
  locks : SameLocks s t
  scan : s.mode = .scanning → t.dockets = s.dockets

theorem State.Quiet.of_same (h : SameTrade s t) : s.Quiet t := by
  obtain ⟨hd, hq, hw, hf, hs, he, hl⟩ := h
  exact ⟨fun m _ _ => by rw [State.orderState?_congr hd],
    fun m _ => by simp only [State.payoutOf, State.docket?_congr hd], hq, hw, hf, ⟨hs, he⟩, hl, fun _ => hd⟩

theorem State.Fits.quiet (hs : s.Fits) (h : s.Quiet t) : s.Settled t := by
  obtain ⟨horders, hpayouts, hq, htakers, hf, ⟨hshort, hempty⟩, hlocks, hscan⟩ := h
  have hslips := hs.slips.same hlocks.1 horders hq htakers hscan
  have hactive : t.active = s.active := by simp [State.active, hlocks.1]
  have hready : t.headReady = s.headReady := by
    unfold State.headReady
    rw [hq]
    cases s.orderQueue.head? with
    | none => rfl
    | some m => simp [horders m .ready (by decide)]
  have hnow : t.shortNow = s.shortNow := State.shortNow_head hready (congrArg _ hq) hf hpayouts
  refine ⟨hslips, hs.lockout.same hlocks, fun ha => ?_, fun _ _ => ⟨fun h h' => ?_, fun h => ?_⟩⟩
  · rw [hshort, hnow, hs.short (hactive ▸ ha)]
  · rw [hready, h] at h'
    cases h'
  · rw [hshort, hempty] at h
    simp at h

theorem State.Fits.same (hs : s.Fits) (h : SameTrade s t) : s.Settled t := hs.quiet (.of_same h)

/-- An event that ends after work which left the orders, the payouts and the short cause. -/
theorem State.Fits.concluded (hs : s.Fits) {a : State} (h : SameTrade s a) :
    s.Settled (State.conclude s a) := by
  have hquiet := State.Quiet.of_same h
  obtain ⟨horders, hpayouts, hq, htakers, -, ⟨hshort, hempty⟩, hlocks, hscan⟩ := hquiet
  exact State.Due.conclude ⟨hlocks.1, hshort, fun h => absurd hempty h, hpayouts⟩ hs.short
    (hs.slips.same hlocks.1 horders hq htakers hscan) (hs.lockout.same hlocks)

/-- The lanes' own work settles the order business at its end. -/
theorem State.Fits.tallied (hs : s.Fits) {a : State} (h : s.Tallied a) (hlock : a.LockoutFits)
    (hcauses : a.shortCause = s.shortCause ∧ a.emptyCause = s.emptyCause) :
    s.Settled (State.conclude s a) := by
  obtain ⟨-, hslips, hstand⟩ := h.kept hs.ledger hs.slips
  refine State.Due.conclude ⟨hstand.mode, hcauses.1, fun h => absurd hcauses.2 h, fun m hm => ?_⟩ hs.short
    hslips hlock
  simp only [State.payoutOf, hstand.dockets m (by simp [hm])]

end Sys2Proof.Machine
end

section
/-! SUPPORT. The order queue through the order operations: an order offered, returned, suspended, paid, or moved
by the outcome of a program (R34, R39, R41 to R46, R49, R54). -/
namespace Sys2Proof.Machine

variable {s t u : State} {num m : Nat} {st : OrderState} {p : Port}

/-! ### Orders in hand and waiting -/

theorem OrderState.waiting_ready : OrderState.waiting .ready := ⟨nofun, nofun⟩

theorem State.orderState?_mem {st : OrderState} (h : s.orderState? m = some st) :
    ∃ d ∈ s.dockets, d.number = m ∧ d.order.map (·.state) = some st := by
  obtain ⟨d, hd, o, ho, hs⟩ := State.orderState?_eq_some.mp h
  exact ⟨d, State.docket?_mem hd, State.docket?_number hd, by simp [ho, hs]⟩

theorem State.inHand?_none (h : s.inHand? = none) (hm : s.orderState? m = some st) : ¬ st.held := fun hst => by
  obtain ⟨d, hd, -, ho⟩ := State.orderState?_mem hm
  exact List.find?_eq_none.mp h d hd (d.inHand_iff.mpr ⟨st, ho, hst⟩)

/-- The order in hand is the only one (R41). -/
theorem State.Slips.others_free (h : s.Slips) (hm : s.orderState? num = some st) (hst : st.held) (m' : Nat)
    (st' : OrderState) (hne : m' ≠ num) (hm' : s.orderState? m' = some st') : ¬ st'.held := fun hst' =>
  hne (h.hand m' num st' st hm' hm hst' hst)

theorem State.Slips.not_taker (h : s.Slips) (hm : s.orderState? num = some st) (hst : st ≠ .offered) :
    num ∉ s.takers := fun hmem => by
  have := h.takes num hmem
  rw [hm] at this
  exact hst (Option.some.inj this)

theorem State.Slips.takers_kept (h : s.Slips) (htakers : t.takers = s.takers)
    (hm : num ∉ s.takers) : t.takers.length ≤ 1 ∧
    ∀ m ∈ t.takers, m = num ∧ st = .offered ∨ m ≠ num ∧ m ∈ s.takers := by
  rw [htakers]
  exact ⟨h.taker, fun m hmem => .inr ⟨ne_of_mem_of_not_mem hmem hm, hmem⟩⟩

theorem State.takeRefusal_free (h : s.takeRefusal = none) : s.inHand? = none := by
  unfold State.takeRefusal at h
  by_contra hne
  have : s.inHand?.isSome = true := Option.isSome_iff_ne_none.mpr hne
  simp only [this, if_true] at h
  split at h <;> cases h

/-! ### One order moved -/

/-- One order that stands in the queue has another state that stands there too. -/
theorem State.OrderMoved.stays (hmode : t.mode = s.mode) (hd : t.dockets = (s.setOrderState num st).dockets)
    (hq : t.orderQueue = s.orderQueue) (hsome : s.orderState? num ≠ none) (hin : num ∈ s.orderQueue)
    (hst : st.waiting) : s.OrderMoved t num st := by
  have horder (m : Nat) := (State.orderState?_congr hd m).trans (s.orderState?_setOrderState num m st)
  refine ⟨hmode, ?_, fun m hm => by rw [horder, if_neg hm], fun h => hq ▸ h, fun m => ?_⟩
  · obtain ⟨x, hx⟩ := Option.ne_none_iff_exists'.mp hsome
    rw [horder, if_pos rfl, hx]
    rfl
  · rw [hq]
    constructor
    · intro hm
      by_cases he : m = num
      · exact .inl ⟨he, hst⟩
      · exact .inr ⟨he, hm⟩
    · rintro (⟨rfl, -⟩ | ⟨-, hm⟩)
      · exact hin
      · exact hm

/-- An order back at the head of the queue (R43, R44, R54). -/
theorem State.OrderMoved.returned (hmode : t.mode = s.mode)
    (hd : t.dockets = (s.setOrderState num .ready).dockets)
    (hq : t.orderQueue = num :: s.orderQueue.filter (· ≠ num)) (hsome : s.orderState? num ≠ none) :
    s.OrderMoved t num .ready := by
  have horder (m : Nat) := (State.orderState?_congr hd m).trans (s.orderState?_setOrderState num m .ready)
  refine ⟨hmode, ?_, fun m hm => by rw [horder, if_neg hm], fun h => ?_, fun m => ?_⟩
  · obtain ⟨x, hx⟩ := Option.ne_none_iff_exists'.mp hsome
    rw [horder, if_pos rfl, hx]
    rfl
  · rw [hq, List.nodup_cons]
    exact ⟨by simp, h.filter _⟩
  · rw [hq, List.mem_cons, List.mem_filter, decide_eq_true_eq]
    have := OrderState.waiting_ready
    tauto

/-- An order that leaves the queue, into SUSPENSE or PAID (R46, R49). -/
theorem State.OrderMoved.leaves (hmode : t.mode = s.mode) (hself : t.orderState? num = some st)
    (hothers : ∀ m, m ≠ num → t.orderState? m = s.orderState? m)
    (hq : t.orderQueue = s.orderQueue.filter (· ≠ num)) (hst : ¬ st.waiting) : s.OrderMoved t num st := by
  refine ⟨hmode, hself, hothers, fun h => hq ▸ h.filter _, fun m => ?_⟩
  rw [hq, List.mem_filter, decide_eq_true_eq]
  tauto

/-! ### The payouts -/

/-- What an operation on one order leaves of every payout. -/
theorem State.payoutOf_updateDocket (s : State) (num : Nat) {f : Docket → Docket}
    (hf : ∀ d, (f d).number = d.number ∧ (f d).figures = d.figures) (m : Nat) :
    (s.updateDocket num f).payoutOf m = s.payoutOf m := by
  simp only [State.payoutOf, s.docket?_updateDocket num m fun d => (hf d).1]
  split
  · rename_i h
    cases hd : s.docket? num <;> simp [h, hd, (hf _).2]
  · rfl

theorem State.payoutOf_congr (h : t.dockets = s.dockets) (m : Nat) : t.payoutOf m = s.payoutOf m := by
  simp only [State.payoutOf, State.docket?_congr h]

theorem State.payoutOf_setOrderState (s : State) (num m : Nat) (st : OrderState) :
    (s.setOrderState num st).payoutOf m = s.payoutOf m :=
  s.payoutOf_updateDocket num (f := fun d => { d with order := d.order.map fun o => { o with state := st } })
    (fun _ => ⟨rfl, rfl⟩) m

/-! ### The operations -/

@[simp] theorem State.returnOrder_orderQueue (s : State) (num : Nat) :
    (s.returnOrder num).orderQueue = num :: s.orderQueue.filter (· ≠ num) := by
  simp [State.returnOrder]

@[simp] theorem State.suspend_orderQueue (s : State) (num : Nat) :
    (s.suspend num).orderQueue = s.orderQueue.filter (· ≠ num) := by
  simp [State.suspend]

@[simp] theorem State.pay_orderQueue (s : State) (num amount : Nat) :
    (s.pay num amount).orderQueue = s.orderQueue.filter (· ≠ num) := by
  unfold State.pay
  dsimp only
  split_ifs <;> simp

/-- An offer waits for its own order alone. -/
theorem State.offer_takers (s : State) (p : Port) (num : Nat) :
    (s.offer p num).takers = s.takers ∨ (s.offer p num).takers = s.takers ++ [num] := by
  have hbase : (((s.setOrderState num .offered).setMarker num .dispensing).queueSettlement num).takers =
      s.takers := State.takers_kinds (by simp)
  have hexec (y : State) : (y.toExecuting p).takers = y.takers := State.takers_kinds (by simp)
  unfold State.offer
  dsimp only
  rw [hexec]
  split
  · exact .inr (by simp [State.wait_takers, hbase, WaitKind.taken?])
  · exact .inl hbase

/-- TAKE_ORDER's hand-over begins (R41). -/
theorem State.Slips.offer (h : s.Slips) (hactive : s.active = true) (hfree : s.inHand? = none)
    (hhead : num ∈ s.orderQueue) (p : Port) : (s.offer p num).Slips := by
  obtain ⟨x, hx, -⟩ := (h.queue hactive num).mp hhead
  have hnone : s.takers = [] :=
    List.eq_nil_iff_forall_not_mem.mpr fun m hm => State.inHand?_none hfree (h.takes m hm) (.inl rfl)
  have htakers := s.offer_takers p num
  rw [hnone, List.nil_append] at htakers
  refine h.moved hactive (st := .offered) (.stays (by simp) (by simp) (by simp) (by simp [hx]) hhead
    ⟨nofun, nofun⟩) (fun _ m st' _ hm => State.inHand?_none hfree hm) ?_ fun m hm => .inl ⟨?_, rfl⟩
  · rcases htakers with ht | ht <;> simp [ht]
  · rcases htakers with ht | ht
    · simp [ht] at hm
    · simpa [ht] using hm

/-- An order goes back to the head of the queue (R43, R44, R54). -/
theorem State.Slips.returnOrder (h : s.Slips) (hactive : s.active = true) (hsome : s.orderState? num ≠ none)
    (hm : num ∉ s.takers) : (s.returnOrder num).Slips := by
  obtain ⟨htaker, htakes⟩ := h.takers_kept (t := s.returnOrder num) (st := .ready)
    (State.takers_kinds (by simp)) hm
  exact h.moved hactive (.returned (by simp) (by simp) (by simp) hsome) (by simp [OrderState.held]) htaker htakes

/-- The dispense limit of the order in hand (R46). -/
theorem State.Slips.suspend (h : s.Slips) (hactive : s.active = true)
    (hst : s.orderState? num = some .dispensing) : (s.suspend num).Slips := by
  obtain ⟨htaker, htakes⟩ := h.takers_kept (t := s.suspend num) (st := .suspense)
    (State.takers_kinds (by simp)) (h.not_taker hst (by decide))
  have horder (m : Nat) := (State.orderState?_congr (s.suspend_dockets num) m).trans
    (s.orderState?_setOrderState num m .suspense)
  refine h.moved hactive (.leaves (by simp) ?_ (fun m hm => ?_) (by simp) (by simp [OrderState.waiting]))
    (by simp [OrderState.held]) htaker htakes
  · rw [horder, if_pos rfl, hst]
    rfl
  · rw [horder, if_neg hm]

/-- The order of a docket that has been paid (R49). -/
theorem State.pay_orderState? (s : State) (num amount m : Nat) : (s.pay num amount).orderState? m =
    if m = num then (s.orderState? num).map fun _ => .paid else s.orderState? m := by
  rw [State.orderState?_congr (s.pay_dockets num amount), State.orderState?, State.order?,
    s.docket?_updateDocket num m (f := Docket.paidWith (s.payoutOf num) amount) (fun _ => rfl)]
  split
  · simp only [State.orderState?, State.order?]
    cases s.docket? num with
    | none => rfl
    | some d => cases h : d.order <;> simp [h, Docket.paidWith, Order.confirmed]
  · rfl

theorem State.Slips.pay (h : s.Slips) (hactive : s.active = true)
    (hst : s.orderState? num = some .dispensing ∨ s.orderState? num = some .suspense) (amount : Nat) :
    (s.pay num amount).Slips := by
  have hnot : num ∉ s.takers := hst.elim (h.not_taker · (by decide)) (h.not_taker · (by decide))
  obtain ⟨htaker, htakes⟩ := h.takers_kept (t := s.pay num amount) (st := .paid)
    (State.takers_kinds (by simp)) hnot
  refine h.moved hactive (.leaves (by simp) ?_ (fun m hm => ?_) (by simp) (by simp [OrderState.waiting]))
    (by simp [OrderState.held]) htaker htakes
  · rw [State.pay_orderState?, if_pos rfl]
    rcases hst with hst | hst <;> simp [hst]
  · rw [State.pay_orderState?, if_neg hm]

/-- The last commit of an order makes it READY in its place (R34). -/
theorem State.Slips.commitDone (h : s.Slips) (hactive : s.active = true) (num : Nat) :
    (s.commitDone num).Slips := by
  obtain he | ⟨hst, he⟩ := s.commitDone_cases num
  · rwa [he]
  · rw [he]
    obtain ⟨htaker, htakes⟩ := h.takers_kept (t := s.setOrderState num .ready) (st := .ready)
      (State.takers_kinds (by simp)) (h.not_taker hst (by decide))
    have hin : num ∈ s.orderQueue := (h.queue hactive num).mpr ⟨_, hst, nofun, nofun⟩
    exact h.moved hactive (.stays (by simp) rfl (by simp) (by simp [hst]) hin OrderState.waiting_ready)
      (by simp [OrderState.held]) htaker htakes

/-- The hand-over ends with its marker program (R42, R43). -/
theorem State.Slips.takeEnds (h : s.Slips) (hactive : s.active = true)
    (hst : s.orderState? num = some .offered) (hm : num ∉ s.takers) (ok : Bool) :
    (s.takeEnds num ok).Slips := by
  cases ok
  · have hreturned := h.returnOrder hactive (by simp [hst]) hm
    exact hreturned.same (by simp [State.takeEnds])
      (fun m x _ => by rw [State.orderState?_congr (s := s.returnOrder num) (by simp [State.takeEnds])])
      (by simp [State.takeEnds]) (State.takers_kinds (by simp [State.takeEnds]))
      fun _ => by simp [State.takeEnds]
  · obtain ⟨htaker, htakes⟩ := h.takers_kept (t := s.takeEnds num true) (st := .dispensing)
      (State.takers_kinds (by simp)) hm
    have hin : num ∈ s.orderQueue := (h.queue hactive num).mpr ⟨_, hst, nofun, nofun⟩
    exact h.moved hactive (.stays (by simp) (s.takeEnds_dockets num true) (by simp [State.takeEnds])
      (by simp [hst]) hin ⟨nofun, nofun⟩) (fun _ => h.others_free hst (.inl rfl)) htaker htakes

end Sys2Proof.Machine
end

section
/-! SUPPORT. The orders through the end of a program (Table 4-3), and through the docket commands (R9, R15, R18,
R20, R22). -/
namespace Sys2Proof.Machine

variable {s t u : State} {num m : Nat} {n : Lane} {d : Docket} {ok : Bool}

/-! ### The outcomes of the waiters -/

theorem State.waiterEnds_payoutOf (ok : Bool) (s : State) (w : Waiter) (m : Nat) :
    (State.waiterEnds ok s w).payoutOf m = s.payoutOf m := by
  obtain ⟨num, -, he⟩ | ⟨num, -, he⟩ | ⟨ho, ht⟩ := State.waiterEnds_cases ok s w
  · rw [he]
    obtain hc | ⟨-, hc⟩ := s.commitDone_cases num <;> rw [hc]
    exact s.payoutOf_setOrderState num m .ready
  · rw [he, State.payoutOf_congr (s.takeEnds_dockets num ok), State.payoutOf_setOrderState]
  · exact State.payoutOf_congr (State.waiterEnds_answer ho ht).1 m

/-- Waiters of whom at most one is a TAKE_ORDER, with none that waits on, keep the order queue as they receive
their outcome. -/
theorem State.Slips.waiters (ws : List Waiter) (h : s.Slips) (hactive : s.active = true)
    (hone : (ws.filterMap fun w => w.kind.taken?).length + s.takers.length ≤ 1)
    (htakes : ∀ m ∈ ws.filterMap fun w => w.kind.taken?, s.orderState? m = some .offered) :
    (ws.foldl (State.waiterEnds ok) s).Slips := by
  induction ws generalizing s with
  | nil => exact h
  | cons w ws ih =>
    have htakers : (State.waiterEnds ok s w).takers = s.takers := State.takers_kinds (by simp)
    have hact : (State.waiterEnds ok s w).active = true := by simpa [State.active] using hactive
    rw [List.foldl_cons]
    obtain ⟨num, hk, he⟩ | ⟨num, hk, he⟩ | ⟨ho, ht⟩ := State.waiterEnds_cases ok s w
    · have hrest : (w :: ws).filterMap (fun w => w.kind.taken?) = ws.filterMap fun w => w.kind.taken? := by
        simp [hk, WaitKind.taken?]
      rw [hrest] at hone htakes
      refine ih (he ▸ h.commitDone hactive num) hact (by rwa [htakers]) fun m hm => ?_
      rw [State.waiterEnds_settled (by simp [htakes m hm]) (by simp [hk]), htakes m hm]
    · have hrest : (w :: ws).filterMap (fun w => w.kind.taken?) =
          num :: ws.filterMap fun w => w.kind.taken? := by
        simp [hk, WaitKind.taken?]
      rw [hrest] at hone htakes
      rw [List.length_cons] at hone
      have hnone : s.takers = [] := List.length_eq_zero_iff.mp (by omega)
      have hws : ws.filterMap (fun w => w.kind.taken?) = [] := List.length_eq_zero_iff.mp (by omega)
      refine ih (he ▸ h.takeEnds hactive (htakes num (by simp)) (by simp [hnone]) ok) hact
        (by simp [htakers, hnone, hws]) fun m hm => ?_
      simp [hws] at hm
    · have hrest : (w :: ws).filterMap (fun w => w.kind.taken?) = ws.filterMap fun w => w.kind.taken? := by
        have : w.kind.taken? = none := by cases hk : w.kind <;> simp_all [WaitKind.taken?]
        simp [this]
      obtain ⟨hd, -, hq, -⟩ := State.waiterEnds_answer (ok := ok) (s := s) ho ht
      rw [hrest] at hone htakes
      refine ih (h.same (by simp) (fun m st _ => by rw [State.orderState?_congr hd]) hq htakers fun _ => hd) hact
        (by rwa [htakers]) fun m hm => ?_
      rw [State.orderState?_congr hd, htakes m hm]

theorem State.takers_split (l : List Waiter) (p : Waiter → Bool) (f : Waiter → Option Nat) :
    ((l.filter p).filterMap f).length + ((l.filter fun w => !p w).filterMap f).length =
      (l.filterMap f).length := by
  induction l with
  | nil => rfl
  | cons w l ih => cases hp : p w <;> cases hf : f w <;> simp [hp, hf] <;> omega

/-- The outcome of a program leaves the order queue in order. -/
theorem State.Slips.waitersEnd (h : s.Slips) (hactive : s.active = true) (r : RecordId) (ok : Bool) :
    (s.waitersEnd r ok).Slips ∧ ∀ m, (s.waitersEnd r ok).payoutOf m = s.payoutOf m := by
  constructor
  · have hsplit := State.takers_split s.waiters (fun w => w.begun && decide (w.record = r))
      fun w => w.kind.taken?
    have hlen := h.taker
    have hwaits : ({ s with waiters := s.waiters.filter fun w => !(w.begun && decide (w.record = r)) } :
        State).Slips := by
      refine ⟨h.hand, ?_, fun m hm => h.takes m ((List.filter_sublist.filterMap _).subset hm), h.nodup,
        h.queue, h.scan⟩
      simp only [State.takers] at hlen ⊢
      omega
    refine State.Slips.waiters _ hwaits hactive ?_ fun m hm => ?_
    · simp only [State.takers] at hlen ⊢
      omega
    · exact h.takes m ((List.filter_sublist.filterMap _).subset hm)
  · intro m
    have hfold (ws : List Waiter) (y : State) : (ws.foldl (State.waiterEnds ok) y).payoutOf m = y.payoutOf m := by
      induction ws generalizing y with
      | nil => rfl
      | cons w ws ih => rw [List.foldl_cons, ih, State.waiterEnds_payoutOf]
    exact hfold _ _

/-! ### The docket commands -/

/-- A change of the dockets that leaves every order and every payout. -/
theorem State.Quiet.of_orders (hscan : s.mode ≠ .scanning) (horders : ∀ m, t.orderState? m = s.orderState? m)
    (hpay : ∀ m, s.orderState? m = some .ready → t.payoutOf m = s.payoutOf m)
    (h : t.orderQueue = s.orderQueue ∧ t.takers = s.takers ∧ t.float = s.float ∧
      t.shortCause = s.shortCause ∧ t.emptyCause = s.emptyCause ∧ SameLocks s t) : s.Quiet t := by
  obtain ⟨hq, ht, hf, hs, he, hl⟩ := h
  exact ⟨fun m st _ => by rw [horders], hpay, hq, ht, hf, ⟨hs, he⟩, hl, fun hm => absurd hm hscan⟩

/-- The docket that OPEN_DOCKET makes has no order. -/
theorem State.openNew_quiet (hscan : s.mode ≠ .scanning) (hnum : s.docket? num = none) (n : Lane)
    (haulier : Nat) : s.Quiet (s.openNew n haulier num) := by
  have hget := State.docket?_append (d := s.newDocket n haulier num) hnum (s.openNew_dockets n haulier num)
  have horder (m : Nat) : (s.openNew n haulier num).orderState? m = s.orderState? m := by
    rw [State.orderState?, State.order?, hget]
    split
    · rename_i hm
      rw [show m = num from hm, State.orderState?, State.order?, hnum]
      rfl
    · rfl
  refine .of_orders hscan horder (fun m hm => ?_) (by simp [State.openNew, SameLocks, State.takers])
  have hne : m ≠ num := fun he => by simp [he, State.orderState?, State.order?, hnum] at hm
  rw [State.payoutOf, hget, State.newDocket_number, if_neg hne]
  rfl

/-- An update of one docket that leaves its order and its figures. -/
theorem State.updateDocket_quiet (hscan : s.mode ≠ .scanning) {f : Docket → Docket}
    (hf : ∀ d, (f d).number = d.number ∧ (f d).order = d.order ∧ (f d).figures = d.figures) :
    s.Quiet (s.updateDocket num f) := by
  refine .of_orders hscan (fun m => s.orderState?_updateDocket num m fun d => ?_)
    (fun m _ => s.payoutOf_updateDocket num (fun d => ?_) m) (by simp [SameLocks, State.takers])
  · exact ⟨(hf d).1, (hf d).2.1⟩
  · exact ⟨(hf d).1, (hf d).2.2⟩

theorem State.Quiet.then (h : s.Quiet t) (h' : SameTrade t u) : s.Quiet u := by
  obtain ⟨horders, hpay, hq, ht, hf, ⟨hs, he⟩, ⟨l1, l2, l3, l4⟩, hscan⟩ := h
  obtain ⟨hd', hq', ht', hf', hs', he', ⟨l1', l2', l3', l4'⟩⟩ := h'
  refine ⟨fun m st hst => ?_, fun m hm => ?_, hq'.trans hq, ht'.trans ht, hf'.trans hf,
    ⟨hs'.trans hs, he'.trans he⟩, ⟨l1'.trans l1, l2'.trans l2, l3'.trans l3, l4'.trans l4⟩,
    fun hm => hd'.trans (hscan hm)⟩
  · rw [State.orderState?_congr hd', horders m st hst]
  · rw [State.payoutOf_congr hd', hpay m hm]

/-- A released docket has no order, or one that is PAID. -/
theorem State.Ledger.release_quiet (h : s.Ledger) (hscan : s.mode ≠ .scanning) (hd : s.docket? num = some d)
    (hf : d.state.finished = true) : s.Quiet { s with
      finished := s.finished.filter (· ≠ num), dockets := s.dockets.filter fun d => d.number ≠ num } := by
  have hget (m : Nat) : ({ s with
      finished := s.finished.filter (· ≠ num)
      dockets := s.dockets.filter fun d => d.number ≠ num } : State).docket? m =
      if m = num then none else s.docket? m := by
    simp only [State.docket?, List.find?_filter]
    split
    · simp_all
    · rename_i hm
      congr 1; funext x
      by_cases hx : x.number = m <;> simp [hx, hm]
  have hgone (st : OrderState) (hst : st ≠ .paid) : s.orderState? num ≠ some st := by
    intro hs
    obtain ⟨x, hx, hxs, -⟩ := h.awaiting_of_order hs hst
    obtain rfl : x = d := by simpa [hd, eq_comm] using hx
    simp [hxs, DocketState.finished] at hf
  refine ⟨fun m st hst => ?_, fun m hm => ?_, rfl, rfl, rfl, ⟨rfl, rfl⟩, ⟨rfl, rfl, rfl, rfl⟩,
    fun hm => absurd hm hscan⟩
  · by_cases hm : m = num
    · simp only [State.orderState?, State.order?, hget, hm, if_true]
      simpa [State.orderState?, State.order?] using hgone st hst
    · simp only [State.orderState?, State.order?, hget, if_neg hm]
  · have hne : m ≠ num := fun he => hgone .ready (by decide) (he ▸ hm)
    simp only [State.payoutOf, hget, if_neg hne]

/-! ### A docket that closes (R15, R18, R19) -/

theorem State.Ledger.closing (h : s.Ledger) (hd : s.docket? num = some d) (hl : d.state.holdsLane = true) :
    (s.updateDocket num (Docket.closingAt s.yardTime)).Ledger := by
  refine h.update (fun _ => rfl) fun x hx => ?_
  obtain rfl : x = d := by simpa [hd, eq_comm] using hx
  have ho := h.holdsLane_order hd hl
  have hf : x.state.finished = false := DocketState.not_finished_of_holdsLane hl
  rw [hl, hf]
  simp [Docket.closingAt, Docket.fits, ho, DocketState.holdsLane, DocketState.finished]

/-- CLOSE_DOCKET leaves every order, and its own joins the queue (R15, R34). -/
theorem State.Slips.close (h : s.Slips) (hledger : s.Ledger) (hscan : s.mode ≠ .scanning)
    (hd : s.laneDocket n = some d) : (s.close n d.number).Slips ∧ s.OrdersStand (s.close n d.number) := by
  obtain ⟨-, hget, -, hl⟩ := hledger.laneDocket hd
  have hquiet : s.Quiet (s.updateDocket d.number (Docket.closingAt s.yardTime)) :=
    State.updateDocket_quiet hscan fun _ => ⟨rfl, rfl, rfl⟩
  have hclosing : (s.updateDocket d.number (Docket.closingAt s.yardTime)).docket? d.number =
      some (d.closingAt s.yardTime) :=
    (s.docket?_updateDocket d.number d.number (f := Docket.closingAt s.yardTime) fun _ => rfl).trans
      (by simp [hget])
  have hstand : s.OrdersStand (s.updateDocket d.number (Docket.closingAt s.yardTime)) := by
    refine ⟨by simp, fun m hm => ?_, [], by simp⟩
    refine s.updateDocket_others (f := Docket.closingAt s.yardTime) d.number (fun _ => rfl) m ?_
    rintro rfl
    exact hm (hledger.lane_no_order hget hl)
  have hslips : (s.updateDocket d.number (Docket.closingAt s.yardTime)).Slips :=
    h.same hquiet.locks.1 hquiet.orders hquiet.queue hquiet.takers hquiet.scan
  rw [State.close_eq]
  split
  · exact ⟨hslips.same rfl (fun _ _ _ => Iff.rfl) rfl rfl fun _ => rfl,
      hstand.trans (.of_same rfl rfl rfl)⟩
  · exact ⟨hslips.completeClosing (hledger.closing hget hl) hclosing rfl,
      hstand.trans ((hledger.closing hget hl).closing_orders hclosing rfl)⟩

/-- The close grace books one outcome and completes the closing (R18). -/
theorem State.Slips.graceExpires (h : s.Slips) (hledger : s.Ledger) (hd : s.laneDocket n = some d) :
    ((s.book n .unresolved).completeClosing n d.number .graceExpired).Slips ∧
    s.OrdersStand ((s.book n .unresolved).completeClosing n d.number .graceExpired) := by
  obtain ⟨-, hget, -, hl⟩ := hledger.laneDocket hd
  obtain ⟨x, hbook⟩ := State.book_docket? hget n .unresolved
  have hledger' := ledgerLaw.book s n .unresolved hledger
  exact ⟨(h.book hledger n .unresolved).completeClosing hledger' hbook hl,
    (hledger.book_orders n .unresolved).2.trans (hledger'.closing_orders hbook hl)⟩

end Sys2Proof.Machine
end

section
/-! SUPPORT. The order business through the resets and the scan: what they leave of the orders (R188, R190,
R191). -/
namespace Sys2Proof.Machine

variable {s t : State}

/-- A part that is not in service, with no orders in the queue and none waited for, and every docket's order
READY or in SUSPENSE. -/
theorem State.Slips.idle (hactive : s.active = false) (htakers : s.takers = [])
    (horders : ∀ m d, s.docket? m = some d →
      s.orderState? m = some .ready ∨ s.orderState? m = some .suspense) : s.Slips := by
  have hfree (m : Nat) (st : OrderState) (h : s.orderState? m = some st) : ¬ st.held := by
    obtain ⟨d, hd, -⟩ := State.orderState?_eq_some.mp h
    have := horders m d hd
    rw [h] at this
    rcases this with h | h <;> cases h <;> simp [OrderState.held]
  exact ⟨fun m m' st st' h _ hst _ => absurd hst (hfree m st h), by simp [htakers], by simp [htakers],
    fun ha => by simp [hactive] at ha, fun ha => by simp [hactive] at ha, fun _ => horders⟩

/-- A part that is out of service settles its order business once its orders are in order. -/
theorem State.Slips.outOfService (h : t.Slips) (hactive : t.active = false) (s : State) : s.Settled t := by
  refine ⟨h, fun ha => ?_, fun ha => ?_, fun ha hmode => ?_⟩
  · simp [hactive] at ha
  · simp [hactive] at ha
  · rw [State.active, ← hmode] at ha
    exact absurd ha (by simpa [State.active] using hactive)

theorem State.DebtsRestored.orders (h : s.DebtsRestored) (m : Nat) (d : Docket) (hd : s.docket? m = some d) :
    s.orderState? m = some .ready ∨ s.orderState? m = some .suspense := by
  have hmem := State.docket?_mem hd
  rw [h.dockets] at hmem
  obtain ⟨e, -, rfl⟩ := List.mem_map.mp hmem
  rw [State.orderState?_docket hd]
  cases hm : e.2.marker <;> simp [SettleRecord.restore, hm]

theorem State.cleared_settled (s b : State) : b.Settled s.cleared :=
  State.Slips.outOfService (.idle rfl rfl fun m d hd => by cases hd) rfl b

/-- The scan of a store in its one form, over working copies that stand empty. -/
theorem State.Emptied.settled (h : s.Emptied) (hstore : s.store.Fits) (hmode : s.mode = .scanning)
    (hwaiters : s.waiters = []) (soft : Bool) (b : State) : b.Settled (s.scan soft).drivePins := by
  obtain ⟨A, S, hrebuilt⟩ := h.rebuilt hstore soft
  have hframe := s.scan_frame soft
  simp only [ScanFrame] at hframe
  have hidle : (s.scan soft).drivePins.active = false := by simp [State.active, hframe, hmode]
  refine State.Slips.outOfService (.idle hidle ?_ ?_) hidle b
  · simp [State.takers, hframe, hwaiters]
  · exact hrebuilt.drivePins.restored.orders

theorem State.powerUp_settled (h : s.cutProgram.store.Fits) (b : State) : b.Settled s.powerUp :=
  s.cutProgram.cleared_emptied.settled h rfl rfl false b

/-! ### The end of STARTING (R189, R191) -/

theorem State.scanCompleted_takers (s : State) : s.scanCompleted.takers = s.takers := by
  have hlane (y : State) (n : Lane) : (y.startLane n).waiters = y.waiters := by
    unfold State.startLane
    split <;> simp
  have hmoney : s.startMoney.waiters = s.waiters := by
    rw [s.startMoney_eq, State.floatChecked, State.queueRestored]
    split <;> simp
  refine State.takers_kinds ?_
  simp [State.scanCompleted, State.opened, Lane.list, hlane, State.openPorts, hmoney]

/-- SCAN_COMPLETE builds the order queue, lockout and the short cause (R59, R167, R189, R191). -/
theorem State.Fits.scanCompleted_settled (hs : s.Fits) (hmode : s.mode = .scanning) :
    s.Settled s.scanCompleted := by
  obtain ⟨⟨-, hrun, -⟩, -, ⟨hdockets, -, hqueue, hfloat, -, hshort, -⟩, ⟨-, -, hfaults, hsettings, hlock⟩, -⟩ :=
    s.opened_frame
  have hslips := hs.slips
  have hnodup := hs.ledger.numbers
  have hfree (m : Nat) (st : OrderState) (h : s.orderState? m = some st) : st = .ready ∨ st = .suspense := by
    obtain ⟨d, hd, -⟩ := State.orderState?_eq_some.mp h
    simpa [h] using hslips.scan hmode m d hd
  have horder (m : Nat) : s.scanCompleted.orderState? m = s.orderState? m :=
    State.orderState?_congr (by simp [State.scanCompleted, hdockets]) m
  have hnow : s.scanCompleted.shortNow = s.floatChecked.shortNow :=
    State.shortNow_congr (by simp [State.scanCompleted, hqueue, s.floatChecked_frame])
      (by simp [State.scanCompleted, hdockets, s.floatChecked_frame])
      (by simp [State.scanCompleted, hfloat, s.floatChecked_frame])
  have hrunning : s.scanCompleted.mode = .running := by simp [State.scanCompleted, hrun]
  have htakers := s.scanCompleted_takers
  refine ⟨⟨fun m m' st st' h _ hst _ => ?_, htakers ▸ hslips.taker, fun m hm => ?_, fun _ => ?_, fun _ m => ?_,
    fun h => ?_⟩, fun _ => ?_, fun _ => ?_, fun ha => ?_⟩
  · rw [horder] at h
    rcases hfree m st h with rfl | rfl <;> simp [OrderState.held] at hst
  · rw [horder]
    exact hslips.takes m (htakers ▸ hm)
  · rw [show s.scanCompleted.orderQueue = s.restoredQueue by simp [State.scanCompleted, hqueue],
      State.restoredQueue_eq]
    refine List.Nodup.map_on (fun a ha b hb hab => ?_) ((List.perm_insertionSort _ _).nodup_iff.mpr ?_)
    · exact List.inj_on_of_nodup_map hnodup (State.mem_restoredReady.mp ha).1 (State.mem_restoredReady.mp hb).1 hab
    · exact (hnodup.of_map _).filter _
  · rw [show s.scanCompleted.orderQueue = s.restoredQueue by simp [State.scanCompleted, hqueue],
      State.mem_restoredQueue hnodup, horder]
    constructor
    · exact fun h => ⟨_, h, OrderState.waiting_ready⟩
    · rintro ⟨st, h, hw⟩
      rcases hfree m st h with rfl | rfl
      · exact h
      · exact absurd rfl hw.1
  · rw [hrunning] at h
    cases h
  · simp [State.scanCompleted, hlock, hfaults, hsettings]
  · rw [hnow, ← s.floatChecked_money.2.1]
    simp [State.scanCompleted, hshort]
  · simp [State.active, hmode] at ha

end Sys2Proof.Machine
end

section
/-! SUPPORT. Every row settles the order business: the orders with their queue, lockout, the short cause and the
events of both (R39, R40, R59 to R61, R167). -/
namespace Sys2Proof.Machine

variable {s t : State} {num : Nat} {p : Port} {c : CommandCode} {ps : List Byte} {run : State → State}

/-! ### Commands -/

/-- A port out of STARTING is a port of the running part (R176, R189). -/
theorem State.Fits.running (hs : s.Fits) (h : (s.ports.get p).phase ≠ .starting) : s.mode = .running := by
  obtain ⟨⟨hlane, -⟩, ⟨hpayout, -⟩, hoffice, -⟩ := hs.ports
  by_contra hmode
  cases p with
  | lane => exact h (hlane.mpr (by simpa using hmode))
  | payout => exact h (hpayout.mpr (by simpa using hmode))
  | office => exact h (hoffice.mpr (by simpa using hmode))

theorem State.Fits.takes_running (hs : s.Fits) (h : s.Takes p c ps) : s.mode = .running :=
  hs.running (p := p) (by simp [h.1])

theorem State.active_of_running (h : s.mode = .running) : s.active = true := by simp [State.active, h]

theorem State.Fits.takes_active (hs : s.Fits) (h : s.Takes p c ps) : s.active = true :=
  State.active_of_running (hs.takes_running h)

theorem State.Fits.settles_refused (hs : s.Fits) (p : Port) (c : CommandCode) (rc : ResultCode) :
    s.Settled (s.refused p c rc) := hs.same (by simp [SameTrade, SameLocks, State.takers])

theorem State.Fits.settles_answered (hs : s.Fits) (p : Port) (c : CommandCode) (b : Body) :
    s.Settled (s.answered p c b) := hs.same (by simp [SameTrade, SameLocks, State.takers])

theorem State.Fits.settles_command (hs : s.Fits) (hrun : s.Takes p c ps → s.Settled (run s)) :
    s.Settled (s.command p c ps run) := by
  obtain he | ⟨rc, -, -, he⟩ | ⟨htakes, he⟩ :=
    State.command_cases (s := s) (p := p) (c := c) (ps := ps) run
  · rw [he]; exact hs.same (by simp [SameTrade, SameLocks])
  · rw [he]; exact hs.settles_refused p c rc
  · rw [he]; exact hrun htakes

/-- A check of a command's own: it refuses, or the command goes on. -/
theorem State.Fits.settles_check (hs : s.Fits) {C : Prop} [Decidable C] {rc : ResultCode}
    (ht : s.Settled t) : s.Settled (if C then s.refused p c rc else t) := by
  split
  · exact hs.settles_refused p c rc
  · exact ht

/-! ### The turns (R155) -/

theorem State.endTurn_fits (h : s.LockoutFits) (x : Turn) (v : Verdict) : (s.endTurn x v).LockoutFits := by
  have hsilence (y : State) (hy : y.LockoutFits) : (y.silence x v).LockoutFits := by
    unfold State.silence
    dsimp only
    split
    · exact hy.same (by simp [SameLocks])
    · split
      · exact State.recordFault_fits _ _
      · exact hy.same (by simp [SameLocks])
  have hcounted : ((({ s with turn := none }).countTurn x v).silence x v).LockoutFits :=
    hsilence _ (h.same (by simp [SameLocks]))
  exact hcounted.same (by simp [SameLocks, State.endTurn])

theorem State.Fits.settles_turnEnds (hs : s.Fits) (e : TurnEnd) : s.Settled (s.turnEnds e) := by
  unfold State.turnEnds
  split
  · exact hs.tallied (State.Tallied.start.endTurn _ _) (State.endTurn_fits hs.lockout _ _) (by simp)
  · exact hs.same (by simp [SameTrade, SameLocks])

theorem State.Fits.settles_turnEndsIf (hs : s.Fits) (e : TurnEnd) (test : State → Turn → Verdict → Bool) :
    s.Settled (s.turnEndsIf e test) := by
  unfold State.turnEndsIf
  split
  · split
    · exact hs.settles_turnEnds e
    · exact hs.same (by simp [SameTrade, SameLocks])
  · exact hs.same (by simp [SameTrade, SameLocks])

theorem State.Fits.settles_turnMoves (hs : s.Fits) (a b : TurnPhase) : s.Settled (s.turnMoves a b) := by
  unfold State.turnMoves
  split
  · split <;> exact hs.same (by simp [SameTrade, SameLocks, State.takers])
  · exact hs.same (by simp [SameTrade, SameLocks])

/-- A lane command that ends with its result. -/
theorem State.Fits.settles_laneCommand (hs : s.Fits) (h : s.Tallied t) (hlocks : SameLocks s t)
    (hcauses : t.shortCause = s.shortCause ∧ t.emptyCause = s.emptyCause) (b : Body) (rc : ResultCode) :
    s.Settled (State.conclude s (t.respond p c rc b)) :=
  hs.tallied (h.same (by simp [SameTill])) ((hs.lockout.same hlocks).same (by simp [SameLocks]))
    (by simpa using hcauses)

theorem State.reseed_locks (s : State) (n : Lane) : SameLocks s (s.reseed n) := by simp [SameLocks]

/-! ### The orders -/

theorem State.Fits.settles_offer (hs : s.Fits) (hactive : s.active = true) (hrefusal : s.takeRefusal = none)
    (hhead : s.orderQueue.head? = some num) (p : Port) : s.Settled (State.conclude s (s.offer p num)) := by
  refine State.Due.conclude ⟨by simp, by simp, by simp, fun m _ => ?_⟩ hs.short
    (hs.slips.offer hactive (State.takeRefusal_free hrefusal) (List.mem_of_mem_head? hhead) p)
    (hs.lockout.same (by simp [SameLocks]))
  rw [State.payoutOf_congr (s.offer_dockets num p), State.payoutOf_setOrderState]

theorem State.suspend_fits (s : State) (num : Nat) : (s.suspend num).LockoutFits := by
  have hlock (y : State) :
      (((y.recordFault .payoutSuspense).raise .payout .suspense).raise .office .suspense).LockoutFits :=
    (State.recordFault_fits y .payoutSuspense).same (by simp [SameLocks])
  exact hlock _

theorem State.Fits.settles_suspend (hs : s.Fits) (hactive : s.active = true)
    (hst : s.orderState? num = some .dispensing) : s.Settled (State.conclude s (s.suspend num)) := by
  refine State.Due.conclude ⟨by simp, by simp, by simp, fun m _ => ?_⟩ hs.short (hs.slips.suspend hactive hst)
    (s.suspend_fits num)
  rw [State.payoutOf_congr (s.suspend_dockets num), State.payoutOf_setOrderState]

theorem State.lowerFloat_fits (h : s.LockoutFits) (amount : Nat) : (s.lowerFloat amount).LockoutFits := by
  have hcheck (y : State) (hy : y.LockoutFits) : y.checkFloatLow.LockoutFits := hy.same (by simp [SameLocks])
  refine hcheck _ ?_
  split
  · exact State.recordFault_fits _ .floatShortfall
  · exact h.same (by simp [SameLocks])

theorem State.pay_fits (h : s.LockoutFits) (num amount : Nat) : (s.pay num amount).LockoutFits := by
  have hlowered (y : State) (hy : y.LockoutFits) : ((((y.lowerFloat amount).updateDocket num fun d =>
      { d with state := .paid, order := d.order.map (·.confirmed (s.payoutOf num) amount) }).dequeueOrder
        num).joinFinished num |>.freeSettlement num).LockoutFits :=
    (State.lowerFloat_fits hy amount).same (by simp [SameLocks])
  unfold State.pay
  dsimp only
  refine hlowered _ ?_
  split
  · exact State.recordFault_fits _ _
  · split
    · exact h.same (by simp [SameLocks])
    · exact h

theorem State.waitFreed_takers {k : WaitKind} (hk : k.taken? = none) (s : State) (p : Port) (r : Option Nat) :
    (s.waitFreed p r k).takers = s.takers := by
  have hexec (y : State) : (y.toExecuting p).takers = y.takers := State.takers_kinds (by simp)
  unfold State.waitFreed
  cases r <;> simp [hexec, State.wait_takers, hk]

theorem State.Fits.settles_pay (hs : s.Fits) (hactive : s.active = true)
    (hst : s.orderState? num = some .dispensing ∨ s.orderState? num = some .suspense) (amount : Nat)
    (r : Option Nat) {k : WaitKind} (hk : k.taken? = none) (p : Port) :
    s.Settled (State.conclude s ((s.pay num amount).waitFreed p r k)) := by
  refine State.Due.conclude ⟨by simp, by simp, by simp, fun m _ => ?_⟩ hs.short
    ((hs.slips.pay hactive hst amount).same (by simp)
      (fun m _ _ => by rw [State.orderState?_congr (s := s.pay num amount) (by simp)]) (by simp)
      (State.waitFreed_takers hk ..) fun _ => by simp)
    ((State.pay_fits hs.lockout num amount).same (by simp [SameLocks]))
  rw [State.payoutOf_congr (s := s.pay num amount) (by simp), State.payoutOf_congr (s.pay_dockets num amount)]
  exact s.payoutOf_updateDocket num (f := Docket.paidWith (s.payoutOf num) amount) (fun _ => ⟨rfl, rfl⟩) m

theorem State.Fits.settles_resolveFrame (hs : s.Fits) (p : Port) (ps : List Byte) :
    s.Settled (s.resolveFrame p ps) := by
  refine hs.settles_command fun htakes => hs.settles_check (hs.settles_check ?_)
  have hactive := hs.takes_active htakes
  split
  · exact hs.settles_refused ..
  · rename_i hst
    rw [not_not] at hst
    split
    · exact hs.settles_pay hactive (.inr hst) _ _ rfl p
    · have hslips := hs.slips.returnOrder hactive (by simp [hst]) (hs.slips.not_taker hst (by decide))
      refine State.Due.conclude ⟨by simp, by simp, by simp, fun m _ => ?_⟩ hs.short
        (hslips.same (by simp) (fun _ _ _ => Iff.rfl) (by simp) (State.takers_kinds (by simp))
          fun _ => by simp) (hs.lockout.same (by simp [SameLocks]))
      rw [State.payoutOf_congr (s := s.returnOrder (field ps 0 2)) (by simp),
        State.payoutOf_congr (s.returnOrder_dockets (field ps 0 2)), State.payoutOf_setOrderState]

theorem State.Fits.settles_resultHoldExpiry (hs : s.Fits) (p : Port) :
    EndsIn s.Settled (.resultHoldExpiry p) s := by
  show ∃ t, execResultHoldExpiry p s = .next t ∧ s.Settled t
  unfold execResultHoldExpiry
  dsimp only
  split
  · rename_i hphase
    have hactive : s.active = true :=
      State.active_of_running (hs.running (p := p) (by simp [hphase]))
    split
    · rename_i num _ hun
      have hst := State.unstarted?_dispensing hs.ledger.numbers hun
      generalize hy : (s.toReady p).raise p .resultLost = y
      have hquiet : s.Quiet y := .of_same (by simp [← hy, SameTrade, SameLocks, State.takers])
      have hd : y.dockets = s.dockets := by simp [← hy]
      have hslips : y.Slips :=
        hs.slips.same hquiet.locks.1 hquiet.orders hquiet.queue hquiet.takers hquiet.scan
      have hst' : y.orderState? num = some .dispensing := (State.orderState?_congr hd num).trans hst
      refine ⟨_, rfl, State.Due.conclude ⟨by simp [← hy], by simp [← hy], by simp [← hy], fun m _ => ?_⟩ hs.short
        (hslips.returnOrder (by simpa [State.active, hquiet.locks.1] using hactive) (by simp [hst'])
          (hslips.not_taker hst' (by decide))) (hs.lockout.same (by simp [← hy, SameLocks]))⟩
      rw [State.payoutOf_congr (y.returnOrder_dockets num), State.payoutOf_setOrderState,
        State.payoutOf_congr hd]
    · exact ⟨_, rfl, hs.same (by simp [SameTrade, SameLocks, State.takers])⟩
  · exact ⟨_, rfl, hs.same (by simp [SameTrade, SameLocks])⟩

/-! ### The programs (R68 to R72) -/

theorem State.Fits.program_active (hs : s.Fits) {g : Program} (hg : s.program = some g) : s.active = true := by
  obtain ⟨-, -, -, -, -, -, hprog, -⟩ := hs.queue
  exact (hprog (by simp [hg])).1

/-- The end of a program settles the order business, where the record, the queue and a fault alone have changed
before its waiters receive its outcome. -/
theorem State.Fits.settles_program (hs : s.Fits) {g : Program} (hg : s.program = some g) {y z : State}
    (hmode : y.mode = s.mode) (hd : y.dockets = s.dockets) (hq : y.orderQueue = s.orderQueue)
    (hw : y.waiters = s.waiters) (hcauses : y.shortCause = s.shortCause ∧ y.emptyCause = s.emptyCause)
    (hlock : y.LockoutFits) (r : RecordId) (ok : Bool) (hz : SameTrade (y.waitersEnd r ok) z) :
    s.Settled (State.conclude s z) := by
  have hactive := hs.program_active hg
  have hslips : y.Slips := hs.slips.same hmode (fun m _ _ => by rw [State.orderState?_congr hd]) hq
    (State.takers_kinds (by rw [hw])) fun _ => hd
  obtain ⟨hended, hpay⟩ := hslips.waitersEnd (by simpa [State.active, hmode] using hactive) r ok
  obtain ⟨zd, zq, zw, -, zs, ze, zl⟩ := hz
  refine State.Due.conclude ⟨zl.1.trans (by simpa using hmode), zs.trans (by simpa using hcauses.1),
    fun h => absurd (ze.trans (by simpa using hcauses.2)) h, fun m _ => ?_⟩ hs.short
    (hended.same zl.1 (fun m _ _ => by rw [State.orderState?_congr zd]) zq zw fun _ => zd)
    ((hlock.same (by simp [SameLocks])).same zl)
  rw [State.payoutOf_congr zd, hpay, State.payoutOf_congr hd]

theorem State.Fits.settles_completes (hs : s.Fits) {g : Program} (hg : s.program = some g) :
    s.Settled (State.conclude s (s.programCompletes g)) :=
  hs.settles_program hg (z := s.programCompletes g)
    (y := ({ s with program := none, store := s.store.write g.record g.image } : State).entryEnds)
    (by simp) (by simp) (by simp) (by simp) (by simp) (hs.lockout.same (by simp [SameLocks])) g.record true
    (by simp [SameTrade, SameLocks, State.programCompletes])

theorem State.Fits.settles_attemptFails (hs : s.Fits) {g : Program} (hg : s.program = some g) :
    s.Settled (s.attemptFails g) := by
  have hverify (y : State) : ((y.verifyFault g.record).entryEnds).LockoutFits := by
    refine State.LockoutFits.same (s := y.verifyFault g.record) ?_ (by simp [SameLocks])
    unfold State.verifyFault
    split
    · exact State.noteFault_fits _ _
    · exact State.recordFault_fits _ _
  unfold State.attemptFails
  split
  · exact hs.same (by simp [SameTrade, SameLocks, State.takers])
  · exact hs.settles_program hg (z := s.programFails g)
      (y := ((({ s with program := none } : State).leaveFailed g).verifyFault g.record).entryEnds)
      (by simp) (by simp) (by simp) (by simp) (by simp) (hverify _) g.record false
      (by simp [SameTrade, SameLocks, State.takers, State.programFails])

/-! ### SOFT_RESET (R45, R188) -/

/-- An order handed back by SOFT_RESET returns to the queue, or stays OFFERED until its program ends (R45). -/
theorem State.Slips.endHandOver (h : s.Slips) (hnums : (s.dockets.map (·.number)).Nodup)
    (hactive : s.active = true) :
    s.endHandOver.Slips ∧ ∀ m, s.endHandOver.payoutOf m = s.payoutOf m := by
  have hnone : ({ s with handedBack := none } : State).Slips :=
    h.same rfl (fun _ _ _ => Iff.rfl) rfl rfl fun _ => rfl
  unfold State.endHandOver
  dsimp only
  split
  · split
    · refine ⟨hnone.same (by simp) (fun m _ _ => ?_) (by simp) (State.takers_kinds (by simp)) fun _ => by simp,
        fun m => ?_⟩
      · rw [State.orderState?_congr (s := s) (by simp)]
        exact Iff.of_eq (congrArg (· = _) (State.orderState?_congr rfl m).symm)
      · exact State.payoutOf_congr (by simp) m
    · rename_i num hun _
      have hst := State.unstarted?_dispensing (s := { s with handedBack := none }) hnums hun
      have hreturned := hnone.returnOrder hactive (by simp [hst]) (hnone.not_taker hst (by decide))
      refine ⟨hreturned.same rfl (fun _ _ _ => Iff.rfl) rfl rfl fun _ => rfl, fun m => ?_⟩
      refine (State.payoutOf_congr (State.returnOrder_dockets _ num) m).trans ?_
      exact State.payoutOf_setOrderState _ num m .ready
    · exact ⟨hnone, fun _ => rfl⟩
  · exact ⟨hnone, fun _ => rfl⟩

theorem State.dropPortWaiters_takers (s : State) : s.dropPortWaiters.takers = [] := by
  refine List.eq_nil_iff_forall_not_mem.mpr fun m hm => ?_
  obtain ⟨w, hw, hk⟩ := State.mem_takers.mp hm
  have := (List.mem_filter.mp hw).2
  simp [hk] at this

@[simp] theorem State.endHandOver_frame (s : State) :
    s.endHandOver.mode = s.mode ∧ s.endHandOver.faults = s.faults ∧ s.endHandOver.lockout = s.lockout ∧
    s.endHandOver.settings = s.settings ∧ s.endHandOver.shortCause = s.shortCause ∧
    s.endHandOver.emptyCause = s.emptyCause ∧ s.endHandOver.float = s.float ∧
    s.endHandOver.yardTime = s.yardTime := by
  unfold State.endHandOver
  dsimp only
  split
  · split <;> simp
  · simp

/-- A part in service that goes into its drain keeps its orders (R188). -/
theorem State.Slips.drains (h : s.Slips) (hactive : s.active = true) (hmode : t.mode = .draining)
    (hd : t.dockets = s.dockets) (hq : t.orderQueue = s.orderQueue) (htakers : t.takers = s.takers) :
    t.Slips := by
  have horder := State.orderState?_congr hd
  refine ⟨?_, htakers ▸ h.taker, ?_, fun _ => hq ▸ h.nodup hactive, fun _ => ?_, fun hscan => ?_⟩
  · simpa only [horder] using h.hand
  · simpa only [horder, htakers] using h.takes
  · simpa only [horder, hq] using h.queue hactive
  · rw [hmode] at hscan
    cases hscan

theorem State.Fits.settles_softReset (hs : s.Fits) (hmode : s.mode = .running) {t : State}
    (ht : t = State.conclude s s.endHandOver.dropPortWaiters) :
    s.Settled ({ t with mode := .draining, address := addressOf t.addrStrap, ports := .all {} }).drivePins := by
  have hactive := State.active_of_running hmode
  obtain ⟨hslips, hpay⟩ := hs.slips.endHandOver hs.ledger.numbers hactive
  have hdropped : s.endHandOver.dropPortWaiters.Slips :=
    ⟨hslips.hand, by simp [State.dropPortWaiters_takers], by simp [State.dropPortWaiters_takers],
      hslips.nodup, hslips.queue, hslips.scan⟩
  have hsettled : s.Settled t := by
    rw [ht]
    exact State.Due.conclude ⟨by simp [State.dropPortWaiters], by simp [State.dropPortWaiters],
      by simp [State.dropPortWaiters], fun m _ => hpay m⟩ hs.short hdropped
      (hs.lockout.same (by simp [SameLocks, State.dropPortWaiters]))
  have htmode : t.mode = .running := by simp [ht, State.dropPortWaiters, hmode]
  have htactive := State.active_of_running htmode
  refine ⟨hsettled.slips.drains htactive (by simp) (by simp) (by simp) (by simp [State.takers]), fun _ => ?_,
    fun _ => ?_, fun _ h => ?_⟩
  · simpa using hsettled.lockout htactive
  · rw [State.shortNow_congr (s := t) (by simp) (by simp) (by simp)]
    simpa using hsettled.short htactive
  · simp [hmode] at h

end Sys2Proof.Machine
end

section
/-! SUPPORT. The order business through every row. -/
namespace Sys2Proof.Machine

variable {s t : State}

theorem State.Fits.settles_self (hs : s.Fits) : s.Settled s := hs.same (by simp [SameTrade, SameLocks])

theorem State.Settled.ite {C : Prop} [Decidable C] (ht : s.Settled t) (h : s.Settled s) :
    ∃ u, (if C then Host.Outcome.next (φ := Fault) (ρ := Refusal) t else .next s) = .next u ∧ s.Settled u :=
  DocketLaw.next_ite ht h

/-- A lockout mask set settles lockout anew (R171). -/
theorem State.setLockoutMask_fits (s : State) (m : BitVec 8) : (s.setLockoutMask m).LockoutFits := by
  have hqueue (y : State) (hy : y.LockoutFits) : (y.queueRecord .fault).LockoutFits :=
    hy.same (by simp [SameLocks])
  exact hqueue _ (State.evalLockout_fits _)

/-- An event that ends after work which left the orders, the float and the causes, and evaluated lockout. -/
theorem State.Fits.settles_faults (hs : s.Fits) {a : State} (hmode : a.mode = s.mode)
    (hd : a.dockets = s.dockets) (hq : a.orderQueue = s.orderQueue) (htakers : a.takers = s.takers)
    (hshort : a.shortCause = s.shortCause) (hempty : a.emptyCause ≠ s.emptyCause → a.Flagged .payout .floatOut)
    (hlock : a.LockoutFits) : s.Settled (State.conclude s a) :=
  State.Due.conclude ⟨hmode, hshort, hempty, fun m _ => State.payoutOf_congr hd m⟩ hs.short
    (hs.slips.same hmode (fun m _ _ => by rw [State.orderState?_congr hd]) hq htakers fun _ => hd) hlock

/-- SET_PARAM but for the lockout mask leaves that mask (R79). -/
theorem Settings.setParam_lockoutMask {g g' : Settings} {id v kept : Nat}
    (h : g.setParam id v = some (g', kept)) : g'.lockoutMask = g.lockoutMask := by
  unfold Settings.setParam at h
  split at h
  case h_6 | h_7 => cases h; rfl
  case h_14 => cases h
  all_goals
    obtain ⟨x, -, hx⟩ := Option.map_eq_some_iff.mp h
    cases hx
    rfl

/-- A lane's enable and what follows from it leave lockout and the causes. -/
theorem State.enableOn_locks (s : State) (n : Lane) : SameLocks s (s.enableOn n) ∧
    (s.enableOn n).shortCause = s.shortCause ∧ (s.enableOn n).emptyCause = s.emptyCause := by
  unfold State.enableOn State.setEnable
  dsimp only
  split_ifs <;> simp [SameLocks]

theorem State.enableOff_locks (s : State) (n : Lane) : SameLocks s (s.enableOff n) ∧
    (s.enableOff n).shortCause = s.shortCause ∧ (s.enableOff n).emptyCause = s.emptyCause := by
  unfold State.enableOff State.setEnable
  dsimp only
  split <;> simp [SameLocks]

theorem State.setEmptyCause_raises (s : State) (x : Bool)
    (h : (s.setEmptyCause x).emptyCause ≠ s.emptyCause) : (s.setEmptyCause x).Flagged .payout .floatOut :=
  State.setEmptyCause_flagged fun hx => h (by simp [hx])

/-- REPORT_DISPENSER settles the order business, whatever it reports (R60, R61). -/
theorem State.Fits.settles_report (hs : s.Fits) (p : Port) (v : Nat) : s.Settled (match v with
    | 1 => State.conclude s ((s.setEmptyCause true).respond p .reportDispenser .ok [])
    | 2 => State.conclude s ((s.setEmptyCause false).respond p .reportDispenser .ok [])
    | 3 => State.conclude s ((s.recordFault .dispenserFault).respond p .reportDispenser .ok [])
    | _ => s.refused p .reportDispenser .outOfRange) := by
  have hcause (x : Bool) : s.Settled
      (State.conclude s ((s.setEmptyCause x).respond p .reportDispenser .ok [])) := by
    refine hs.settles_faults (by simp) (by simp) (by simp) (by simp [State.takers]) (by simp) (fun h => ?_)
      (hs.lockout.same (by simp [SameLocks]))
    exact (State.Steady.respond ..).flags _ _ (s.setEmptyCause_raises x (by simpa using h))
  split
  · exact hcause true
  · exact hcause false
  · exact hs.settles_faults (by simp) (by simp) (by simp) (by simp [State.takers]) (by simp) (by simp)
      ((s.recordFault_fits .dispenserFault).same (by simp [SameLocks]))
  · exact hs.settles_refused ..

theorem State.Fits.settles_mask (hs : s.Fits) (m : BitVec 8) (p : Port) (b : Body) :
    s.Settled (State.conclude s ((s.setLockoutMask m).respond p .setParam .ok b)) := by
  have hlock := (s.setLockoutMask_fits m).same (t := (s.setLockoutMask m).respond p .setParam .ok b)
    (by simp [SameLocks])
  refine hs.settles_faults ?_ ?_ ?_ ?_ ?_ ?_ hlock <;> simp [State.setLockoutMask, State.takers]

/-- An office edit of an account settles the order business. -/
theorem State.Fits.settles_edit (hs : s.Fits) (l : Table Account) (p : Port) (n : Nat) (c : CommandCode) :
    s.Settled (State.conclude s (({ s with accounts := l } : State).editAccount p n c)) :=
  hs.concluded (by simp [SameTrade, SameLocks, State.takers, State.editAccount, WaitKind.taken?])

/-- Every row that leaves the books settles the order business. -/
theorem State.Fits.settles_other (hs : s.Fits) {i : Instr} (hi : i.movesBooks = false) :
    EndsIn s.Settled i s := by
  have hself := hs.settles_self
  cases i <;> simp only [Instr.movesBooks, Bool.true_eq_false] at hi
  case yardSecond =>
    show ∃ t, execYardSecond s = .next t ∧ s.Settled t
    unfold execYardSecond
    split
    · exact ⟨_, rfl, hself⟩
    · exact ⟨_, rfl, hs.same (by simp [SameTrade, SameLocks, State.takers])⟩
  case scanComplete =>
    by_cases hmode : s.mode = .scanning
    · exact ⟨_, exec_scanComplete hmode, hs.scanCompleted_settled hmode⟩
    · exact ⟨s, execScanComplete_of_ne hmode, hself⟩
  case resultConsumed | invalidCommand =>
    exact State.Settled.ite (hs.same (by simp [SameTrade, SameLocks, State.takers])) hself
  case writeDiscarded | writeIgnored => exact ⟨_, rfl, hself⟩
  case lineFree | callSent => exact ⟨_, rfl, hs.settles_turnMoves _ _⟩
  case lineStuck | echo | noAnswer | answerTimeout | answerComplete => exact ⟨_, rfl, hs.settles_turnEnds _⟩
  case gateSilent | tuneLimit | lost | jam => exact ⟨_, rfl, hs.settles_turnEndsIf _ _⟩
  all_goals refine ⟨_, rfl, hs.settles_command fun _ => ?_⟩
  case setTime | readFloat | readStore | readFaults | readEvents | ackReset =>
    exact hs.same (by simp [SameTrade, SameLocks, State.takers])
  case storeSettings =>
    exact hs.concluded (by simp [SameTrade, SameLocks, State.takers, WaitKind.taken?])
  case readDocket | nextFinished | readClass | readLane | readStray | clearStray | readLinkStats =>
    split <;> exact hs.same (by simp [SameTrade, SameLocks, State.takers])
  case setLane =>
    split
    · exact hs.settles_refused ..
    · split
      · exact hs.same (by simp [SameTrade, SameLocks, State.takers, State.setLaneSettings])
      · exact hs.settles_refused ..
  case setClass =>
    dsimp only
    split
    · exact hs.settles_check (hs.same (by simp [SameTrade, SameLocks, State.takers]))
    · exact hs.settles_refused ..
  case accountRead =>
    refine hs.settles_check ?_
    split
    · exact hs.settles_refused ..
    · exact hs.settles_answered ..
  case loadFloat =>
    refine hs.settles_check (hs.settles_faults (by simp) (by simp) (by simp) ?_ (by simp) (by simp)
      (hs.lockout.same (by simp [SameLocks])))
    simp [State.takers, WaitKind.taken?]
  case clearFaults =>
    refine hs.settles_check (hs.settles_faults (by simp) (by simp) (by simp) ?_ (by simp) (by simp) ?_)
    · simp [State.takers]
    · exact (State.evalLockout_fits ((({ s with faults := s.faults.emptied } : State)).queueRecord .fault)).same
        (by simp [SameLocks])
  case reportDispenser => exact hs.settles_report _ _
  case accountAdd =>
    refine hs.settles_check (hs.settles_check ?_)
    split
    · exact hs.settles_refused ..
    · exact hs.settles_check (hs.settles_edit _ _ _ _)
  case accountRemove =>
    refine hs.settles_check ?_
    split
    · exact hs.settles_refused ..
    · exact hs.settles_check (hs.settles_check (hs.settles_edit _ _ _ _))
  case accountRewrite =>
    refine hs.settles_check ?_
    split
    · exact hs.settles_refused ..
    · exact hs.settles_check (hs.settles_edit _ _ _ _)
  case setParam =>
    dsimp only
    split
    · exact hs.settles_check (hs.settles_mask _ _ _)
    · split
      · rename_i hset
        have hmask := Settings.setParam_lockoutMask hset
        split <;> exact hs.same (by simp [SameTrade, SameLocks, State.takers, hmask])
      · exact hs.settles_refused ..
  case laneEnable =>
    dsimp only
    split
    · refine hs.settles_check ?_
      split
      · exact hs.settles_laneCommand (State.Tallied.start.enableOn _) (State.enableOn_locks ..).1
          (State.enableOn_locks ..).2 _ _
      · exact hs.settles_laneCommand (State.Tallied.start.enableOff _) (State.enableOff_locks ..).1
          (State.enableOff_locks ..).2 _ _
    · exact hs.settles_refused ..
  case tuneLane =>
    split
    · exact hs.settles_refused ..
    · exact hs.settles_check (hs.settles_check (hs.settles_laneCommand (State.Tallied.start.retune _)
        (by simp [SameLocks]) (by simp) _ _))
  case reseedLane =>
    split
    · exact hs.settles_refused ..
    · exact hs.settles_check (hs.settles_laneCommand (State.Tallied.start.reseed _)
        (by simp [SameLocks]) (by simp) _ _)

/-- A closing that completes settles the order business at the end of its event. -/
theorem State.Fits.settles_closing (hs : s.Fits) {y a : State} (hslips : y.Slips) (hstand : s.OrdersStand y)
    (hlocks : SameLocks s y) (hcauses : y.shortCause = s.shortCause ∧ y.emptyCause = s.emptyCause)
    (ha : SameTrade y a) : s.Settled (State.conclude s a) := by
  obtain ⟨hd, hq, ht, -, hshort, hempty, hl⟩ := ha
  refine State.Due.conclude ⟨hl.1.trans hlocks.1, hshort.trans hcauses.1,
    fun h => absurd (hempty.trans hcauses.2) h, fun m hm => ?_⟩ hs.short
    (hslips.same hl.1 (fun m _ _ => by rw [State.orderState?_congr hd]) hq ht fun _ => hd)
    ((hs.lockout.same hlocks).same hl)
  rw [State.payoutOf_congr hd]
  simp only [State.payoutOf, hstand.dockets m (by simp [hm])]

/-- A command that answers after work which left the orders. -/
theorem State.Fits.settles_quietly (hs : s.Fits) {y : State} (h : s.Quiet y) (p : Port) (c : CommandCode)
    (b : Body) : s.Settled (y.answered p c b) :=
  hs.quiet (h.then (by simp [SameTrade, SameLocks, State.takers]))

/-- A voided docket had no order (R20). -/
theorem State.void_quiet (hscan : s.mode ≠ .scanning) (num : Nat) (n : Lane) :
    s.Quiet (((s.updateDocket num Docket.voided).freeLane n).joinFinished num) :=
  (State.updateDocket_quiet (num := num) (f := Docket.voided) hscan fun _ => ⟨rfl, rfl, rfl⟩).then
    (by simp [SameTrade, SameLocks, State.takers])

/-- Every row that moves the books settles the order business. -/
theorem State.Fits.settles_books (hs : s.Fits) {i : Instr} (hi : i.movesBooks = true) :
    EndsIn s.Settled i s := by
  have hself := hs.settles_self
  have hledger := hs.ledger
  have hslips := hs.slips
  have hcut := State.cutProgram_store_fits hs.tables.1 hs.queue
  have hrun {p : Port} {c : CommandCode} {ps : List Byte} (h : s.Takes p c ps) : s.mode ≠ .scanning := by
    simp [hs.takes_running h]
  cases i <;> simp only [Instr.movesBooks, Bool.false_eq_true] at hi
  case powerOnReset =>
    refine ⟨_, rfl, ?_⟩
    split
    · exact State.Slips.outOfService (.idle rfl rfl fun m d hd => by cases hd) rfl s
    · exact State.powerUp_settled hcut s
  case resetNAsserted =>
    show ∃ t, execResetNAsserted s = .next t ∧ s.Settled t
    unfold execResetNAsserted
    split
    · exact ⟨_, rfl, hs.same (by simp [SameTrade, SameLocks, State.takers])⟩
    · refine ⟨_, rfl, State.Slips.outOfService ⟨?_, by simp [State.takers], by simp [State.takers],
        by simp [State.active], by simp [State.active], by simp⟩ (by simp [State.active]) s⟩
      intro m m' st st' h h'
      rw [State.orderState?_congr (s := s) (by simp)] at h h'
      exact hslips.hand m m' st st' h h'
  case resetNReleased =>
    refine ⟨_, rfl, ?_⟩
    split
    · exact State.powerUp_settled
        (State.cutProgram_store_fits (s := { s with resetLow := false }) hs.tables.1 hs.queue) s
    · exact hs.same (by simp [SameTrade, SameLocks, State.takers])
  case softReset p ps =>
    exact ⟨_, rfl, hs.settles_command fun h => hs.settles_softReset (hs.takes_running h) rfl⟩
  case softResetDrainEnd =>
    show ∃ t, execSoftResetDrainEnd s = .next t ∧ s.Settled t
    unfold execSoftResetDrainEnd
    split
    · refine ⟨_, rfl, s.lanesToOff.floatToClear.drainedOut_emptied.settled ?_ rfl rfl true s⟩
      simpa using hs.tables.1
    · exact ⟨_, rfl, hself⟩
  case resultHoldExpiry p => exact hs.settles_resultHoldExpiry p
  case openDocket =>
    refine ⟨_, rfl, hs.settles_command fun h => ?_⟩
    dsimp only
    split
    · exact hs.settles_refused ..
    · refine hs.settles_check (hs.settles_check ?_)
      split
      · exact hs.settles_refused ..
      · rename_i hslot
        split
        · exact hs.settles_refused ..
        · exact hs.settles_quietly (State.openNew_quiet (hrun h) (State.freeNumber_free (by omega)).1 _ _) _ _ _
  case adjust =>
    refine ⟨_, rfl, hs.settles_command fun h => ?_⟩
    dsimp only
    split
    · refine hs.settles_check ?_
      split
      · exact hs.settles_refused ..
      · refine hs.settles_check ?_
        split
        · exact hs.settles_refused ..
        · exact hs.settles_quietly (State.updateDocket_quiet (f := fun d => { d with tallies := some _ }) (hrun h)
            fun _ => ⟨rfl, rfl, rfl⟩) _ _ _
    · exact hs.settles_refused ..
  case closeDocket =>
    refine ⟨_, rfl, hs.settles_command fun h => ?_⟩
    split
    · exact hs.settles_refused ..
    · split
      · exact hs.settles_refused ..
      · rename_i d hd
        obtain ⟨hclosed, hstand⟩ := hslips.close hledger (hrun h) hd
        exact hs.settles_check (hs.settles_closing hclosed hstand (by simp [SameLocks]) (by simp)
          (by simp [SameTrade, SameLocks, State.takers]))
  case voidDocket =>
    refine ⟨_, rfl, hs.settles_command fun h => ?_⟩
    dsimp only
    split
    · exact hs.settles_refused ..
    · exact hs.settles_check (hs.settles_quietly (State.void_quiet (hrun h) _ _) _ _ _)
  case releaseDocket =>
    refine ⟨_, rfl, hs.settles_command fun h => ?_⟩
    dsimp only
    split
    · exact hs.settles_refused ..
    · rename_i d hd
      split
      · exact hs.settles_refused ..
      · rename_i hf
        exact hs.settles_quietly (hledger.release_quiet (hrun h) hd (by simpa using hf)) _ _ _
  case closeGraceExpiry n =>
    show ∃ t, execCloseGraceExpiry n s = .next t ∧ s.Settled t
    unfold execCloseGraceExpiry
    split
    · rename_i d _ hd
      obtain ⟨hclosed, hstand⟩ := hslips.graceExpires hledger hd
      exact State.Settled.ite (hs.settles_closing hclosed hstand (by simp [SameLocks]) (by simp)
        (by simp [SameTrade, SameLocks])) hself
    · exact ⟨_, rfl, hself⟩
  case takeOrder =>
    refine ⟨_, rfl, hs.settles_command fun h => ?_⟩
    split
    · exact hs.settles_offer (hs.takes_active h) ‹_› ‹_› _
    · exact hs.settles_refused ..
    · exact hs.settles_refused ..
  case dispenseLimitExpiry =>
    show ∃ t, execDispenseLimitExpiry s = .next t ∧ s.Settled t
    unfold execDispenseLimitExpiry
    split
    · split
      · exact ⟨_, rfl, hs.settles_suspend (And.left ‹_›) (And.right ‹_›)⟩
      · exact ⟨_, rfl, hself⟩
    · exact ⟨_, rfl, hself⟩
  case confirmPayout =>
    refine ⟨_, rfl, hs.settles_command fun h => hs.settles_check (hs.settles_check ?_)⟩
    split
    · exact hs.settles_pay (hs.takes_active h) (.inl ‹_›) _ _ rfl _
    · exact hs.settles_pay (hs.takes_active h) (.inr ‹_›) _ _ rfl _
    · exact hs.settles_refused ..
  case resolveSuspense | resolveSuspenseNotPaid => exact ⟨_, rfl, hs.settles_resolveFrame _ _⟩
  case programAttemptEnd equal =>
    show ∃ t, execProgramAttemptEnd equal s = .next t ∧ s.Settled t
    unfold execProgramAttemptEnd
    split
    · rename_i g hg
      refine ⟨_, rfl, ?_⟩
      split
      · exact hs.settles_completes hg
      · exact hs.settles_attemptFails hg
    · exact ⟨_, rfl, hself⟩
  case programAttemptTimeout =>
    show ∃ t, execProgramAttemptTimeout s = .next t ∧ s.Settled t
    unfold execProgramAttemptTimeout
    split
    · exact ⟨_, rfl, hs.settles_attemptFails ‹_›⟩
    · exact ⟨_, rfl, hself⟩
  case powerLoss =>
    show ∃ t, execPowerLoss s = .next t ∧ s.Settled t
    unfold execPowerLoss
    split
    · exact ⟨_, rfl, hself⟩
    · exact ⟨_, rfl, State.Slips.outOfService (.idle rfl rfl fun m d hd => by cases hd) rfl s⟩

/-- Every step settles the order business. -/
theorem State.Fits.step_settled (hs : s.Fits) (hstep : step s = .next t) : s.Settled t := by
  unfold step at hstep
  split at hstep
  · cases hstep
    unfold State.tick State.tickTimers
    split
    · exact hs.settles_self
    · dsimp only
      split <;> exact hs.same (by simp [SameTrade, SameLocks, State.takers])
  · rename_i i rest hp
    have hpop : ({ s with pending := rest } : State).Fits :=
      ⟨hs.ports, hs.lockout, hs.tables, hs.queue, hs.dockets, hs.orders, hs.settlements, hs.short, hs.reset⟩
    have hrow : EndsIn ({ s with pending := rest } : State).Settled i { s with pending := rest } := by
      cases hi : i.movesBooks
      · exact hpop.settles_other hi
      · exact hpop.settles_books hi
    obtain ⟨u, hu, hsettled⟩ := hrow
    obtain rfl : u = t := by simpa [hu] using hstep
    exact ⟨hsettled.slips, hsettled.lockout, hsettled.short, hsettled.events⟩

end Sys2Proof.Machine

namespace Sys2Proof.Proofs
open Sys2Proof.Machine

/-- Settles O10: every row settles the order business, and the ledger that O9 keeps reads the queue by the
states of the orders. -/
theorem stepKeepsOrdersFit : Obligations.StepKeepsOrdersFit := by
  intro s t hs hstep
  have hpop (rest : List Instr) : ({ s with pending := rest } : State).Fits :=
    ⟨hs.ports, hs.lockout, hs.tables, hs.queue, hs.dockets, hs.orders, hs.settlements, hs.short, hs.reset⟩
  have hledger := step_cases ledgerLaw hs.ledger (fun i rest _ => (hpop rest).exec_ledger i) hstep
  exact (State.ordersFit_iff hledger).mpr (hs.step_settled hstep).slips

/-- Settles O11: lockout and the short cause are part of the order business that every row settles, and so are
the events of a step that keeps the mode. -/
theorem stepKeepsConditionsFit : Obligations.StepKeepsConditionsFit := by
  refine ⟨fun s t hs hstep => ?_, fun s t hs hactive hstep hmode => ?_⟩
  · exact ⟨(hs.step_settled hstep).lockout, (hs.step_settled hstep).short⟩
  · exact (hs.step_settled hstep).events hactive hmode

end Sys2Proof.Proofs
end

section
/-! SUPPORT. The float and yard time through every row but those that change one of them (R50, R53, R55, R56,
R192). -/
namespace Sys2Proof

/-- The rows that change the float or yard time, and the resets that discard them. -/
def Instr.movesMeters : Instr → Bool
  | .powerOnReset | .resetNReleased | .powerLoss | .yardSecond | .setTime _ _ | .confirmPayout _ _
  | .resolveSuspense _ _ | .resolveSuspenseNotPaid _ _ | .loadFloat _ _ => true
  | .resetNAsserted | .softReset _ _ | .softResetDrainEnd | .invalidCommand _ _ _ | .writeDiscarded _ _
  | .writeIgnored _ _ | .resultConsumed _ | .resultHoldExpiry _ | .openDocket _ _ | .adjust _ _
  | .closeDocket _ _ | .voidDocket _ _ | .readDocket _ _ | .nextFinished _ _ | .releaseDocket _ _
  | .closeGraceExpiry _ | .takeOrder _ _ | .dispenseLimitExpiry | .readFloat _ _ | .reportDispenser _ _
  | .programAttemptEnd _ | .programAttemptTimeout | .accountAdd _ _ | .accountRemove _ _
  | .accountRewrite _ _ | .accountRead _ _ | .readStore _ _ | .setClass _ _ | .setParam _ _ | .setLane _ _
  | .storeSettings _ _ | .readClass _ _ | .laneEnable _ _ | .tuneLane _ _ | .reseedLane _ _ | .readLane _ _
  | .readStray _ _ | .clearStray _ _ | .readLinkStats _ _ | .readFaults _ _ | .clearFaults _ _
  | .readEvents _ _ | .ackReset _ _ | .lineFree | .lineStuck | .echo | .callSent | .noAnswer
  | .answerTimeout | .answerComplete _ | .gateSilent _ | .tuneLimit _ | .lost _ | .jam _
  | .scanComplete => false

namespace Machine

/-- The float and yard time. -/
abbrev SameMeters (s t : State) : Prop := t.float = s.float ∧ t.yardTime = s.yardTime

variable {s t : State}

theorem State.command_meters {p : Port} {c : CommandCode} {ps : List Byte} {run : State → State}
    (hrun : s.Takes p c ps → SameMeters s (run s)) : SameMeters s (s.command p c ps run) := by
  obtain he | ⟨rc, -, -, he⟩ | ⟨htakes, he⟩ :=
    State.command_cases (s := s) (p := p) (c := c) (ps := ps) run
  · rw [he]; exact ⟨rfl, rfl⟩
  · rw [he]; simp [SameMeters]
  · rw [he]; exact hrun htakes

theorem State.turnEnds_meters (s : State) (e : TurnEnd) : SameMeters s (s.turnEnds e) := by
  unfold State.turnEnds
  split <;> simp [SameMeters]

theorem State.turnEndsIf_meters (s : State) (e : TurnEnd) (test : State → Turn → Verdict → Bool) :
    SameMeters s (s.turnEndsIf e test) := by
  unfold State.turnEndsIf
  split
  · split
    · exact s.turnEnds_meters e
    · exact ⟨rfl, rfl⟩
  · exact ⟨rfl, rfl⟩

theorem State.turnMoves_meters (s : State) (a b : TurnPhase) : SameMeters s (s.turnMoves a b) := by
  unfold State.turnMoves
  split
  · split <;> simp [SameMeters]
  · exact ⟨rfl, rfl⟩

theorem State.attemptFails_meters (s : State) (g : Program) : SameMeters s (s.attemptFails g) := by
  unfold State.attemptFails
  split <;> simp [SameMeters]

/-- The scan that ends a drain keeps the float (R55). -/
theorem State.scan_soft_float (s : State) : (s.scan true).float = s.float := by
  obtain ⟨-, -, -, hfault, -⟩ := s.scanFault_frame
  obtain ⟨-, -, -, hsettings⟩ := s.scanFault.scanSettings_frame
  have hkept : (s.scanFault.scanSettings.scanFloat true).float = s.scanFault.scanSettings.float :=
    (s.scanFault.scanSettings.scanFloat_scans true).2
  rw [State.scan, (State.scanSettlements_frame _ _).2.1, (State.scanAccounts_frame _ _).2.2.1, hkept, hsettings,
    hfault]

theorem State.lanesToOff_yardTime (s : State) : s.lanesToOff.yardTime = s.yardTime := by
  simp [State.lanesToOff, Lane.list]

theorem State.cleared_meters (s : State) : SameMeters s s.lanesToOff.floatToClear.drainedOut := by
  simp [SameMeters, State.drainedOut, State.floatToClear, s.lanesToOff_float, s.lanesToOff_yardTime]

theorem State.drainEnded_meters (s : State) : SameMeters s s.drainEnded := by
  obtain ⟨hfloat, hyard⟩ := s.cleared_meters
  obtain ⟨-, -, -, -, -, hkept, -⟩ := State.scan_frame s.lanesToOff.floatToClear.drainedOut true
  simp [State.drainEnded, SameMeters, State.scan_soft_float, hfloat, hkept, hyard]

theorem State.enableOn_meters (s : State) (n : Lane) : SameMeters s (s.enableOn n) := by
  unfold State.enableOn State.setEnable
  dsimp only
  split_ifs <;> simp [SameMeters]

theorem State.enableOff_meters (s : State) (n : Lane) : SameMeters s (s.enableOff n) := by
  unfold State.enableOff State.setEnable
  dsimp only
  split <;> simp [SameMeters]

/-- Every other row keeps the float and yard time. -/
theorem exec_sameMeters {i : Instr} (hi : i.movesMeters = false) (s : State) : EndsIn (SameMeters s) i s := by
  cases i <;> simp only [Instr.movesMeters, Bool.true_eq_false] at hi
  case resetNAsserted =>
    show ∃ t, execResetNAsserted s = .next t ∧ SameMeters s t
    unfold execResetNAsserted
    split <;> exact ⟨_, rfl, by simp [SameMeters]⟩
  case softResetDrainEnd => exact DocketLaw.next_ite s.drainEnded_meters ⟨rfl, rfl⟩
  case scanComplete =>
    by_cases hmode : s.mode = .scanning
    · obtain ⟨⟨-, -, -, -, hyard, -⟩, -, ⟨-, -, -, hfloat, -⟩, -⟩ := s.opened_frame
      exact ⟨_, exec_scanComplete hmode, by simp [SameMeters, State.scanCompleted, hyard, hfloat]⟩
    · exact ⟨s, execScanComplete_of_ne hmode, rfl, rfl⟩
  case writeDiscarded | writeIgnored => exact ⟨_, rfl, rfl, rfl⟩
  case resultConsumed | invalidCommand => exact DocketLaw.next_ite (by simp [SameMeters]) ⟨rfl, rfl⟩
  case resultHoldExpiry p =>
    show ∃ t, execResultHoldExpiry p s = .next t ∧ SameMeters s t
    unfold execResultHoldExpiry
    dsimp only
    split
    · split <;> exact ⟨_, rfl, by simp [SameMeters]⟩
    · exact ⟨_, rfl, rfl, rfl⟩
  case closeGraceExpiry n =>
    show ∃ t, execCloseGraceExpiry n s = .next t ∧ SameMeters s t
    unfold execCloseGraceExpiry
    split
    · exact DocketLaw.next_ite (by simp [SameMeters]) ⟨rfl, rfl⟩
    · exact ⟨_, rfl, rfl, rfl⟩
  case dispenseLimitExpiry =>
    show ∃ t, execDispenseLimitExpiry s = .next t ∧ SameMeters s t
    unfold execDispenseLimitExpiry
    split
    · exact DocketLaw.next_ite (by simp [SameMeters]) ⟨rfl, rfl⟩
    · exact ⟨_, rfl, rfl, rfl⟩
  case programAttemptEnd equal =>
    show ∃ t, execProgramAttemptEnd equal s = .next t ∧ SameMeters s t
    unfold execProgramAttemptEnd
    split
    · refine ⟨_, rfl, ?_⟩
      split
      · simp [SameMeters]
      · exact s.attemptFails_meters _
    · exact ⟨_, rfl, rfl, rfl⟩
  case programAttemptTimeout =>
    show ∃ t, execProgramAttemptTimeout s = .next t ∧ SameMeters s t
    unfold execProgramAttemptTimeout
    split
    · exact ⟨_, rfl, s.attemptFails_meters _⟩
    · exact ⟨_, rfl, rfl, rfl⟩
  case lineFree | callSent => exact ⟨_, rfl, s.turnMoves_meters _ _⟩
  case lineStuck | echo | noAnswer | answerTimeout | answerComplete => exact ⟨_, rfl, s.turnEnds_meters _⟩
  case gateSilent | tuneLimit | lost | jam => exact ⟨_, rfl, s.turnEndsIf_meters _ _⟩
  all_goals refine ⟨_, rfl, State.command_meters fun _ => ?_⟩
  case softReset => simp [SameMeters, State.dropPortWaiters]
  case laneEnable =>
    dsimp only
    split
    · split
      · simp [SameMeters]
      · split
        · simpa [SameMeters] using s.enableOn_meters _
        · simpa [SameMeters] using s.enableOff_meters _
    · simp [SameMeters]
  case setParam =>
    dsimp only
    (repeat' split) <;> simp [SameMeters, State.setLockoutMask]
  case openDocket | adjust | voidDocket | releaseDocket | accountRemove | accountRewrite | accountRead
      | accountAdd | setClass =>
    dsimp only
    (repeat' split) <;> simp [SameMeters, State.openNew]
  all_goals
    (repeat' split) <;> simp [SameMeters, State.setLaneSettings]

/-- A frame that spells NOT_PAID has no paid amount (R185). -/
theorem paidField_of_spells {ps : List Byte} (h : spellsNotPaid ps = true) : paidField ps = none := by
  simp only [spellsNotPaid, Bool.and_eq_true, beq_iff_eq] at h
  simp [paidField, field, h.2, notPaidField, beNat, max32]

/-- A command that a port does not have changes nothing beside that port (R175). -/
theorem State.command_not_permitted {p : Port} {c : CommandCode} (h : c.permitted p = false) (ps : List Byte)
    (run : State → State) : SameMeters s (s.command p c ps run) :=
  State.command_meters fun htakes => absurd htakes.2.1 (by simp [h])

theorem State.confirmPayout_yardTime (p : Port) (ps : List Byte) :
    EndsIn (fun t => t.yardTime = s.yardTime) (.confirmPayout p ps) s := by
  refine ⟨_, rfl, ?_⟩
  obtain he | ⟨rc, -, -, he⟩ | ⟨-, he⟩ := State.command_cases (s := s) (p := p) (c := .confirmPayout) (ps := ps) _
  · rw [he]
  · rw [he]; simp
  · rw [he]
    dsimp only
    (repeat' split) <;> simp

theorem State.resolveFrame_yardTime (p : Port) (ps : List Byte) :
    (s.resolveFrame p ps).yardTime = s.yardTime := by
  unfold State.resolveFrame
  obtain he | ⟨rc, -, -, he⟩ | ⟨-, he⟩ := State.command_cases (s := s) (p := p) (c := .resolveSuspense) (ps := ps) _
  · rw [he]
  · rw [he]; simp
  · rw [he]
    dsimp only
    (repeat' split) <;> simp

/-- NOT_PAID gives nothing out (R54). -/
theorem State.notPaid_float (p : Port) {ps : List Byte} (h : spellsNotPaid ps = true) :
    (s.resolveFrame p ps).float = s.float := by
  unfold State.resolveFrame
  obtain he | ⟨rc, -, -, he⟩ | ⟨-, he⟩ := State.command_cases (s := s) (p := p) (c := .resolveSuspense) (ps := ps) _
  · rw [he]
  · rw [he]; simp
  · rw [he]
    simp only [paidField_of_spells h]
    (repeat' split) <;> simp

theorem State.loadFloat_yardTime (p : Port) (ps : List Byte) :
    EndsIn (fun t => t.yardTime = s.yardTime) (.loadFloat p ps) s := by
  refine ⟨_, rfl, ?_⟩
  obtain he | ⟨rc, -, -, he⟩ | ⟨-, he⟩ := State.command_cases (s := s) (p := p) (c := .loadFloat) (ps := ps) _
  · rw [he]
  · rw [he]; simp
  · rw [he]
    dsimp only
    split <;> simp

theorem State.setTime_float (p : Port) (ps : List Byte) :
    EndsIn (fun t => t.float = s.float) (.setTime p ps) s := by
  refine ⟨_, rfl, ?_⟩
  obtain he | ⟨rc, -, -, he⟩ | ⟨-, he⟩ := State.command_cases (s := s) (p := p) (c := .setTime) (ps := ps) _ <;>
    rw [he] <;> simp

/-- What a row ends in is the state it is seen to end in. -/
theorem EndsIn.of_next {P : State → Prop} {i : Instr} (h : EndsIn P i s) (hexec : exec i s = .next t) : P t := by
  obtain ⟨t', hexec', hP⟩ := h
  cases hexec.symm.trans hexec'
  exact hP

end Machine

namespace Proofs
open Machine

/-- Settles O16: the rows that are not named keep both, the money commands keep yard time and the clock's the
float, and NOT_PAID returns the order without a payment. -/
theorem onlyTheseChangeFloatAndTime : Obligations.OnlyTheseChangeFloatAndTime := by
  intro i s t hwf hexec
  cases hmoves : i.movesMeters
  case false =>
    obtain ⟨hfloat, hyard⟩ := (exec_sameMeters hmoves s).of_next hexec
    exact ⟨absurd hfloat, absurd hyard⟩
  cases i <;> simp only [Instr.movesMeters, Bool.false_eq_true] at hmoves
  case powerOnReset | resetNReleased | powerLoss => simp
  case yardSecond =>
    refine ⟨fun hne => absurd ?_ hne, fun _ => .inl rfl⟩
    have hfloat : EndsIn (fun t => t.float = s.float) .yardSecond s := DocketLaw.next_ite rfl rfl
    exact hfloat.of_next hexec
  case setTime p ps =>
    refine ⟨absurd ((State.setTime_float p ps).of_next hexec), fun hne => ?_⟩
    cases p
    case office => exact .inr (.inl ⟨ps, rfl⟩)
    case lane | payout => exact absurd (EndsIn.of_next ⟨_, rfl, State.command_not_permitted rfl ps _⟩ hexec).2 hne
  case confirmPayout p ps =>
    refine ⟨fun hne => ?_, absurd ((State.confirmPayout_yardTime p ps).of_next hexec)⟩
    cases p
    case payout => exact .inl ⟨ps, rfl⟩
    case lane | office => exact absurd (EndsIn.of_next ⟨_, rfl, State.command_not_permitted rfl ps _⟩ hexec).1 hne
  case resolveSuspense p ps =>
    refine ⟨fun hne => ?_, absurd (EndsIn.of_next (P := fun t => t.yardTime = s.yardTime)
      ⟨_, rfl, State.resolveFrame_yardTime p ps⟩ hexec)⟩
    cases p
    case office => exact .inr (.inl ⟨ps, rfl⟩)
    case lane | payout => exact absurd (EndsIn.of_next ⟨_, rfl, State.command_not_permitted rfl ps _⟩ hexec).1 hne
  case resolveSuspenseNotPaid p ps =>
    exact ⟨absurd (EndsIn.of_next (P := fun t => t.float = s.float) ⟨_, rfl, State.notPaid_float p hwf⟩ hexec),
      absurd (EndsIn.of_next (P := fun t => t.yardTime = s.yardTime)
      ⟨_, rfl, State.resolveFrame_yardTime p ps⟩ hexec)⟩
  case loadFloat p ps =>
    refine ⟨fun hne => ?_, absurd ((State.loadFloat_yardTime p ps).of_next hexec)⟩
    cases p
    case office => exact .inr (.inr (.inl ⟨ps, rfl⟩))
    case lane | payout => exact absurd (EndsIn.of_next ⟨_, rfl, State.command_not_permitted rfl ps _⟩ hexec).1 hne

end Proofs
end Sys2Proof
end

section
/-! SUPPORT. The ranges of the settings (Tables 4-6, 4-7 and 10-9). -/
namespace Sys2Proof.Machine

theorem within_isSome (lo hi v : Nat) : (within lo hi v).isSome = true ↔ lo ≤ v ∧ v ≤ hi := by
  simp [within]

theorem within_eq_some {lo hi v x : Nat} (h : within lo hi v = some x) : x = v := by
  simp only [within, Option.ite_none_right_eq_some, Option.some.injEq] at h
  exact h.2.symm

theorem oneOf_isSome (vs : List Nat) (v : Nat) : (oneOf vs v).isSome = true ↔ v ∈ vs := by
  simp [oneOf]

theorem oneOf_eq_some {vs : List Nat} {v x : Nat} (h : oneOf vs v = some x) : x = v := by
  simp only [oneOf, Option.ite_none_right_eq_some, Option.some.injEq] at h
  exact h.2.symm

theorem onOff?_isSome (v : Nat) : (onOff? v).isSome = true ↔ v ≤ 1 := by
  rcases v with _ | _ | v <;> simp [onOff?]

theorem onOff?_eq_some {v : Nat} {b : Bool} (h : onOff? v = some b) : b = decide (v = 1) := by
  unfold onOff? at h
  split at h <;> cases h <;> rfl

theorem stopPolicy?_isSome (v : Nat) : (stopPolicy? v).isSome = true ↔ 1 ≤ v ∧ v ≤ 3 := by
  rcases v with _ | _ | _ | _ | v <;> simp [stopPolicy?]

theorem stopPolicy?_eq_some {v : Nat} {q : StopPolicy} (h : stopPolicy? v = some q) :
    (v = 1 → q = .never) ∧ (v = 2 → q = .onDocket) ∧ (v = 3 → q = .always) := by
  refine ⟨?_, ?_, ?_⟩ <;> rintro rfl <;> cases h <;> rfl

theorem eventBits_lane : eventBits .lane = 0xFF := rfl
theorem eventBits_payout : eventBits .payout = 0x7F := rfl
theorem eventBits_office : eventBits .office = 0x3FF := rfl

/-- The identifiers and values that SET_PARAM takes (Table 4-6). -/
theorem Settings.setParam_isSome (g : Settings) (id v : Nat) :
    (g.setParam id v).isSome = true ↔
      (id = 1 ∧ 1 ≤ v ∧ v ≤ 60) ∨ (id = 2 ∧ v ≤ 5000) ∨
      (id = 3 ∧ (v = 1 ∨ v = 2 ∨ v = 5 ∨ v = 10 ∨ v = 20 ∨ v = 50 ∨ v = 100)) ∨
      (id = 4 ∧ 100 ≤ v ∧ v ≤ 16777215) ∨ (id = 5 ∧ 10 ≤ v ∧ v ≤ 600) ∨ id = 6 ∨ id = 7 ∨
      (id = 8 ∧ (v = 19200 ∨ v = 38400 ∨ v = 57600)) ∨ (id = 9 ∧ 32 ≤ v ∧ v ≤ 1020) ∨
      (id = 10 ∧ 100 ≤ v ∧ v ≤ 5000) ∨ (id = 12 ∧ v ≤ 0xFF) ∨ (id = 13 ∧ v ≤ 0x7F) ∨
      (id = 14 ∧ v ≤ 0x3FF) := by
  unfold Settings.setParam
  split
  case h_14 => simp_all
  all_goals simp [Option.isSome_map, within_isSome, oneOf_isSome, eventBits_lane, eventBits_payout, eventBits_office]

/-- The identifiers and values that SET_LANE takes (Table 4-7). -/
theorem LaneSettings.setLane_isSome (g : LaneSettings) (id : Nat) {v : Nat} (hv : v ≤ 65535) :
    (g.setLane id v).isSome = true ↔
      (id = 1 ∧ v ≤ 3) ∨ ((id = 2 ∨ id = 3) ∧ 1 ≤ v) ∨ id = 4 ∨ id = 5 ∨
      ((id = 6 ∨ id = 7) ∧ 1 ≤ v ∧ v ≤ 8) ∨ (id = 8 ∧ 1 ≤ v ∧ v ≤ 4) ∨ id = 9 ∨
      (id = 10 ∧ 1 ≤ v ∧ v ≤ 32) ∨ (id = 11 ∧ v ≤ 1) ∨ (id = 12 ∧ 1 ≤ v ∧ v ≤ 127) ∨
      (id = 13 ∧ (v = 0 ∨ 16 ≤ v)) ∨ (id = 14 ∧ v ≤ 7) ∨ (id = 15 ∧ 1 ≤ v ∧ v ≤ 16) ∨
      (id = 16 ∧ 1 ≤ v ∧ v ≤ 3) ∨ (id = 17 ∧ 2 ≤ v ∧ v ≤ 10) ∨ (id = 18 ∧ 1 ≤ v) ∨ id = 19 ∨
      (id = 20 ∧ v ≤ 8191) ∨ (id = 21 ∧ 1 ≤ v ∧ v ≤ 255) ∨ (22 ≤ id ∧ id ≤ 26) := by
  unfold LaneSettings.setLane
  split
  case h_27 => grind
  case h_13 =>
    by_cases h0 : v = 0
    · simp [h0]
    · simp [h0, Option.isSome_map, within_isSome, hv]
  all_goals simp [Option.isSome_map, within_isSome, onOff?_isSome, stopPolicy?_isSome, hv]

end Sys2Proof.Machine

namespace Sys2Proof.Proofs
open Sys2Proof.Machine

/-- Settles O43, identifier by identifier. -/
theorem settingsRanges : Obligations.SettingsRanges := by
  refine ⟨fun g id v => ⟨g.setParam_isSome id v, fun g' kept h => ?_⟩,
    fun g id v hv => ⟨g.setLane_isSome id hv, fun g' kept h => ?_⟩⟩
  · unfold Settings.setParam at h
    split at h
    case h_6 | h_7 =>
      cases h
      simp
    case h_14 => cases h
    case h_3 | h_8 =>
      obtain ⟨x, hx, hg⟩ := Option.map_eq_some_iff.mp h
      cases hg
      simp [oneOf_eq_some hx]
    all_goals
      obtain ⟨x, hx, hg⟩ := Option.map_eq_some_iff.mp h
      cases hg
      simp [within_eq_some hx]
  · unfold LaneSettings.setLane at h
    split at h
    case h_4 | h_5 =>
      cases h
      simp
    case h_27 => cases h
    case h_11 =>
      obtain ⟨x, hx, hg⟩ := Option.map_eq_some_iff.mp h
      cases hg
      simp [onOff?_eq_some hx]
    case h_13 =>
      obtain ⟨x, hx, hg⟩ := Option.map_eq_some_iff.mp h
      cases hg
      split at hx
      · cases hx
        simp_all
      · simp [within_eq_some hx]
    case h_16 =>
      obtain ⟨x, hx, hg⟩ := Option.map_eq_some_iff.mp h
      cases hg
      simpa using stopPolicy?_eq_some hx
    all_goals
      obtain ⟨x, hx, hg⟩ := Option.map_eq_some_iff.mp h
      cases hg
      simp [within_eq_some hx]

end Sys2Proof.Proofs
end

section
/-! SUPPORT. Results read and results lost (R42, R44, R178, R179). -/
namespace Sys2Proof.Machine

variable {s : State}

/-- Of a TAKE_ORDER result the dispense timer starts, where an order is out without one (R42, R46). -/
def State.timerConsumed (s : State) (p : Port) : Option Timer :=
  if (s.ports.get p).holdsTake ∧ s.unstarted?.isSome then some { limit := 1000 * s.settings.dispenseLimit }
  else s.dispenseTimer

theorem exec_resultConsumed {p : Port} (h : (s.ports.get p).phase = .result) : exec (.resultConsumed p) s =
    .next (({ s with dispenseTimer := s.timerConsumed p }).toReady p).drivePins := if_pos h

/-- An order is out without a dispense timer where no timer runs and a docket's order is DISPENSING. -/
theorem State.unstarted?_isSome : s.unstarted?.isSome = true ↔
    s.dispenseTimer = none ∧ ∃ d ∈ s.dockets, ∃ o, d.order = some o ∧ o.state = .dispensing := by
  cases htimer : s.dispenseTimer <;> simp [State.unstarted?, htimer, Option.any_eq_true]

end Sys2Proof.Machine

namespace Sys2Proof.Proofs
open Sys2Proof.Machine

/-- Settles O19, by the reads that end a result and the fields that its row writes. -/
theorem consumedResultFreesThePort : Obligations.ConsumedResultFreesThePort := by
  intro s p
  refine ⟨fun x k hp => ?reads, fun x k hx => ?tooEarly, fun hphase => ?row⟩
  case reads =>
    subst hp
    cases hcut : x.cut <;>
      simp [State.readRow_eq_some, State.readOver, hcut] <;> tauto
  case tooEarly =>
    rw [Option.eq_none_iff_forall_not_mem]
    intro i hi
    obtain ⟨hover, hbegan, -⟩ := (s.readRow_eq_some x k i).mp hi
    rcases hx with hcut | hne
    · simp [State.readOver, hcut] at hover
    · exact hne hbegan
  case row =>
    refine ⟨_, exec_resultConsumed hphase, by simp, fun q hq => by simp [hq], fun htake => ?_,
      fun htake htimer hout => ?_, ?_⟩
    · simp [State.timerConsumed, htake]
    · simp [State.timerConsumed, htake, State.unstarted?_isSome.mpr ⟨htimer, hout⟩]
    · simp [SameClock, SameLanes, SameDockets, SameFloat, SameRecords, SameFaults, SameStore]

end Sys2Proof.Proofs
end

section
/-! SUPPORT. What the order operations leave of the store, the records and the ports: the rules by which the money
commands' effects are read (R41 to R54). -/
namespace Sys2Proof.Machine

variable {s t u : State} {num r : Nat} {p : Port}

/-! ### The store (R64, R66) -/

theorem QueueKept.of_same (hstore : t.store = s.store) (hheld : t.held = s.held)
    (hqueue : t.commitQueue = s.commitQueue) : QueueKept s t :=
  ⟨hstore, hheld, fun r hr => (State.hasEntry_congr hqueue r).trans hr⟩

theorem QueueKept.trans (h : QueueKept s t) (h' : QueueKept t u) : QueueKept s u := by
  obtain ⟨hstore, hheld, hentries⟩ := h
  obtain ⟨hstore', hheld', hentries'⟩ := h'
  exact ⟨hstore'.trans hstore, hheld'.trans hheld, fun r hr => hentries' r (hentries r hr)⟩

/-- A record that is no account is never held (R66). -/
theorem State.queueRecord_held_eq (s : State) {x : RecordId} (hx : x.isAccount = false) (edit : Bool) :
    (s.queueRecord x edit).held = s.held := by
  rcases s.queueRecord_cases x edit with ⟨-, h⟩ | ⟨-, ⟨n, -, rfl⟩, -⟩ | ⟨-, n, rfl, -⟩ | ⟨-, -, h⟩
  · rw [h]
  · cases hx
  · cases hx
  · rw [h]

theorem QueueKept.queueRecord (s : State) {x : RecordId} (hx : x.isAccount = false) :
    QueueKept s (s.queueRecord x) :=
  ⟨by simp, s.queueRecord_held_eq hx false, fun _ h => s.queueRecord_hasEntry h x false⟩

theorem QueueKept.conclude (b a : State) : QueueKept a (State.conclude b a) :=
  ⟨by simp, by simp, fun r h => by simpa using h⟩

theorem QueueKept.recordFault (s : State) (k : FaultKind) : QueueKept s (s.recordFault k) :=
  (QueueKept.of_same (by simp) (by simp) (by simp)).trans (QueueKept.queueRecord (s.noteFault k) rfl)

theorem QueueKept.queueSettlement (s : State) (num : Nat) : QueueKept s (s.queueSettlement num) := by
  unfold State.queueSettlement
  split
  · exact QueueKept.queueRecord s rfl
  · exact .of_same rfl rfl rfl

theorem QueueKept.returnOrder (s : State) (num : Nat) : QueueKept s (s.returnOrder num) :=
  (QueueKept.of_same rfl rfl rfl).trans (QueueKept.queueSettlement _ num)

theorem QueueKept.offer (s : State) (p : Port) (num : Nat) : QueueKept s (s.offer p num) := by
  have hqueued : QueueKept s (((s.setOrderState num .offered).setMarker num .dispensing).queueSettlement num) :=
    (QueueKept.of_same rfl rfl rfl).trans (QueueKept.queueSettlement _ num)
  unfold State.offer
  dsimp only
  refine hqueued.trans ?_
  split <;> exact .of_same rfl rfl rfl

theorem State.queueSettlement_entry (h : s.settlementOf num = some r) :
    (s.queueSettlement num).hasEntry (.settlement r) = true := by
  rw [State.queueSettlement, h]
  exact State.queueRecord_self s rfl false

/-! ### The end of an event -/

@[simp] theorem State.conclude_resetLow (b a : State) : (State.conclude b a).resetLow = a.resetLow := by
  obtain ⟨⟨-, -, -, h, -⟩, -⟩ := (State.Steady.conclude b a).kept
  exact h

@[simp] theorem State.conclude_handedBack (b a : State) :
    (State.conclude b a).handedBack = a.handedBack := by
  obtain ⟨⟨-, -, -, -, -, -, -, h, -⟩, -⟩ := (State.Steady.conclude b a).kept
  exact h

/-- The order events are the Payout port's (R40, R61). -/
theorem State.conclude_others (b a : State) : SameOtherPorts a (State.conclude b a) .payout := by
  have hevents : SameOtherPorts a (State.orderEvents b a) .payout := by
    intro q hq
    have hready : (if (a.headReady && !b.headReady) = true then a.raise .payout .orderReady else a).ports.get q =
        a.ports.get q := by
      split <;> simp [hq]
    unfold State.orderEvents
    dsimp only
    split
    · exact hready
    · exact ((State.setShortCause_flags _ _).2.1 q hq).trans hready
  simpa only [SameOtherPorts, State.conclude, State.drivePins_frame, State.beginProgram_frame] using hevents

/-! ### One docket's settlement record (R34) -/

theorem State.Fits.risingSettlements (h : s.Fits) : Table.Rising s.settlements := by
  obtain ⟨-, -, -, -, hrise, -⟩ := h.tables
  exact hrise

/-- A docket's settlement record, read by its number. -/
theorem State.settlementOf_get (hrise : Table.Rising s.settlements) (hr : s.settlementOf num = some r) :
    ∃ x, tableGet s.settlements r = some x ∧ x.docket = num := by
  obtain ⟨x, hx, hdocket⟩ := State.settlementOf_spec hr
  exact ⟨x, hrise.get hx, hdocket⟩

/-- No two records are one docket's. -/
theorem State.Ledger.settlementOf_unique (h : s.Ledger) (hr : s.settlementOf num = some r) {k : Nat}
    {x : SettleRecord} (hk : tableGet s.settlements k = some x) (hx : x.docket = num) : k = r := by
  obtain ⟨y, hy, hdocket⟩ := State.settlementOf_spec hr
  have hmem := List.inj_on_of_nodup_map h.recordsNodup (tableGet_mem hk) hy (hx.trans hdocket.symm)
  exact congrArg Prod.fst hmem

/-- A marker is written into its docket's record, and into no other (R41, R43). -/
theorem State.Fits.setMarker_record (hs : s.Fits) (hr : s.settlementOf num = some r) (m : Marker) :
    tableGet (s.setMarker num m).settlements r =
      (tableGet s.settlements r).map (fun x => { x with marker := m }) ∧
    ∀ k, k ≠ r → tableGet (s.setMarker num m).settlements k = tableGet s.settlements k := by
  obtain ⟨x, hx, hdocket⟩ := State.settlementOf_get hs.risingSettlements hr
  refine ⟨?_, fun k hk => ?_⟩
  · rw [State.setMarker_tableGet, hx, Option.map_some, Option.map_some, if_pos hdocket]
  · rw [State.setMarker_tableGet]
    cases hy : tableGet s.settlements k with
    | none => rfl
    | some y =>
      have hne : y.docket ≠ num := fun hd => hk (hs.ledger.settlementOf_unique hr hy hd)
      rw [Option.map_some, if_neg hne]

/-! ### An order returned (R43, R44, R54) -/

/-- An order back at the head of the queue in the work before the end of an event. -/
theorem State.Fits.returned (hs : s.Fits) {a : State} {st : OrderState} (hst : s.orderState? num = some st)
    (hr : s.settlementOf num = some r) (hd : a.dockets = (s.setOrderState num .ready).dockets)
    (hq : a.orderQueue = num :: s.orderQueue.filter (· ≠ num))
    (hrecords : a.settlements = (s.setMarker num .owed).settlements)
    (hentry : a.hasEntry (.settlement r) = true) : s.Returned (State.conclude s a) num r := by
  have hread (m : Nat) : (State.conclude s a).docket? m = (s.setOrderState num .ready).docket? m :=
    State.docket?_congr (by simp [hd]) m
  obtain ⟨hown, hothers⟩ := hs.setMarker_record hr .owed
  refine ⟨?_, fun m hm => ?_, by simp [hq], ⟨?_, fun k hk => ?_, by simpa using hentry⟩,
    fun hready => State.conclude_orderReady hready ?_⟩
  · rw [hread, State.docket?_setOrderState, if_pos rfl]
  · rw [hread, State.docket?_setOrderState, if_neg hm]
  · simpa [hrecords] using hown
  · simpa [hrecords] using hothers k hk
  · have hnow : a.orderState? num = some .ready := by
      rw [State.orderState?_congr hd, State.orderState?_setOrderState, if_pos rfl, hst]
      rfl
    simp [State.headReady, hq, hnow]

theorem State.returnOrder_entry (h : s.settlementOf num = some r) :
    (s.returnOrder num).hasEntry (.settlement r) = true := by
  refine State.queueSettlement_entry (State.settlementOf_setMarker _ num .owed |>.trans ?_)
  exact (State.settlementOf_congr rfl num).trans h

/-- The order in hand that waits to be given out is the one whose result is discarded (R44). -/
theorem State.Fits.unstarted? (hs : s.Fits) (htimer : s.dispenseTimer = none)
    (hst : s.orderState? num = some .dispensing) : s.unstarted? = some num := by
  obtain ⟨d, hd, -, ho⟩ := State.orderState?_mem hst
  obtain ⟨o, ho, hso⟩ := Option.map_eq_some_iff.mp ho
  obtain ⟨m, hm⟩ := Option.isSome_iff_exists.mp (State.unstarted?_isSome.mpr ⟨htimer, d, hd, o, ho, hso⟩)
  have hst' := State.unstarted?_dispensing hs.ledger.numbers hm
  rw [hm, hs.slips.hand m num _ _ hst' hst (.inr rfl) (.inr rfl)]

end Sys2Proof.Machine

namespace Sys2Proof.Proofs
open Sys2Proof.Machine

/-- Settles O20: the discarded result leaves its port, and a TAKE_ORDER's returns its order. -/
theorem unreadResultsAreLost : Obligations.UnreadResultsAreLost := by
  intro s p hphase
  have hexec : exec (.resultHoldExpiry p) s = _ := if_pos hphase
  refine ⟨fun htake => ?other, fun num r hp hs htake htimer hst hr => ?take⟩
  case other =>
    rw [htake] at hexec
    exact ⟨_, hexec, by simp, fun q hq => by simp [hq],
      by simp [SamePart, SameClock, SameLanes, SameDockets, SameOrders, SameFloat, SameRecords, SameFaults,
        SameStore]⟩
  case take =>
    subst hp
    rw [htake, hs.unstarted? htimer hst] at hexec
    generalize hy : (s.toReady .payout).raise .payout .resultLost = y at hexec
    have hports : (y.returnOrder num).ports = y.ports := by simp
    obtain ⟨hphases, hresult, hhold⟩ := State.conclude_samePhases s (y.returnOrder num) .payout
    have hkept : QueueKept s y := .of_same (by simp [← hy]) (by simp [← hy]) (by simp [← hy])
    refine ⟨_, hexec, ?_, ?_, ?_, ?_, ?_, by simp [← hy, htimer],
      (hkept.trans (.returnOrder y num)).trans (.conclude s _), fun q hq => ?_, ?_⟩
    · rw [hphases, hports, ← hy]; simp
    · rw [hresult, hports, ← hy]; simp
    · rw [hhold, hports, ← hy]; simp
    · refine State.conclude_flags s _ _ _ (FlagsKept.of_ports hports _ _ ?_)
      exact hy ▸ State.raise_flagged _ .payout .resultLost
    · have hdockets : y.dockets = s.dockets := by simp [← hy]
      have hrecords : y.settlements = s.settlements := by simp [← hy]
      exact hs.returned hst hr (by simp [State.setOrderState, State.updateOrder, hdockets])
        (by simp [← hy]) (by simp [hrecords])
        (State.returnOrder_entry ((State.settlementOf_congr hrecords num).trans hr))
    · rw [State.conclude_others s _ q hq, hports, ← hy]
      simp [hq]
    · simp [← hy, SameClock, SameLanes, SameFaults]

/-- Settles O34, check by check, and with NOT_PAID the order returned. -/
theorem resolvedNotPaidReturns : Obligations.ResolvedNotPaidReturns := by
  intro s ps hpins htakes
  have hpaid (h : field ps 2 4 ≤ 16777215) : paidField ps = some (field ps 2 4) :=
    if_neg (by unfold max32; omega)
  have hnotPaid (h : field ps 2 4 = 4294967295) : paidField ps = none := if_pos h
  refine ⟨fun hover hne => ?range, fun hle => ⟨fun hd => ?paidUnknown, fun hd hst => ?paidState⟩,
    fun hnp => ⟨fun hd => ?unknown, fun hd hst => ?state, fun hs hst r hr => ?returned⟩⟩
  case range =>
    have hfield : paidField ps = some (field ps 2 4) := if_neg hne
    exact exec_refuses .outOfRange rfl hpins htakes (by simp [hfield, amountLimit, hover])
  case paidUnknown =>
    exact exec_refuses .noSuchDocket rfl hpins htakes (by simp [hpaid hle, amountLimit, hd, Nat.not_lt.mpr hle])
  case paidState =>
    exact exec_refuses .wrongState rfl hpins htakes
      (by simp [hpaid hle, amountLimit, Nat.not_lt.mpr hle, Option.isSome_iff_ne_none.mp hd, hst])
  case unknown => exact exec_refuses .noSuchDocket rfl hpins htakes (by simp [hnotPaid hnp, hd])
  case state =>
    exact exec_refuses .wrongState rfl hpins htakes
      (by simp [hnotPaid hnp, Option.isSome_iff_ne_none.mp hd, hst])
  case returned =>
    have hd : s.docket? (field ps 0 2) ≠ none := fun hd => by simp [State.orderState?, State.order?, hd] at hst
    have hexec : exec (.resolveSuspenseNotPaid .office ps) s = .next (State.conclude s
        ((s.returnOrder (field ps 0 2)).respond .office .resolveSuspense .ok [fixed (be 2 (field ps 0 2))])) :=
      congrArg _ ((State.command_takes htakes _).trans (by simp [hnotPaid hnp, hd, hst]))
    have hshows := State.respond_shows (s.returnOrder (field ps 0 2)) .office .resolveSuspense .ok
      [fixed (be 2 (field ps 0 2))]
    have hanswer (x : State) (b : Body) :
        QueueKept x (x.respond .office .resolveSuspense .ok b) := .of_same (by simp) (by simp) (by simp)
    refine ⟨_, hexec, ?_, hs.returned hst hr (by simp) (by simp) (by simp) ?_, by simp,
      ((QueueKept.returnOrder s _).trans (hanswer _ _)).trans (.conclude s _), by simp, fun q hq => ?_, ?_⟩
    · have := State.conclude_shows s hshows
      rwa [resultBytes_fixed, be_length] at this
    · exact (State.hasEntry_congr (by simp) _).trans (State.returnOrder_entry hr)
    · obtain ⟨hphase, hresult, hhold⟩ := State.conclude_samePhases s
        ((s.returnOrder (field ps 0 2)).respond .office .resolveSuspense .ok [fixed (be 2 (field ps 0 2))]) q
      rw [hphase, hresult, hhold, State.respond_others _ _ _ _ _ q hq]
      simp
    · simp [SameClock, SameLanes, SameFaults]

end Sys2Proof.Proofs
end

section
/-! SUPPORT. TAKE_ORDER and the dispense limit: the order in hand, the settlement record of an order, and what an
occurrence of a fault leaves of lockout (R41, R46, R163 to R169). -/
namespace Sys2Proof.Machine

variable {s t u : State} {num r : Nat} {p : Port} {k : FaultKind} {st : OrderState}

/-! ### Lockout (R167, R169) -/

theorem State.evalLockout_lockout (h : s.mode ≠ .scanning) :
    s.evalLockout.lockout = locks s.faults s.settings.lockoutMask := by
  by_cases he : locks s.faults s.settings.lockoutMask = s.lockout <;> simp [State.evalLockout, h, he]

theorem State.evalLockout_flagged (h : s.evalLockout.lockout ≠ s.lockout) :
    s.evalLockout.Flagged .payout .lockout ∧ s.evalLockout.Flagged .office .lockout := by
  unfold State.evalLockout at h ⊢
  dsimp only at h ⊢
  split
  · rename_i hno
    rw [if_pos hno] at h
    exact absurd rfl h
  · exact ⟨State.raise_keeps (State.raise_flagged _ .payout .lockout) .office .lockout,
      State.raise_flagged _ .office .lockout⟩

/-- Work after which lockout stands as evaluated, its flags kept. -/
theorem LockoutFollows.kept (h : LockoutFollows s t) (hfaults : u.faults = t.faults)
    (hlock : u.lockout = t.lockout) (hmask : u.settings.lockoutMask = t.settings.lockoutMask)
    (hflags : FlagsKept t u) : LockoutFollows s u := by
  obtain ⟨hrule, hraised⟩ := h
  rw [LockoutFollows, hfaults, hlock, hmask]
  exact ⟨hrule, fun hne => (hraised hne).imp (hflags _ _) (hflags _ _)⟩

/-- A further change of lockout raises its flags again. -/
theorem LockoutFollows.trans (h : LockoutFollows s t) (h' : LockoutFollows t u) (hflags : FlagsKept t u) :
    LockoutFollows s u := by
  refine ⟨h'.1, fun hne => ?_⟩
  by_cases heq : u.lockout = t.lockout
  · exact (h.2 (heq ▸ hne)).imp (hflags _ _) (hflags _ _)
  · exact h'.2 heq

theorem State.noteFault_follows (h : s.mode ≠ .scanning) (k : FaultKind) : LockoutFollows s (s.noteFault k) := by
  unfold State.noteFault
  generalize hy : State.raise _ .office .fault = y
  have hmode : y.mode ≠ .scanning := by simpa [← hy] using h
  have hlock : y.lockout = s.lockout := by simp [← hy]
  exact ⟨by simpa using State.evalLockout_lockout hmode, fun hne => State.evalLockout_flagged (hlock ▸ hne)⟩

theorem State.noteFault_ports (s : State) (k : FaultKind) :
    FlagsKept s (s.noteFault k) ∧ SamePhases s (s.noteFault k) ∧ (s.noteFault k).Flagged .office .fault := by
  obtain ⟨hbefore, hphases, hflag⟩ := s.noteFault_beside s.faults k .l0
  exact ⟨hbefore.1.flags, hphases, hflag⟩

/-- An occurrence of a fault: lockout follows, FAULT is raised and the fault record stands in the queue (R163
to R169). -/
theorem State.recordFault_follows (h : s.mode ≠ .scanning) (k : FaultKind) :
    LockoutFollows s (s.recordFault k) :=
  (State.noteFault_follows h k).kept (by simp [State.recordFault]) (by simp [State.recordFault])
    (by simp [State.recordFault]) (FlagsKept.of_ports (by simp [State.recordFault]))

theorem State.recordFault_ports (s : State) (k : FaultKind) :
    FlagsKept s (s.recordFault k) ∧ SamePhases s (s.recordFault k) ∧
      (s.recordFault k).Flagged .office .fault ∧ (s.recordFault k).hasEntry .fault = true := by
  obtain ⟨hbefore, hphases, hflag, hentry⟩ := s.recordFault_beside s.faults k .l0
  exact ⟨hbefore.1.flags, hphases, hflag, hentry⟩

/-! ### Orders -/

/-- The order in hand is the one docket that holds it (R41). -/
theorem State.Fits.inHand? (hs : s.Fits) (hm : s.orderState? num = some st) (hst : st.held) :
    ∃ d, s.inHand? = some d ∧ d.number = num := by
  obtain ⟨d, hd, -, ho⟩ := State.orderState?_mem hm
  have hsome : s.inHand?.isSome = true := by
    rw [State.inHand?, List.find?_isSome]
    exact ⟨d, hd, d.inHand_iff.mpr ⟨st, ho, hst⟩⟩
  obtain ⟨x, hx⟩ := Option.isSome_iff_exists.mp hsome
  obtain ⟨st', ho', hst'⟩ := x.inHand_iff.mp (List.find?_some hx)
  obtain ⟨o, ho', hso⟩ := Option.map_eq_some_iff.mp ho'
  have hx' : s.orderState? x.number = some st' := State.orderState?_eq_some.mpr
    ⟨x, State.docket?_of_mem hs.ledger.numbers (List.mem_of_find?_eq_some hx), o, ho', hso⟩
  exact ⟨x, hx, hs.slips.hand x.number num st' st hx' hm hst' hst⟩

/-- An order that is not PAID has its settlement record (R34). -/
theorem State.Fits.order_record (hs : s.Fits) (hm : s.orderState? num = some st) (hst : st ≠ .paid) :
    ∃ r, s.settlementOf num = some r := by
  obtain ⟨d, hd, hwait, -⟩ := hs.ledger.awaiting_of_order hm hst
  obtain ⟨e, he, hed⟩ := (hs.ledger.records num).mpr ⟨d, hd, hwait⟩
  exact State.settlementOf_of_mem he hed

/-- One order moved: its docket is read with the order's new state, and every other docket as before. -/
theorem State.moved_dockets (hd : t.dockets = (s.setOrderState num st).dockets) :
    t.docket? num = (s.docket? num).map (fun d =>
      { d with order := d.order.map fun o => { o with state := st } }) ∧ SameOtherDockets s t num := by
  have hread (m : Nat) := (State.docket?_congr hd m).trans (s.docket?_setOrderState num m st)
  exact ⟨(hread num).trans (if_pos rfl), fun m hm => (hread m).trans (if_neg hm)⟩

/-! ### TAKE_ORDER -/

@[simp] theorem State.offer_ports (s : State) (p : Port) (num : Nat) : (s.offer p num).ports =
    s.ports.set p { s.ports.get p with phase := .executing } := by
  unfold State.offer
  dsimp only
  rw [State.toExecuting_ports]
  split <;> simp

/-- The record of an order offered stands in the queue, and its port waits on it (R41, R63). -/
theorem State.offer_waits (h : s.settlementOf num = some r) (p : Port) :
    (s.offer p num).hasEntry (.settlement r) = true ∧ (s.offer p num).WaitsFor (.settlement r) (.take num) := by
  have hmarked : ((s.setOrderState num .offered).setMarker num .dispensing).settlementOf num = some r :=
    (State.settlementOf_setMarker _ num .dispensing).trans ((State.settlementOf_congr rfl num).trans h)
  have hentry := State.queueSettlement_entry hmarked
  have hqueued : (((s.setOrderState num .offered).setMarker num .dispensing).queueSettlement num).settlementOf
      num = some r := (State.settlementOf_congr (by simp) num).trans hmarked
  unfold State.offer
  dsimp only
  rw [hqueued]
  exact ⟨(State.hasEntry_congr (by simp) _).trans hentry,
    { record := .settlement r, kind := .take num }, by simp, rfl, rfl⟩

/-! ### The dispense limit (R46) -/

/-- The order out of the queue with its timer stopped, before the fault is recorded. -/
def State.suspended (s : State) (num : Nat) : State :=
  { (s.setOrderState num .suspense).dequeueOrder num with dispenseTimer := none }

theorem State.suspend_eq (s : State) (num : Nat) : s.suspend num =
    (((s.suspended num).recordFault .payoutSuspense).raise .payout .suspense).raise .office .suspense := rfl

theorem QueueKept.suspend (s : State) (num : Nat) : QueueKept s (s.suspend num) := by
  rw [State.suspend_eq]
  exact ((QueueKept.of_same rfl rfl rfl : QueueKept s (s.suspended num)).trans
    (.recordFault _ .payoutSuspense)).trans (.of_same (by simp) (by simp) (by simp))

/-- Of the dispense limit: PAYOUT_SUSPENSE with what follows from it, and SUSPENSE on both ports (R46). -/
theorem State.suspend_faults (h : s.mode ≠ .scanning) (num : Nat) :
    (s.suspend num).faults =
      s.faults.set .payoutSuspense ((s.faults.get .payoutSuspense).occur s.yardTime) ∧
    LockoutFollows s (s.suspend num) ∧ (s.suspend num).hasEntry .fault = true ∧
    (s.suspend num).Flagged .office .fault ∧ (s.suspend num).Flagged .payout .suspense ∧
    (s.suspend num).Flagged .office .suspense ∧ SamePhases s (s.suspend num) := by
  rw [State.suspend_eq]
  have hfollows : LockoutFollows s ((s.suspended num).recordFault .payoutSuspense) :=
    State.recordFault_follows (s := s.suspended num) h .payoutSuspense
  obtain ⟨-, hphases, hfault, hentry⟩ := (s.suspended num).recordFault_ports .payoutSuspense
  have hfaults : ((s.suspended num).recordFault .payoutSuspense).faults = _ :=
    State.recordFault_faults (s.suspended num) .payoutSuspense
  generalize (s.suspended num).recordFault .payoutSuspense = y at *
  have hflags : FlagsKept y ((y.raise .payout .suspense).raise .office .suspense) :=
    (FlagsKept.raise y .payout .suspense).trans (FlagsKept.raise _ .office .suspense)
  exact ⟨hfaults, hfollows.kept rfl rfl rfl hflags, hentry, hflags _ _ hfault,
    State.raise_keeps (State.raise_flagged y .payout .suspense) .office .suspense,
    State.raise_flagged _ .office .suspense,
    (SamePhases.trans (show SamePhases s y from hphases) (State.raise_samePhases y _ _)).trans
      (State.raise_samePhases _ _ _)⟩

theorem State.active_not_scanning (h : s.active = true) : s.mode ≠ .scanning := by
  rintro hm
  simp [State.active, hm] at h

/-- The end of an event keeps what the fault work has left. -/
theorem LockoutFollows.conclude (h : LockoutFollows s t) (b : State) :
    LockoutFollows s (State.conclude b t) :=
  h.kept (by simp) (by simp) (by simp) (State.conclude_flags b t)

end Sys2Proof.Machine

namespace Sys2Proof.Proofs
open Sys2Proof.Machine

/-- Settles O31, check by check, and the head order offered. -/
theorem takeOrderOffersTheHead : Obligations.TakeOrderOffersTheHead := by
  intro s ps hpins htakes
  refine ⟨fun hlock => exec_refuses .locked rfl hpins htakes (by simp [State.takeRefusal, hlock]), fun hlock =>
    ⟨fun hhand => exec_refuses .busyDispensing rfl hpins htakes (by simp [State.takeRefusal, hlock, hhand]),
      fun hhand => ⟨fun hq => exec_refuses .noneReady rfl hpins htakes
        (by simp [State.takeRefusal, hlock, hhand, hq]), fun num rest hq =>
      ⟨fun hst => exec_refuses .pending rfl hpins htakes
        (by simp [State.takeRefusal, hlock, hhand, hq, hst]), fun hst =>
      ⟨fun hempty => exec_refuses .dispenserEmpty rfl hpins htakes
        (by simp [State.takeRefusal, hlock, hhand, hq, hst, hempty]),
      fun hempty hshort => exec_refuses .floatShort rfl hpins htakes
        (by simp [State.takeRefusal, hlock, hhand, hq, hst, hempty, hshort]),
      fun hempty hfloat hs => ?offered⟩⟩⟩⟩⟩
  case offered =>
    obtain ⟨r, hr⟩ := hs.order_record hst (by decide)
    have hexec : exec (.takeOrder .payout ps) s = .next (State.conclude s (s.offer .payout num)) :=
      congrArg _ ((State.command_takes htakes _).trans
        (by simp [State.takeRefusal, hlock, hhand, hq, hst, hempty, Nat.not_lt.mpr hfloat]))
    obtain ⟨hdocket, hothers⟩ := State.moved_dockets (s := s) (num := num) (st := .offered)
      (t := State.conclude s (s.offer .payout num)) (by simp)
    obtain ⟨hown, hrecords⟩ := hs.setMarker_record hr .dispensing
    obtain ⟨hentry, hwaits⟩ := s.offer_waits hr .payout
    refine ⟨_, r, hexec, hr, hdocket, hothers, by simp, by simpa using hown,
      fun k hk => by simpa using hrecords k hk, by simpa using hentry, State.conclude_waitsFor s hwaits,
      ?_, fun q hq => ?_, (QueueKept.offer s .payout num).trans (.conclude s _), ?_⟩
    · rw [(State.conclude_samePhases s _ .payout).1]
      simp
    · rw [State.conclude_others s _ q hq]
      simp [hq]
    · simp [SameClock, SameLanes, SameFaults]

/-- Settles O32: the order in hand goes to SUSPENSE, and the fault that this is follows. -/
theorem dispenseLimitSuspends : Obligations.DispenseLimitSuspends := by
  intro s num hs hactive htimer hst
  obtain ⟨d, hhand, rfl⟩ := hs.inHand? hst (.inr rfl)
  obtain ⟨timer, htimer⟩ := Option.isSome_iff_exists.mp htimer
  have hexec : exec .dispenseLimitExpiry s = .next (State.conclude s (s.suspend d.number)) := by
    show execDispenseLimitExpiry s = _
    simp [execDispenseLimitExpiry, htimer, hhand, hactive, hst]
  obtain ⟨hfaults, hlock, hentry, hfault, hpayout, hoffice, hphases⟩ :=
    State.suspend_faults (State.active_not_scanning hactive) d.number
  obtain ⟨hdocket, hothers⟩ := State.moved_dockets (s := s) (num := d.number) (st := .suspense)
    (t := State.conclude s (s.suspend d.number)) (by simp)
  have hflags := State.conclude_flags s (s.suspend d.number)
  exact ⟨_, hexec, hdocket, hothers, by simp, by simp [State.suspend], by simpa using hfaults, hlock.conclude s,
    by simpa using hentry, hflags _ _ hfault, hflags _ _ hpayout, hflags _ _ hoffice, by simp [SameRecords],
    (QueueKept.suspend s _).trans (.conclude s _), hphases.trans (State.conclude_samePhases s _),
    by simp [SameClock, SameLanes]⟩

end Sys2Proof.Proofs
end

section
/-! SUPPORT. The float: LOAD_FLOAT, the FLOAT_LOW check and REPORT_DISPENSER (R56 to R61). -/
namespace Sys2Proof.Machine

variable {s t u : State} {p : Port}

/-! ### FLOAT_LOW (R58) -/

theorem State.setFloatLow_flagged {x : Bool} (h : x ≠ s.floatLow) :
    (s.setFloatLow x).Flagged .payout .floatLow ∧ (s.setFloatLow x).Flagged .office .floatLow := by
  rw [State.setFloatLow, if_neg h]
  exact ⟨State.raise_keeps (State.raise_flagged _ .payout .floatLow) .office .floatLow,
    State.raise_flagged _ .office .floatLow⟩

/-- The check lets the condition follow the float (R58). -/
theorem State.checkFloatLow_follows (hsettings : t.settings = s.settings) (hlow : t.floatLow = s.floatLow) :
    FloatLowFollows s t.checkFloatLow := by
  have hfloat : t.checkFloatLow.float = t.float := by simp
  rw [FloatLowFollows, hfloat, State.checkFloatLow_floatLow, hsettings, hlow]
  refine ⟨fun h => ?_, fun h h' => ?_, fun h h' => ?_, fun h => ?_⟩
  · simp [floatLowAfter, h]
  · simp [floatLowAfter, h', Nat.not_le.mpr h]
  · simp [floatLowAfter, Nat.not_le.mpr h, Nat.not_le.mpr h']
  · exact State.setFloatLow_flagged (by rwa [hsettings, hlow])

/-- Work that leaves the float and its condition, the flags kept. -/
theorem FloatLowFollows.kept (h : FloatLowFollows s t) (hfloat : u.float = t.float)
    (hlow : u.floatLow = t.floatLow) (hflags : FlagsKept t u) : FloatLowFollows s u := by
  obtain ⟨h1, h2, h3, hraised⟩ := h
  rw [FloatLowFollows, hfloat, hlow]
  exact ⟨h1, h2, h3, fun hne => (hraised hne).imp (hflags _ _) (hflags _ _)⟩

theorem FlagsKept.setFloatLow (s : State) (x : Bool) : FlagsKept s (s.setFloatLow x) := by
  unfold State.setFloatLow
  split
  · exact fun _ _ h => h
  · exact (FlagsKept.of_ports rfl).trans ((FlagsKept.raise _ .payout .floatLow).trans (FlagsKept.raise _ _ _))

theorem State.checkFloatLow_samePhases (s : State) : SamePhases s s.checkFloatLow :=
  (s.setFloatLow_flags _).2.2.2

theorem FlagsKept.toExecuting (s : State) (p : Port) : FlagsKept s (s.toExecuting p) := FlagsKept.setPort s p rfl

/-- A command that waits: its port is in EXECUTING, and every other port is as it was. -/
theorem State.toExecuting_phases (s : State) (p : Port) :
    ((s.toExecuting p).ports.get p).phase = .executing ∧
    ((s.toExecuting p).ports.get p).result = (s.ports.get p).result ∧ SameOtherPorts s (s.toExecuting p) p :=
  ⟨by simp, by simp, fun q hq => by simp [hq]⟩

/-- An event that ends with a port in EXECUTING, after work that left every port's phase. -/
theorem State.conclude_executing (h : SamePhases s t) (b : State) (p : Port) :
    ((State.conclude b (t.toExecuting p)).ports.get p).phase = .executing ∧
    ((State.conclude b (t.toExecuting p)).ports.get p).result = (s.ports.get p).result ∧
    SameOtherPhases s (State.conclude b (t.toExecuting p)) p := by
  have hended := State.conclude_samePhases b (t.toExecuting p)
  obtain ⟨hphase, hresult, hothers⟩ := t.toExecuting_phases p
  refine ⟨(hended p).1.trans hphase, (hended p).2.1.trans (hresult.trans (h p).2.1), fun q hq => ?_⟩
  obtain ⟨h1, h2, h3⟩ := hended q
  rw [h1, h2, h3, hothers q hq]
  exact h q

/-- An event that ends with a result on a port, after work that left every port's phase. -/
theorem State.conclude_responds (h : SamePhases s t) (b : State) (p : Port) (c : CommandCode) (rc : ResultCode)
    (x : Body) : (State.conclude b (t.respond p c rc x)).Shows p (resultBytes c.byte rc x) ∧
      SameOtherPhases s (State.conclude b (t.respond p c rc x)) p := by
  refine ⟨State.conclude_shows b (t.respond_shows p c rc x), fun q hq => ?_⟩
  obtain ⟨h1, h2, h3⟩ := State.conclude_samePhases b (t.respond p c rc x) q
  rw [h1, h2, h3, t.respond_others p c rc x q hq]
  exact h q

/-- Where the float has changed, the end of an event leaves the short cause as its rule gives it (R59). -/
theorem State.conclude_short {b a : State} (h : b.float ≠ a.float) :
    (State.conclude b a).shortCause = (State.conclude b a).shortNow := by
  rw [State.conclude_shortCause, if_neg fun hsame => h hsame.2]
  exact (State.shortNow_congr (by simp) (by simp) (by simp)).symm

/-! ### LOAD_FLOAT (R56) -/

/-- The float raised, its record queued and FLOAT_LOW checked. -/
def State.loaded (s : State) (amount : Nat) : State :=
  ((({ s with float := s.float + amount }).queueRecord .float).checkFloatLow).wait .float
    (.loadFloat (s.float + amount))

theorem exec_loadFloat {ps : List Byte} (htakes : s.Takes .office .loadFloat ps) (hpos : 0 < field ps 0 4)
    (hfit : s.float + field ps 0 4 ≤ 4294967295) : exec (.loadFloat .office ps) s =
      .next (State.conclude s ((s.loaded (field ps 0 4)).toExecuting .office)) := by
  refine congrArg _ ((State.command_takes htakes _).trans ?_)
  exact if_neg (by unfold max32; omega)

theorem State.loaded_follows (s : State) (amount : Nat) : FloatLowFollows s (s.loaded amount) := by
  have hchecked : FloatLowFollows s
      (({ s with float := s.float + amount } : State).queueRecord .float).checkFloatLow :=
    State.checkFloatLow_follows (by simp) (by simp)
  exact hchecked.kept rfl rfl (FlagsKept.of_ports rfl)

theorem QueueKept.loaded (s : State) (amount : Nat) : QueueKept s (s.loaded amount) :=
  ((QueueKept.of_same rfl rfl rfl : QueueKept s { s with float := s.float + amount }).trans
    (QueueKept.queueRecord _ (x := .float) rfl)).trans
    (.of_same (by simp [State.loaded]) (by simp [State.loaded]) (by simp [State.loaded]))

theorem State.loaded_entry (s : State) (amount : Nat) : (s.loaded amount).hasEntry .float = true :=
  (State.hasEntry_congr (by simp [State.loaded]) _).trans
    (({ s with float := s.float + amount } : State).queueRecord_self (r := .float) rfl false)

end Sys2Proof.Machine

namespace Sys2Proof.Proofs
open Sys2Proof.Machine

/-- Settles O35: the two refusals, and the load field by field. -/
theorem loadFloatRaisesTheFloat : Obligations.LoadFloatRaisesTheFloat := by
  intro s ps hpins htakes
  refine ⟨fun h => exec_refuses .outOfRange rfl hpins htakes ?range, fun hpos hfit => ?loaded⟩
  case range => exact if_pos h
  case loaded =>
    have hphases : SamePhases s (s.loaded (field ps 0 4)) := by
      have hchecked := State.checkFloatLow_samePhases
        (({ s with float := s.float + field ps 0 4 } : State).queueRecord .float)
      exact fun q => by simpa [State.loaded] using hchecked q
    obtain ⟨hphase, -, hothers⟩ := State.conclude_executing hphases s .office
    refine ⟨_, exec_loadFloat htakes hpos hfit, by simp [State.loaded], ?_, State.conclude_short ?_,
      by simp [State.loaded], ?_, State.conclude_waitsFor s ?_, hphase, hothers, ?_, ?_⟩
    · exact (s.loaded_follows _).kept (by simp) (by simp)
        ((FlagsKept.toExecuting _ _).trans (State.conclude_flags s _))
    · simp [State.loaded]
      omega
    · simpa using (State.hasEntry_congr (by simp) _).trans (s.loaded_entry (field ps 0 4))
    · exact ⟨⟨.float, false, .loadFloat (s.float + field ps 0 4)⟩, by simp [State.loaded], rfl, rfl⟩
    · exact ((QueueKept.loaded s (field ps 0 4)).trans (.of_same (by simp) (by simp) (by simp))).trans (.conclude s _)
    · simp [State.loaded, SameRecords, SameClock, SameLanes, SameDockets, SameOrders, SameFaults]

/-- Settles O36: a cause that changes raises FLOAT_OUT, a fault is recorded, and no other value is taken. -/
theorem reportDispenserReports : Obligations.ReportDispenserReports := by
  intro s ps hs hpins htakes
  refine ⟨fun hv => ?cause, fun hv => ?fault, fun hv => ?range⟩
  case cause =>
    obtain ⟨x, hx, hexec⟩ : ∃ x : Bool, (x = true ↔ field ps 0 1 = 1) ∧ exec (.reportDispenser .payout ps) s =
        .next ((s.setEmptyCause x).answered .payout .reportDispenser []) := by
      have hidle (x : Bool) : State.conclude s ((s.setEmptyCause x).respond .payout .reportDispenser .ok []) =
          (s.setEmptyCause x).answered .payout .reportDispenser [] :=
        State.conclude_idle hs.queue (by simp) (by simp) (by simp)
          (State.headView_congr (by simp) (State.orderState?_congr (by simp))) (by simp)
      rcases hv with hv | hv
      · exact ⟨true, by simp [hv], congrArg _ ((State.command_takes htakes _).trans (by simp [hv, hidle]))⟩
      · exact ⟨false, by simp [hv], congrArg _ ((State.command_takes htakes _).trans (by simp [hv, hidle]))⟩
    obtain ⟨hflags, hothers, -⟩ := s.setEmptyCause_flags x
    obtain ⟨hshows, hanswered, hports⟩ := State.answered_shows (s.setEmptyCause x) .payout .reportDispenser []
    refine ⟨_, hexec, hshows, by simpa using hx, fun hne => ?_, fun heq => ?_,
      fun q hq => (hports q hq).trans (hothers q hq), ?_⟩
    · exact (State.Steady.respond ..).flags _ _ (s.setEmptyCause_raises x (by simpa using hne))
    · have heq : x = s.emptyCause := by simpa using heq
      rw [hanswered, hflags]
      simp [heq]
    · simp [SameClock, SameLanes, SameDockets, SameOrders, SameRecords, SameFaults, SameStore]
  case fault =>
    have hexec : exec (.reportDispenser .payout ps) s = .next (State.conclude s
        ((s.recordFault .dispenserFault).respond .payout .reportDispenser .ok [])) :=
      congrArg _ ((State.command_takes htakes _).trans (by simp [hv]))
    have hscan := State.active_not_scanning (hs.takes_active htakes)
    have hlock := State.recordFault_follows hscan .dispenserFault
    obtain ⟨-, hphases, hfault, hentry⟩ := s.recordFault_ports .dispenserFault
    obtain ⟨hshows, hothers⟩ := State.conclude_responds hphases s .payout .reportDispenser .ok []
    have hflags := (FlagsKept.answered (s.recordFault .dispenserFault) .payout .reportDispenser .ok []).trans
      (State.conclude_flags s _)
    have hanswer : QueueKept (s.recordFault .dispenserFault) _ :=
      .of_same (t := (s.recordFault .dispenserFault).respond .payout .reportDispenser .ok [])
        (by simp) (by simp) (by simp)
    have hview : s.headView =
        ((s.recordFault .dispenserFault).respond .payout .reportDispenser .ok []).headView :=
      (State.headView_congr (by simp) (State.orderState?_congr (by simp))).symm
    exact ⟨_, hexec, hshows, by simp, hlock.kept (by simp) (by simp) (by simp) hflags,
      by simpa using (State.hasEntry_congr (by simp) _).trans hentry, hflags _ _ hfault, hothers,
      by simp [SameClock], by simp [SameLanes], by simp [SameDockets], by simp [SameOrders],
      by simp [SameFloat, hview], by simp [SameRecords],
      ((QueueKept.recordFault s .dispenserFault).trans hanswer).trans (.conclude s _), by simp⟩
  case range =>
    refine exec_refuses .outOfRange rfl hpins htakes ?_
    split
    · omega
    · omega
    · omega
    · rfl

end Sys2Proof.Proofs
end

section
/-! SUPPORT. The settings commands and STORE_SETTINGS (R79 to R83). -/
namespace Sys2Proof.Machine

variable {s t : State} {p : Port}

/-- An event that leaves the head of the order queue and the float ends with the program that begins. -/
theorem State.conclude_begins (hview : t.headView = s.headView) (hfloat : t.float = s.float) :
    State.conclude s t = t.beginProgram.drivePins := by
  have hready : t.headReady = s.headReady := State.headReady_view hview
  simp [State.conclude, State.orderEvents, hready, hview, hfloat]

/-- The settings replaced, with the FLOAT_LOW check where a float level was written (R58). -/
def State.withSettings (s : State) (g : Settings) (check : Bool) : State :=
  if check then ({ s with settings := g } : State).checkFloatLow else { s with settings := g }

theorem State.withSettings_frame (s : State) (g : Settings) (check : Bool) :
    s.ButSettings (s.withSettings g check) ∧ (s.withSettings g check).settings = g ∧
    (s.withSettings g check).float = s.float ∧ (s.withSettings g check).shortCause = s.shortCause ∧
    (s.withSettings g check).emptyCause = s.emptyCause ∧ (s.withSettings g check).floatLow =
      (if check then floatLowAfter s.float g.floatLowSet g.floatLowClear s.floatLow else s.floatLow) := by
  cases check <;>
    simp [State.withSettings, State.ButSettings, SameClock, SameLanes, SameDockets, SameOrders, SameRecords,
      SameFaults, SameStore]

/-- A change of FLOAT_LOW raises its flags, and with none the ports are as they were. -/
theorem State.withSettings_ports (s : State) (g : Settings) (check : Bool) :
    SamePhases s (s.withSettings g check) ∧
    ((s.withSettings g check).floatLow ≠ s.floatLow → (s.withSettings g check).Flagged .payout .floatLow ∧
      (s.withSettings g check).Flagged .office .floatLow) ∧
    ((s.withSettings g check).floatLow = s.floatLow → (s.withSettings g check).ports = s.ports) := by
  cases check
  · exact ⟨fun _ => ⟨rfl, rfl, rfl⟩, fun h => absurd rfl h, fun _ => rfl⟩
  · generalize hy : ({ s with settings := g } : State) = y
    have hports : y.ports = s.ports := by rw [← hy]
    have hlow : y.floatLow = s.floatLow := by rw [← hy]
    have hset : s.withSettings g true = y.checkFloatLow := by rw [← hy]; rfl
    rw [hset, ← hlow, SamePhases, ← hports]
    refine ⟨y.checkFloatLow_samePhases, fun h => State.setFloatLow_flagged (by simpa using h), fun h => ?_⟩
    rw [State.checkFloatLow, State.setFloatLow_ports, if_pos (by simpa using h)]

/-- One row of the class table replaced (R80). -/
def State.withClass (s : State) (k : Fin 12) (row : ClassRow) : State :=
  { s with settings := { s.settings with classes := s.settings.classes.set k row } }

theorem classRowBytes_length (row : ClassRow) : (classRowBytes row).length = 11 := by
  simp [classRowBytes, flagByte]

/-! ### STORE_SETTINGS (R83) -/

/-- The settings record queued, with the port that waits on its program. -/
def State.storing (s : State) : State :=
  ((s.queueRecord .settings).wait .settings .storeSettings).toExecuting .office

theorem exec_storeSettings {ps : List Byte} (htakes : s.Takes .office .storeSettings ps) :
    exec (.storeSettings .office ps) s = .next (State.conclude s s.storing) :=
  congrArg _ (State.command_takes htakes _)

theorem State.conclude_storing (s : State) : State.conclude s s.storing = s.storing.beginProgram.drivePins :=
  State.conclude_begins (t := s.storing)
    (State.headView_congr (by simp [State.storing]) (State.orderState?_congr (by simp [State.storing])))
    (by simp [State.storing])

theorem State.storing_commitQueue (s : State) :
    s.storing.commitQueue = (s.queueRecord .settings).commitQueue := by simp [State.storing]

theorem State.storing_waiters (s : State) :
    s.storing.waiters = s.waiters ++ [⟨.settings, false, .storeSettings⟩] := by simp [State.storing]

/-- The entry of the settings record merges, marked changed while its program is in progress, or joins the
tail (R64). -/
theorem State.queueSettings_entries (s : State) :
    (s.hasEntry .settings = true → (s.queueRecord .settings).commitQueue = s.commitQueue.map fun e =>
      if e.record = .settings then
        { e with changed := e.changed || decide (s.program.map (·.record) = some .settings) } else e) ∧
    (s.hasEntry .settings = false →
      (s.queueRecord .settings).commitQueue = s.commitQueue ++ [⟨.settings, false, false⟩]) := by
  have hprog : s.programming .settings = decide (s.program.map (·.record) = some .settings) := by
    cases h : s.program <;> simp [State.programming, h]
  obtain ⟨hentry, h⟩ | ⟨-, ⟨n, -, hn⟩, -⟩ | ⟨-, n, hn, -⟩ | ⟨hentry, -, h⟩ := s.queueRecord_cases .settings false
  · rw [h, hentry, hprog]
    simp
  · cases hn
  · cases hn
  · rw [h, hentry]
    simp

/-- With no program in progress nothing is queued (R64). -/
theorem State.Fits.queue_empty (hs : s.Fits) (hactive : s.active = true) (hprog : s.program = none) :
    s.commitQueue = [] := by
  obtain ⟨-, -, -, -, -, -, -, hbegun⟩ := hs.queue
  by_contra hne
  simpa [hprog] using hbegun hactive hne

theorem QueueKept.storing (s : State) : QueueKept s s.storing :=
  (QueueKept.queueRecord s (x := .settings) rfl).trans
    (.of_same (by simp [State.storing]) (by simp [State.storing]) (by simp [State.storing]))

/-- The program of the settings record begins where none was in progress (R64, R83). -/
theorem State.Fits.storing_begins (hs : s.Fits) (hactive : s.active = true) (hprog : s.program = none) :
    s.storing.beginProgram.commitQueue = [⟨.settings, false, false⟩] ∧
    s.storing.beginProgram.program = some ⟨.settings, .settings s.settings, .first, { limit := 15 }⟩ ∧
    s.storing.beginProgram.waiters = s.waiters.map
        (fun w => if w.record = .settings then { w with begun := true } else w) ++
      [⟨.settings, true, .storeSettings⟩] := by
  have hempty := hs.queue_empty hactive hprog
  have hqueue : s.storing.commitQueue = [⟨.settings, false, false⟩] := by
    rw [s.storing_commitQueue, s.queueSettings_entries.2 (by simp [State.hasEntry, hempty]), hempty]
    rfl
  have hset : s.storing.settings = s.settings := by simp [State.storing]
  rw [s.storing.beginProgram_head (by simpa [State.storing] using hprog) hqueue
    (by simpa [State.active, State.storing] using hactive)]
  simp [s.storing_waiters, State.image, hset]

end Sys2Proof.Machine

namespace Sys2Proof.Proofs
open Sys2Proof.Machine

/-- Settles O42: each settings command's one write with its answer, the refusals, and STORE_SETTINGS. -/
theorem settingsCommandsSet : Obligations.SettingsCommandsSet := by
  intro s ps
  refine ⟨fun htakes k on hk hon hrate => ?setClass, fun htakes g kept hid hset => ?setParam,
    fun htakes n g kept hn hset => ?setLane, fun hpins => ⟨fun htakes hbad => ?classRefused,
      fun htakes hid hset => ?paramRefused, fun htakes hbad => ?laneRefused⟩, fun htakes => ?store⟩
  case setClass =>
    have hexec : exec (.setClass .office ps) s = .next ((s.withClass k (classRowOf ps on)).answered .office
        .setClass [fixed (classRowBytes (classRowOf ps on))]) :=
      congrArg _ ((State.command_takes htakes _).trans
        (by simp [hk, hon, classRowOf, rateLimit, Nat.not_lt.mpr hrate, State.withClass]))
    obtain ⟨hshows, hflags, hothers⟩ := State.answered_shows (s.withClass k (classRowOf ps on)) .office
      .setClass [fixed (classRowBytes (classRowOf ps on))]
    rw [resultBytes_fixed, classRowBytes_length] at hshows
    refine ⟨_, hexec, by simp [State.withClass, classRowOf], ?_, by simp [SameFloat, State.withClass], hflags,
      hothers, by simp [State.ButSettings, SameClock, SameLanes, SameDockets, SameOrders, SameRecords,
        SameFaults, SameStore, State.withClass]⟩
    have hrow : (s.withClass k (classRowOf ps on)).settings.classes[k] = classRowOf ps on := by
      simp [State.withClass]
    simp only [State.answered_frame, hrow]
    exact hshows
  case setParam =>
    have hexec : exec (.setParam .office ps) s = .next ((s.withSettings g
        (field ps 0 1 = 6 ∨ field ps 0 1 = 7)).answered .office .setParam [fixed (be 4 kept)]) :=
      congrArg _ ((State.command_takes htakes _).trans (by simp [hid, hset, State.withSettings]))
    generalize hcheck : decide (field ps 0 1 = 6 ∨ field ps 0 1 = 7) = check at hexec
    obtain ⟨hbut, hsettings, hfloat, hshort, hempty, hlow⟩ := s.withSettings_frame g check
    obtain ⟨hphases, hraised, hkept⟩ := s.withSettings_ports g check
    obtain ⟨hshows, hflags, hothers⟩ := State.answered_shows (s.withSettings g check) .office .setParam
      [fixed (be 4 kept)]
    rw [resultBytes_fixed, be_length] at hshows
    have hanswered := FlagsKept.answered (s.withSettings g check) .office .setParam .ok [fixed (be 4 kept)]
    refine ⟨_, hexec, by simpa using hsettings, hshows, by simpa using hfloat, by simpa using hshort,
      by simpa using hempty, by simpa [← hcheck] using hlow, fun hne => ?_, fun heq => ?_, fun q hq => ?_, ?_⟩
    · obtain ⟨hpayout, hoffice⟩ := hraised (by simpa using hne)
      exact ⟨hanswered _ _ hpayout, hanswered _ _ hoffice⟩
    · have hports := hkept (by simpa using heq)
      exact ⟨fun q hq => by rw [hothers q hq, hports], by rw [hflags, hports]⟩
    · rw [hothers q hq]
      exact hphases q
    · simpa [State.ButSettings, SameClock, SameLanes, SameDockets, SameOrders, SameRecords, SameFaults,
        SameStore] using hbut
  case setLane =>
    have hexec : exec (.setLane .office ps) s = .next ((s.setLaneSettings n g).answered .office .setLane
        [fixed (be 2 kept)]) :=
      congrArg _ ((State.command_takes htakes _).trans (by simp [hn, hset]))
    obtain ⟨hshows, hflags, hothers⟩ := State.answered_shows (s.setLaneSettings n g) .office .setLane
      [fixed (be 2 kept)]
    rw [resultBytes_fixed, be_length] at hshows
    exact ⟨_, hexec, by simp [State.setLaneSettings], hshows, by simp [SameFloat, State.setLaneSettings],
      hflags, hothers, by simp [State.ButSettings, SameClock, SameLanes, SameDockets, SameOrders, SameRecords, SameFaults,
        SameStore, State.setLaneSettings]⟩
  case classRefused =>
    refine exec_refuses .outOfRange rfl hpins htakes ?_
    split
    · rename_i k on hk hon
      rw [if_pos]
      simpa [hk, hon, classRowOf, rateLimit] using hbad
    · rfl
  case paramRefused => exact exec_refuses .outOfRange rfl hpins htakes (by simp [hid, hset])
  case laneRefused =>
    refine exec_refuses .outOfRange rfl hpins htakes ?_
    rcases hbad with hn | ⟨n, hn, hset⟩
    · simp [hn]
    · simp [hn, hset]
  case store =>
    have hended := s.conclude_storing
    have hports : (State.conclude s s.storing).ports =
        s.ports.set .office { s.ports.get .office with phase := .executing } := by
      rw [hended]
      simp [State.storing]
    have hentry : s.storing.hasEntry .settings = true :=
      (State.hasEntry_congr s.storing_commitQueue _).trans (s.queueRecord_self (r := .settings) rfl false)
    refine ⟨_, exec_storeSettings htakes, by simpa using hentry, State.conclude_waitsFor s ?_,
      by simp [hports], by simp [hports], fun q hq => by simp [hports, hq], (QueueKept.storing s).trans (.conclude s _),
      fun hprog => ?_, fun hs hprog => ?_, ?_⟩
    · exact ⟨⟨.settings, false, .storeSettings⟩, by simp [s.storing_waiters], rfl, rfl⟩
    · obtain ⟨g, hg⟩ := Option.isSome_iff_exists.mp hprog
      obtain ⟨hmerges, hjoins⟩ := s.queueSettings_entries
      rw [hended, s.storing.beginProgram_some (g := g) (by simpa [State.storing] using hg)]
      exact ⟨by simp [State.storing], by simpa using s.storing_waiters,
        fun h => by simpa [s.storing_commitQueue] using hmerges h,
        fun h => by simpa [s.storing_commitQueue] using hjoins h⟩
    · obtain ⟨hqueue, hbegun, hwaiters⟩ := hs.storing_begins (hs.takes_active htakes) hprog
      rw [hended]
      exact ⟨by simpa using hqueue, by simpa using hbegun, by simpa using hwaiters⟩
    · rw [hended]
      simp [State.storing, SameClock, SameLanes, SameDockets, SameOrders, SameFloat, SameRecords,
        SameFaults]

end Sys2Proof.Proofs
end

section
/-! SUPPORT. An order paid: the fault work of a confirmation, the float lowered, the docket booked and its
settlement record freed (R48 to R53). -/
namespace Sys2Proof.Machine

variable {s t u : State} {num amount r : Nat} {p : Port} {k : FaultKind}

/-! ### Work that may record faults -/

/-- Work that may have recorded faults: lockout follows, a fault recorded is queued and flagged, and flags, phases
and queue are kept. -/
structure State.FaultWork (s t : State) : Prop where
  mode : t.mode = s.mode
  lockout : LockoutFollows s t
  recorded : t.faults ≠ s.faults → t.hasEntry .fault = true ∧ t.Flagged .office .fault
  flags : FlagsKept s t
  phases : SamePhases s t
  queue : QueueKept s t

theorem State.FaultWork.refl (h : s.LockoutFits) (hactive : s.active = true) : s.FaultWork s :=
  ⟨rfl, ⟨h hactive, fun hne => absurd rfl hne⟩, fun hne => absurd rfl hne, fun _ _ h => h,
    fun _ => ⟨rfl, rfl, rfl⟩, .of_same rfl rfl rfl⟩

/-- Further work that records no fault. -/
theorem State.FaultWork.then (h : s.FaultWork t) (hmode : u.mode = t.mode) (hfaults : SameFaults t u)
    (hmask : u.settings.lockoutMask = t.settings.lockoutMask) (hflags : FlagsKept t u)
    (hphases : SamePhases t u) (hqueue : QueueKept t u) : s.FaultWork u := by
  obtain ⟨hfaults, hlock⟩ := hfaults
  refine ⟨hmode.trans h.mode, h.lockout.kept hfaults hlock hmask hflags, fun hne => ?_, h.flags.trans hflags,
    h.phases.trans hphases, h.queue.trans hqueue⟩
  obtain ⟨hentry, hflag⟩ := h.recorded (hfaults ▸ hne)
  exact ⟨hqueue.2.2 _ hentry, hflags _ _ hflag⟩

/-- Further work that records a fault. -/
theorem State.FaultWork.record (h : s.FaultWork t) (hscan : s.mode ≠ .scanning) (k : FaultKind) :
    s.FaultWork (t.recordFault k) := by
  obtain ⟨hflags, hphases, hflag, hentry⟩ := t.recordFault_ports k
  exact ⟨by simpa using h.mode, h.lockout.trans (State.recordFault_follows (h.mode ▸ hscan) k) hflags,
    fun _ => ⟨hentry, hflag⟩, h.flags.trans hflags, h.phases.trans hphases,
    h.queue.trans (.recordFault t k)⟩

/-! ### The entries of a request -/

theorem State.queueRecord_hasEntry_ne (s : State) {x y : RecordId} (h : x ≠ y) (edit : Bool) :
    (s.queueRecord y edit).hasEntry x = s.hasEntry x := by
  rw [Bool.eq_iff_iff, State.hasEntry_map, State.hasEntry_map]
  rcases s.queueRecord_records y edit with hr | ⟨-, hr⟩ <;> rw [hr]
  simp [h]

/-- A record that stood in no entry joins the tail (R64). -/
theorem State.queueRecord_tail (s : State) {x : RecordId} (hx : x.isAccount = false)
    (h : s.hasEntry x = false) :
    (s.queueRecord x).commitQueue.map (·.record) = s.commitQueue.map (·.record) ++ [x] := by
  obtain hr | ⟨-, hr⟩ := s.queueRecord_records x false
  · have hself := s.queueRecord_self hx false
    rw [State.hasEntry_map, hr, ← State.hasEntry_map, h] at hself
    cases hself
  · exact hr

/-! ### The float lowered (R50, R58) -/

theorem State.lowerFloat_float (s : State) (amount : Nat) : (s.lowerFloat amount).float = s.float - amount := by
  unfold State.lowerFloat
  dsimp only
  split
  · simp
    omega
  · simp

theorem State.lowerFloat_faults (s : State) (amount : Nat) : (s.lowerFloat amount).faults =
    if s.float < amount then s.faults.set .floatShortfall ((s.faults.get .floatShortfall).occur s.yardTime)
    else s.faults := by
  unfold State.lowerFloat
  dsimp only
  split <;> simp

theorem State.lowerFloat_follows (hsettings : t.settings = s.settings) (hlow : t.floatLow = s.floatLow) :
    FloatLowFollows s (t.lowerFloat amount) := by
  unfold State.lowerFloat
  dsimp only
  split <;> exact State.checkFloatLow_follows (by simpa using hsettings) (by simpa using hlow)

theorem State.FaultWork.lowerFloat (h : s.FaultWork t) (hscan : s.mode ≠ .scanning) (amount : Nat) :
    s.FaultWork (t.lowerFloat amount) := by
  have hcheck (y : State) (hy : s.FaultWork y) : s.FaultWork y.checkFloatLow :=
    hy.then (by simp) (by simp [SameFaults]) (by simp) (FlagsKept.setFloatLow y _) y.checkFloatLow_samePhases
      (.of_same (by simp) (by simp) (by simp))
  have hplain (y : State) (f : Nat) (hy : s.FaultWork y) : s.FaultWork { y with float := f } :=
    hy.then rfl ⟨rfl, rfl⟩ rfl (FlagsKept.of_ports rfl) (fun _ => ⟨rfl, rfl, rfl⟩) (.of_same rfl rfl rfl)
  unfold State.lowerFloat
  dsimp only
  split
  · exact hcheck _ ((hplain t 0 h).record hscan .floatShortfall)
  · exact hcheck _ (hplain t _ h)

theorem State.lowerFloat_hasEntry (s : State) (amount : Nat) :
    (s.lowerFloat amount).hasEntry .float = s.hasEntry .float := by
  have hrecord (y : State) : (y.recordFault .floatShortfall).hasEntry .float = y.hasEntry .float :=
    (State.queueRecord_hasEntry_ne _ (by decide) false).trans (State.hasEntry_congr (by simp) _)
  unfold State.lowerFloat
  dsimp only
  split
  · rw [State.hasEntry_congr (s := ({ s with float := 0 } : State).recordFault .floatShortfall) (by simp),
      hrecord]
    rfl
  · exact State.hasEntry_congr (by simp) _

/-! ### The stages of a payment (R49) -/

/-- The dispense timer of an order in hand stopped, and an amount that is not the payout recorded. -/
def State.payBegun (s : State) (num amount : Nat) : State :=
  let y := if s.orderState? num = some .dispensing then { s with dispenseTimer := none } else s
  if amount ≠ s.payoutOf num then y.recordFault .payoutMismatch else y

/-- The docket paid, out of the queue and in the finished list. -/
def State.payBooked (s : State) (num amount : Nat) : State :=
  (((((s.payBegun num amount).lowerFloat amount).updateDocket num
    (Docket.paidWith (s.payoutOf num) amount)).dequeueOrder num).joinFinished num)

theorem State.pay_eq (s : State) (num amount : Nat) :
    s.pay num amount = (s.payBooked num amount).freeSettlement num := rfl

theorem State.payBegun_faults (s : State) (num amount : Nat) : (s.payBegun num amount).faults =
    if amount ≠ s.payoutOf num
    then s.faults.set .payoutMismatch ((s.faults.get .payoutMismatch).occur s.yardTime) else s.faults := by
  unfold State.payBegun
  dsimp only
  split_ifs <;> simp

@[simp] theorem State.payBegun_frame (s : State) (num amount : Nat) :
    (s.payBegun num amount).float = s.float ∧ (s.payBegun num amount).floatLow = s.floatLow ∧
    (s.payBegun num amount).settings = s.settings ∧ (s.payBegun num amount).yardTime = s.yardTime ∧
    (s.payBegun num amount).settlements = s.settlements ∧
    (s.payBegun num amount).dispenseTimer =
      if s.orderState? num = some .dispensing then none else s.dispenseTimer := by
  unfold State.payBegun
  dsimp only
  split_ifs <;> simp

theorem State.FaultWork.payBegun (h : s.FaultWork s) (hscan : s.mode ≠ .scanning) (num amount : Nat) :
    s.FaultWork (s.payBegun num amount) := by
  have hstopped : s.FaultWork { s with dispenseTimer := none } :=
    h.then rfl ⟨rfl, rfl⟩ rfl (FlagsKept.of_ports rfl) (fun _ => ⟨rfl, rfl, rfl⟩) (.of_same rfl rfl rfl)
  unfold State.payBegun
  dsimp only
  split_ifs
  · exact hstopped.record hscan _
  · exact h.record hscan _
  · exact hstopped
  · exact h

theorem State.payBegun_hasEntry (s : State) (num amount : Nat) :
    (s.payBegun num amount).hasEntry .float = s.hasEntry .float := by
  have hrecord (y : State) : (y.recordFault .payoutMismatch).hasEntry .float = y.hasEntry .float :=
    (State.queueRecord_hasEntry_ne _ (by decide) false).trans (State.hasEntry_congr (by simp) _)
  unfold State.payBegun
  dsimp only
  split_ifs
  · exact (hrecord _).trans rfl
  · exact hrecord s
  · rfl
  · rfl

theorem FlagsKept.payBooked (s : State) (num amount : Nat) :
    FlagsKept ((s.payBegun num amount).lowerFloat amount) (s.payBooked num amount) :=
  (FlagsKept.of_ports (by simp)).trans (FlagsKept.raise _ .office .finished)

theorem State.FaultWork.payBooked (h : s.FaultWork s) (hscan : s.mode ≠ .scanning) (num amount : Nat) :
    s.FaultWork (s.payBooked num amount) := by
  have hlowered := (h.payBegun hscan num amount).lowerFloat hscan amount
  exact hlowered.then (by simp [State.payBooked]) (by simp [State.payBooked, SameFaults])
    (by simp [State.payBooked]) (FlagsKept.payBooked s num amount)
    (SamePhases.trans (fun q => by simp) (State.raise_samePhases _ .office .finished))
    (.of_same (by simp [State.payBooked]) (by simp [State.payBooked]) (by simp [State.payBooked]))

theorem State.payBooked_hasEntry (s : State) (num amount : Nat) :
    (s.payBooked num amount).hasEntry .float = s.hasEntry .float :=
  (State.hasEntry_congr (by simp [State.payBooked]) _).trans
    ((State.lowerFloat_hasEntry _ amount).trans (s.payBegun_hasEntry num amount))

/-! ### The settlement record freed, and the wait (R49 step 5, R51) -/

theorem State.freeSettlement_eq (h : s.settlementOf num = some r) : s.freeSettlement num =
    (({ s with settlements := tableDel s.settlements r } : State).queueRecord (.settlement r)).queueRecord
      .float := by
  simp [State.freeSettlement, h]

/-- The two requests of a payment: the settlement record, and the float record behind it (R49 step 5). -/
theorem State.freeSettlement_entries (h : s.settlementOf num = some r) :
    (s.freeSettlement num).hasEntry (.settlement r) = true ∧ (s.freeSettlement num).hasEntry .float = true ∧
    QueueKept s (s.freeSettlement num) ∧ (s.hasEntry .float = false →
      ∃ a b, (s.freeSettlement num).commitQueue.map (·.record) = a ++ .settlement r :: b ++ [.float]) := by
  rw [State.freeSettlement_eq h]
  generalize hy : ({ s with settlements := tableDel s.settlements r } : State) = y
  have hkept : QueueKept s y := .of_same (by rw [← hy]) (by rw [← hy]) (by rw [← hy])
  have hqueued := QueueKept.queueRecord y (x := .settlement r) rfl
  have hbehind := QueueKept.queueRecord (y.queueRecord (.settlement r)) (x := .float) rfl
  have hentry := y.queueRecord_self (r := .settlement r) rfl false
  refine ⟨hbehind.2.2 _ hentry, State.queueRecord_self _ rfl false, (hkept.trans hqueued).trans hbehind,
    fun hnone => ?_⟩
  have hfree : (y.queueRecord (.settlement r)).hasEntry .float = false := by
    rw [State.queueRecord_hasEntry_ne y (by simp), State.hasEntry_congr (s := s) (by rw [← hy]), hnone]
  obtain ⟨a, b, hab⟩ := List.append_of_mem (((y.queueRecord (.settlement r)).hasEntry_map _).mp hentry)
  exact ⟨a, b, by rw [State.queueRecord_tail _ rfl hfree, hab]⟩

theorem State.FaultWork.pay (h : s.FaultWork s) (hscan : s.mode ≠ .scanning) (hr : s.settlementOf num = some r)
    (amount : Nat) : s.FaultWork (s.pay num amount) := by
  have hbooked : (s.payBooked num amount).settlementOf num = some r :=
    (State.settlementOf_congr (by simp [State.payBooked]) num).trans hr
  obtain ⟨-, -, hqueue, -⟩ := State.freeSettlement_entries hbooked
  exact (h.payBooked hscan num amount).then (by simp [State.pay_eq]) (by simp [State.pay_eq, SameFaults])
    (by simp [State.pay_eq]) (FlagsKept.of_ports (by simp [State.pay_eq])) (fun q => by simp [State.pay_eq])
    hqueue

/-- A port's wait on the record freed: its phase, and nothing of the rest. -/
theorem State.waitFreed_eq (s : State) (p : Port) (r : Nat) (k : WaitKind) :
    s.waitFreed p (some r) k = (s.wait (.settlement r) k).toExecuting p := rfl

theorem QueueKept.waitFreed (s : State) (p : Port) (r : Option Nat) (k : WaitKind) :
    QueueKept s (s.waitFreed p r k) := .of_same (by simp) (by simp) (by simp)

theorem FlagsKept.waitFreed (s : State) (p : Port) (r : Nat) (k : WaitKind) :
    FlagsKept s (s.waitFreed p (some r) k) :=
  (FlagsKept.of_ports rfl).trans (FlagsKept.toExecuting (s.wait (.settlement r) k) p)

/-- FINISHED is raised at a payment (R6, R49). -/
theorem State.pay_flagged (s : State) (num amount : Nat) : (s.pay num amount).Flagged .office .finished := by
  have hraised : (s.payBooked num amount).Flagged .office .finished := State.raise_flagged _ .office .finished
  exact FlagsKept.of_ports (by simp [State.pay_eq]) _ _ hraised

theorem State.pay_faults (s : State) (num amount : Nat) :
    (s.pay num amount).faults = s.faultsPaid (s.payoutOf num) amount := by
  have hlowered : (s.pay num amount).faults = ((s.payBegun num amount).lowerFloat amount).faults := by
    simp [State.pay_eq, State.payBooked]
  rw [hlowered, State.lowerFloat_faults, State.payBegun_faults]
  simp [State.faultsPaid]

theorem State.pay_float (s : State) (num amount : Nat) : (s.pay num amount).float = s.float - amount ∧
    FloatLowFollows s (s.pay num amount) := by
  have hlowered : FloatLowFollows s ((s.payBegun num amount).lowerFloat amount) :=
    State.lowerFloat_follows (by simp) (by simp)
  have hflags : FlagsKept ((s.payBegun num amount).lowerFloat amount) (s.pay num amount) :=
    (FlagsKept.payBooked s num amount).trans (FlagsKept.of_ports (by simp [State.pay_eq]))
  exact ⟨by simp [State.pay_eq, State.payBooked, State.lowerFloat_float],
    hlowered.kept (by simp [State.pay_eq, State.payBooked]) (by simp [State.pay_eq, State.payBooked]) hflags⟩

/-- A port that stands in READY shows no result (R176). -/
theorem State.Fits.ready_empty (hs : s.Fits) (h : (s.ports.get p).phase = .ready) :
    (s.ports.get p).result = [] := by
  obtain ⟨⟨-, -, hlane⟩, ⟨-, -, hpayout⟩, -, -, hoffice⟩ := hs.ports
  by_contra hne
  have hresult : (s.ports.get p).phase = .result := by
    cases p with
    | lane => exact hlane.mp hne
    | payout => exact hpayout.mp hne
    | office => exact hoffice.mp hne
  rw [h] at hresult
  cases hresult

/-- Everything a payment does, at the end of its event (R40, R49 to R53, R59, R61). -/
theorem State.Fits.paid (hs : s.Fits) (hactive : s.active = true) {d : Docket} {o : Order}
    (hd : s.docket? d.number = some d) (ho : d.order = some o)
    (hst : o.state = .dispensing ∨ o.state = .suspense) (hr : s.settlementOf d.number = some r)
    {k : WaitKind} (hk : k.taken? = none) {p : Port} (hempty : (s.ports.get p).result = []) (amount : Nat) :
    s.Paid (State.conclude s ((s.pay d.number amount).waitFreed p (some r) k)) p d o r amount k := by
  have horder : s.orderState? d.number = some o.state := State.orderState?_eq_some.mpr ⟨d, hd, o, ho, rfl⟩
  have hsettled := hs.settles_pay hactive (num := d.number) (by simpa [horder] using hst) amount (some r) hk p
  have hscan := State.active_not_scanning hactive
  have hfaults := (State.FaultWork.refl hs.lockout hactive).pay hscan hr amount
  have hfreed : (s.payBooked d.number amount).settlementOf d.number = some r :=
    (State.settlementOf_congr (by simp [State.payBooked]) _).trans hr
  obtain ⟨hentry, hfloatEntry, -, hbehind⟩ := State.freeSettlement_entries hfreed
  obtain ⟨hfloat, hlow⟩ := s.pay_float d.number amount
  have hflags : FlagsKept (s.pay d.number amount) _ :=
    (FlagsKept.waitFreed (s.pay d.number amount) p r k).trans (State.conclude_flags s _)
  have hread (m : Nat) : (State.conclude s ((s.pay d.number amount).waitFreed p (some r) k)).docket? m =
      if m = d.number then some (d.paidWith (s.payoutOf d.number) amount) else s.docket? m := by
    rw [State.docket?_congr (s := s.pay d.number amount) (by simp), State.docket?_congr (s.pay_dockets _ _),
      s.docket?_updateDocket _ _ (by exact fun _ => rfl), hd]
    rfl
  obtain ⟨hready, hcause⟩ := hsettled.events hactive (by simp)
  have hphases : SamePhases s ((s.pay d.number amount).wait (.settlement r) k) :=
    hfaults.phases.trans fun q => by simp
  obtain ⟨hphase, hresult, hothers⟩ := State.conclude_executing hphases s p
  refine ⟨hready, ⟨hsettled.short (by simpa [State.active] using hactive), fun h => hcause (.inl h)⟩, ?docket,
    fun m hm => (hread m).trans (if_neg hm), ⟨by simp [State.pay_finished], hflags _ _ (s.pay_flagged _ _)⟩,
    by simp, ?timer, ⟨by simpa using hfloat, hlow.kept (by simp) (by simp) hflags⟩, ?faults, ?record, ?behind,
    ⟨hphase, hresult.trans hempty, hothers⟩, ?kept⟩
  case docket =>
    rw [hread, if_pos rfl]
    simp [Docket.paidWith, ho, Order.confirmed]
  case timer => simp [State.pay_eq, State.payBooked, horder]
  case faults =>
    refine ⟨by simpa using s.pay_faults _ _, hfaults.lockout.kept (by simp) (by simp) (by simp) hflags,
      fun hne => ?_⟩
    obtain ⟨hqueued, hflag⟩ := hfaults.recorded (by simpa using hne)
    exact ⟨by simpa using (State.hasEntry_congr (by simp) _).trans hqueued, hflags _ _ hflag⟩
  case record =>
    have hqueued (x : RecordId) (hx : (s.pay d.number amount).hasEntry x = true) :
        (State.conclude s ((s.pay d.number amount).waitFreed p (some r) k)).hasEntry x = true := by
      simpa using (State.hasEntry_congr (by simp) x).trans hx
    refine ⟨by simp [State.pay_settlements, hr], by simp, hqueued _ hentry, hqueued _ hfloatEntry,
      State.conclude_waitsFor s ⟨⟨.settlement r, false, k⟩, ?_, rfl, rfl⟩⟩
    simp [State.waitFreed_eq]
  case behind => simpa [State.pay_eq] using fun h => hbehind ((s.payBooked_hasEntry _ _).trans h)
  case kept =>
    exact ⟨by simp [SameClock], by simp [SameLanes], by simp, by simp, by simp, by simp,
      (hfaults.queue.trans (.waitFreed _ p _ k)).trans (.conclude s _), by simp⟩

end Sys2Proof.Machine

namespace Sys2Proof.Proofs
open Sys2Proof.Machine

/-- Settles O33: the checks of R48 in order, and the payment by either command. -/
theorem confirmedOrdersArePaid : Obligations.ConfirmedOrdersArePaid := by
  intro s ps
  refine ⟨fun hpins htakes => ⟨fun hover => ?range, fun hle hd => ?unknown, fun d hle hd hno => ?wrongState⟩,
    fun d o r hs hd ho hr hle => ⟨fun htakes hst => ?confirmed, fun htakes hst => ?resolved⟩⟩
  case range =>
    refine exec_refuses .outOfRange rfl hpins htakes ?_
    exact if_pos hover
  case unknown =>
    exact exec_refuses .noSuchDocket rfl hpins htakes (by simp [amountLimit, Nat.not_lt.mpr hle, hd])
  case wrongState =>
    refine exec_refuses .wrongState rfl hpins htakes ?_
    have hstate : s.orderState? (field ps 0 2) = d.order.map (·.state) := State.orderState?_docket hd
    have hrange : ¬ amountLimit < field ps 2 4 := Nat.not_lt.mpr hle
    simp only [hrange, hd, if_false, Option.isNone_some, Bool.false_eq_true]
    cases ho : d.order with
    | none => simp [hstate, ho]
    | some o =>
      obtain ⟨hdisp, hsusp⟩ := hno o ho
      cases hst : o.state <;> simp_all
  case confirmed =>
    have hnum := (State.docket?_number hd).symm
    rw [hnum] at hd
    have horder : s.orderState? d.number = some o.state := by rw [State.orderState?_docket hd, ho]; rfl
    have hpaid := hs.paid (hs.takes_active htakes) hd ho hst hr
      (k := .confirm d.number (o.state = .suspense) (s.float - field ps 2 4)) rfl
      (hs.ready_empty htakes.1) (field ps 2 4)
    have hexec : exec (.confirmPayout .payout ps) s = .next (State.conclude s
        ((s.pay d.number (field ps 2 4)).waitFreed .payout (some r)
          (.confirm d.number (o.state = .suspense) (s.float - field ps 2 4)))) := by
      refine congrArg _ ((State.command_takes htakes _).trans ?_)
      rcases hst with hst | hst <;>
        simp [amountLimit, Nat.not_lt.mpr hle, hnum, hd, horder, hst, hr, (s.pay_float _ _).1]
    exact ⟨_, hexec, hpaid⟩
  case resolved =>
    have hnum := (State.docket?_number hd).symm
    rw [hnum] at hd
    have horder : s.orderState? d.number = some o.state := by rw [State.orderState?_docket hd, ho]; rfl
    have hfield : paidField ps = some (field ps 2 4) := if_neg (by unfold max32; omega)
    have hpaid := hs.paid (hs.takes_active htakes) hd ho (.inr hst) hr
      (k := .resolve d.number (s.float - field ps 2 4)) rfl (hs.ready_empty htakes.1) (field ps 2 4)
    have hexec : exec (.resolveSuspense .office ps) s = .next (State.conclude s
        ((s.pay d.number (field ps 2 4)).waitFreed .office (some r)
          (.resolve d.number (s.float - field ps 2 4)))) := by
      refine congrArg _ ((State.command_takes htakes _).trans ?_)
      simp [hfield, amountLimit, Nat.not_lt.mpr hle, hnum, hd, horder, hst, hr, (s.pay_float _ _).1]
    exact ⟨_, hexec, hpaid⟩

end Sys2Proof.Proofs
end

section
/-! SUPPORT. What the scan keeps of lockout, the ports and the queue, from any store (R181, R190, R191). -/
namespace Sys2Proof.Machine

variable {s t u : State} {α : Type}

/-- What a part of the scan keeps: lockout, which is not evaluated before the scan is complete, the ports'
phases and flags, the Lane port whole and FLOAT_OUT as it stands, every entry, and dockets from records alone. -/
structure State.ScanKept (s t : State) : Prop where
  mode : t.mode = s.mode
  lockout : t.lockout = s.lockout
  flags : FlagsKept s t
  phases : SamePhases s t
  lane : t.ports.get .lane = s.ports.get .lane
  floatOut : (t.ports.get .payout).flags &&& Event.bit .payout .floatOut =
    (s.ports.get .payout).flags &&& Event.bit .payout .floatOut
  entries : ∀ r, s.hasEntry r = true → t.hasEntry r = true
  dockets : ∀ d ∈ t.dockets, d ∈ s.dockets ∨ ∃ x : SettleRecord, d = x.restore

theorem State.ScanKept.of_same (hmode : t.mode = s.mode) (hlock : t.lockout = s.lockout)
    (hports : t.ports = s.ports) (hqueue : t.commitQueue = s.commitQueue) (hd : t.dockets = s.dockets) :
    s.ScanKept t :=
  ⟨hmode, hlock, FlagsKept.of_ports hports, fun _ => by rw [hports]; exact ⟨rfl, rfl, rfl⟩, by rw [hports],
    by rw [hports], fun r h => (State.hasEntry_congr hqueue r).trans h, fun _ h => .inl (hd ▸ h)⟩

theorem State.ScanKept.refl (s : State) : s.ScanKept s := .of_same rfl rfl rfl rfl rfl

theorem State.ScanKept.trans (h : s.ScanKept t) (h' : t.ScanKept u) : s.ScanKept u :=
  ⟨h'.mode.trans h.mode, h'.lockout.trans h.lockout, h.flags.trans h'.flags, h.phases.trans h'.phases,
    h'.lane.trans h.lane, h'.floatOut.trans h.floatOut, fun r hr => h'.entries r (h.entries r hr),
    fun d hd => (h'.dockets d hd).elim (h.dockets d) .inr⟩

/-- An event of the Office port's, or SUSPENSE of the Payout port's, touches neither the Lane port nor
FLOAT_OUT. -/
theorem State.ScanKept.raise (s : State) (e : Event) : s.ScanKept (s.raise .office e) :=
  ⟨by simp, by simp, FlagsKept.raise s _ _, s.raise_samePhases _ _, by simp, by simp,
    fun r h => h, fun _ h => .inl h⟩

theorem State.ScanKept.suspense (s : State) : s.ScanKept (s.raise .payout .suspense) := by
  refine ⟨by simp, by simp, FlagsKept.raise s _ _, s.raise_samePhases _ _, by simp, ?_, fun r h => h,
    fun _ h => .inl h⟩
  have hbits : Event.bit .payout .suspense &&& Event.bit .payout .floatOut = 0 := by decide
  simp [BitVec.and_or_distrib_right, hbits]

theorem State.ScanKept.queueRecord (s : State) (r : RecordId) : s.ScanKept (s.queueRecord r) :=
  ⟨by simp, by simp, FlagsKept.of_ports (by simp), fun _ => by simp, by simp, by simp,
    fun x h => s.queueRecord_hasEntry h r false, fun _ h => .inl (by simpa using h)⟩

/-- In STARTING an occurrence of a fault does not evaluate lockout (R167). -/
theorem State.ScanKept.recordFault (h : s.mode = .scanning) (k : FaultKind) : s.ScanKept (s.recordFault k) := by
  have hnoted : s.noteFault k = ({ s with faults := s.faults.set k ((s.faults.get k).occur s.yardTime) } :
      State).raise .office .fault := by
    simp [State.noteFault, State.evalLockout, h]
  have hkept : s.ScanKept (s.noteFault k) := by
    rw [hnoted]
    have hset (f : FaultRecord) : s.ScanKept { s with faults := f } := .of_same rfl rfl rfl rfl rfl
    exact (hset _).trans (.raise _ .fault)
  exact hkept.trans (.queueRecord _ .fault)

/-! ### Record by record -/

theorem State.scanFault_kept (h : s.mode = .scanning) : s.ScanKept s.scanFault := by
  have hset (f : FaultRecord) : s.ScanKept { s with faults := f } := .of_same rfl rfl rfl rfl rfl
  unfold State.scanFault
  split
  · exact hset _
  · exact hset {}
  · exact hset {}
  · exact (hset {}).trans (.recordFault (s := { s with faults := {} }) h .storeCorrupt)

theorem State.scanSettings_kept (h : s.mode = .scanning) : s.ScanKept s.scanSettings := by
  have hset (g : Settings) : s.ScanKept { s with settings := g } := .of_same rfl rfl rfl rfl rfl
  have hdefault := (hset {}).trans (.raise _ .settingsDefault)
  unfold State.scanSettings
  split
  · exact hset _
  · exact hdefault
  · exact hdefault
  · exact hdefault.trans (.recordFault (hdefault.mode.trans h) .storeCorrupt)

theorem State.scanFloat_kept (h : s.mode = .scanning) (soft : Bool) : s.ScanKept (s.scanFloat soft) := by
  have hset (v : Nat) : s.ScanKept { s with float := v } := .of_same rfl rfl rfl rfl rfl
  have hcorrupt (y : State) (hy : s.ScanKept y) :
      s.ScanKept ((y.recordFault .storeCorrupt).queueRecord .float) :=
    (hy.trans (.recordFault (hy.mode.trans h) .storeCorrupt)).trans (.queueRecord _ .float)
  unfold State.scanFloat
  cases s.store.float <;> cases soft
  case valid.false v => exact hset v
  case valid.true v => exact .refl s
  case corrupt.false i => exact hcorrupt _ (hset 0)
  case corrupt.true i => exact hcorrupt s (.refl s)
  case blank.false | empty.false => exact hset 0
  case blank.true | empty.true => exact .queueRecord s .float

theorem State.scanAccount_kept (h : s.mode = .scanning) (e : Nat × Cell Account) :
    s.ScanKept (s.scanAccount e) := by
  have hput (l : Table Account) : s.ScanKept { s with accounts := l } := .of_same rfl rfl rfl rfl rfl
  have hcorrupt (id : Nat) : s.ScanKept (s.scanCorruptAccount e.1 id) := by
    have hqueued (y : State) (hy : s.ScanKept y) :
        s.ScanKept ((y.queueRecord (.account e.1)).recordFault .storeCorrupt) :=
      (hy.trans (.queueRecord y _)).trans (.recordFault (by simpa using hy.mode.trans h) .storeCorrupt)
    unfold State.scanCorruptAccount
    dsimp only
    split
    · exact hqueued _ (hput _)
    · exact hqueued s (.refl s)
  unfold State.scanAccount
  split
  · split
    · exact hput _
    · exact hcorrupt _
  · exact .refl s
  · exact .refl s
  · exact hcorrupt _

theorem State.scanSettlement_kept (h : s.mode = .scanning) (e : Nat × Cell SettleRecord) :
    s.ScanKept (s.scanSettlement e) := by
  unfold State.scanSettlement
  split
  · rename_i x _
    split
    · have hrestored : s.ScanKept { s with settlements := tablePut s.settlements e.1 x
                                           dockets := s.dockets ++ [x.restore] } := by
        refine ⟨rfl, rfl, FlagsKept.of_ports rfl, fun _ => ⟨rfl, rfl, rfl⟩, rfl, rfl, fun _ hr => hr,
          fun d hd => ?_⟩
        exact (List.mem_append.mp hd).imp id fun hd => ⟨x, List.mem_singleton.mp hd⟩
      dsimp only
      split
      · exact hrestored
      · exact (hrestored.trans (.suspense _)).trans (.raise _ .suspense)
    · exact (State.ScanKept.queueRecord s _).trans (.recordFault (by simpa using h) .storeCorrupt)
  · exact .refl s
  · exact .refl s
  · exact (State.ScanKept.recordFault h .storeCorrupt).trans (.queueRecord _ _)

/-- A walk over the records of a table keeps what each of its steps keeps. -/
theorem State.ScanKept.foldl {step : State → Nat × Cell α → State}
    (hstep : ∀ (y : State) (e : Nat × Cell α), y.mode = .scanning → y.ScanKept (step y e)) (l : Table (Cell α)) (h : s.mode = .scanning) :
    s.ScanKept (l.foldl step s) := by
  induction l generalizing s with
  | nil => exact .refl s
  | cons e l ih =>
    have hfirst := hstep s e h
    exact hfirst.trans (ih (hfirst.mode.trans h))

/-- The three records before the tables (R190). -/
theorem State.scanHeads_kept (h : s.mode = .scanning) (soft : Bool) :
    s.ScanKept (s.scanFault.scanSettings.scanFloat soft) := by
  have hfault := State.scanFault_kept h
  have hsettings := hfault.trans (State.scanSettings_kept (hfault.mode.trans h))
  exact hsettings.trans (State.scanFloat_kept (hsettings.mode.trans h) soft)

/-- The two tables, walked after them. -/
theorem State.scanTables_kept (h : s.mode = .scanning) (soft : Bool) :
    (s.scanFault.scanSettings.scanFloat soft).ScanKept (s.scan soft) := by
  have hmode := (State.scanHeads_kept h soft).mode.trans h
  have haccounts := State.ScanKept.foldl (fun _ e hy => State.scanAccount_kept hy e)
    (s.scanFault.scanSettings.scanFloat soft).store.accounts hmode
  exact haccounts.trans (.foldl (fun _ e hy => State.scanSettlement_kept hy e) _ (haccounts.mode.trans hmode))

theorem State.scan_kept (h : s.mode = .scanning) (soft : Bool) : s.ScanKept (s.scan soft) :=
  (State.scanHeads_kept h soft).trans (State.scanTables_kept h soft)

/-- For SOFT_RESET a blank float record is queued (R55, R190). -/
theorem State.scan_floatQueued (h : s.mode = .scanning) (hblank : s.store.float = .blank) :
    (s.scan true).hasEntry .float = true := by
  refine (State.scanTables_kept h true).entries _ ?_
  have h1 := s.scanFault_frame.1
  have h2 := s.scanFault.scanSettings_frame.1
  simp only [ScanFrame] at h1 h2
  have hstore : s.scanFault.scanSettings.store.float = .blank := by simp only [h1, h2, hblank]
  rw [State.scanFloat, hstore]
  exact State.queueRecord_self _ rfl false

/-- The float and the settings that the scan reads (R55, R84, R190). -/
theorem State.scan_read (s : State) (soft : Bool) :
    (s.scan soft).float = (if soft then s.float else s.store.float.validOr 0) ∧
    (s.scan soft).settings = s.store.settings.validOr {} := by
  obtain ⟨-, -, -, hfault, -⟩ := s.scanFault_frame
  obtain ⟨-, -, -, hkept⟩ := s.scanFault.scanSettings_frame
  obtain ⟨-, hsettings, -⟩ := s.scanFault.scanSettings_scans
  obtain ⟨-, hfloat⟩ := s.scanFault.scanSettings.scanFloat_scans soft
  obtain ⟨-, -, -, hfloatSettings⟩ := s.scanFault.scanSettings.scanFloat_frame soft
  have hstore : s.scanFault.store = s.store ∧ s.scanFault.scanSettings.store = s.store := by
    have h1 := s.scanFault_frame.1
    have h2 := s.scanFault.scanSettings_frame.1
    simp only [ScanFrame] at h1 h2
    simp only [h1, h2, and_self]
  obtain ⟨-, hsettledFloat, hsettledSettings, -⟩ := State.scanSettlements_frame (s.scanHead soft) s.store.settlements
  obtain ⟨-, -, haccountFloat, haccountSettings⟩ :=
    State.scanAccounts_frame (s.scanFault.scanSettings.scanFloat soft) s.store.accounts
  rw [s.scan_eq, hsettledFloat, hsettledSettings, State.scanHead, haccountFloat, haccountSettings, hfloat,
    hfloatSettings, hsettings, hstore.1, hstore.2, hkept, hfault]
  exact ⟨rfl, rfl⟩

end Sys2Proof.Machine
end

section
/-! SUPPORT. The resets and the loss of power (R55, R73, R160, R174, R180, R181, R188). -/
namespace Sys2Proof.Machine

variable {s t : State}

theorem State.cutOff_of_store (h : t.store = s.cutProgram.store) : s.CutOff t := by
  rw [State.CutOff, h]
  exact s.cutProgram_store

/-- Right after a reset a port stands in STARTING, with RESET set (R180, R181). -/
theorem State.cleared_port (s : State) (p : Port) : s.cleared.ports.get p = {} := by cases p <;> rfl

/-- The lines of a part held by RESET_N (R109, R168, R182). -/
theorem State.drivePins_held (h : s.mode = .resetHeld) :
    s.drivePins.pins = { lstop := .all true, lockout := true, attn := .all false, glDe := false } :=
  s.ruledPins_held h

/-- The lines of a part in STARTING with no call on the link (R109, R168, R182). -/
theorem State.ruledPins_scanning (h : s.mode = .scanning) (hturn : s.turn = none) :
    s.ruledPins = { lstop := .all true, lockout := true, attn := .all false, glDe := false } := by
  simp [State.ruledPins, h, State.glDeOf, hturn]

/-- What the scan finds as the reset left it (R188). -/
@[simp] theorem State.powerUp_frame (s : State) :
    s.powerUp.pending = s.pending ∧ s.powerUp.mode = .scanning ∧ s.powerUp.addrStrap = s.addrStrap ∧
    s.powerUp.resetLow = s.resetLow ∧ s.powerUp.address = addressOf s.addrStrap ∧ s.powerUp.yardTime = 0 ∧
    s.powerUp.subSecond = 0 ∧ s.powerUp.handedBack = none ∧ s.powerUp.detectors = .all {} ∧
    s.powerUp.links = .all {} ∧ s.powerUp.rotation = none ∧ s.powerUp.turn = none ∧
    s.powerUp.strays = .all {} ∧ s.powerUp.finished = [] ∧ s.powerUp.openDocket = .all none ∧
    s.powerUp.grace = .all none ∧ s.powerUp.orderQueue = [] ∧ s.powerUp.dispenseTimer = none ∧
    s.powerUp.floatLow = false ∧ s.powerUp.shortCause = false ∧ s.powerUp.emptyCause = false ∧
    s.powerUp.program = none ∧ s.powerUp.waiters = [] := by
  have hframe := s.cutProgram.cleared.scan_frame false
  simp only [ScanFrame] at hframe
  simp only [State.powerUp, State.drivePins_frame, hframe]
  simp [State.cleared]

/-- STARTING begins with everything but the store discarded (R55, R188, R189). -/
theorem State.powerUp_poweredUp (hlow : s.resetLow = false) : s.PoweredUp s.powerUp := by
  obtain ⟨-, hlock, hflags, hphases, -, -, -, hdockets⟩ := State.scan_kept (s := s.cutProgram.cleared) rfl false
  obtain ⟨hfloat, hsettings⟩ := s.cutProgram.cleared.scan_read false
  have hstore := s.powerUp_store
  refine ⟨?starting, ?lanes, ?dockets, fun p => ?ports, ?lines, ?conditions, State.cutOff_of_store hstore,
    ?float, ?settings, ?kept⟩
  case starting => simp
  case lanes => simp
  case dockets =>
    refine ⟨by simp, by simp, by simp, by simp, by simp, by simp, fun d hd => ?_⟩
    obtain hd | ⟨x, rfl⟩ := hdockets d hd
    · cases hd
    · exact ⟨rfl, rfl, rfl⟩
  case ports =>
    obtain ⟨hphase, hresult, hhold⟩ := hphases p
    rw [State.cleared_port] at hphase hresult hhold
    refine ⟨hphase, hresult, hhold, hflags p .reset ?_⟩
    rw [State.Flagged, State.cleared_port]
    cases p <;> decide
  case lines =>
    have hframe := s.powerUp_frame
    simp only [State.powerUp, State.drivePins_frame] at hframe
    exact State.ruledPins_scanning (by simp only [hframe]) (by simp only [hframe])
  case conditions => exact ⟨hlock, by simp, by simp, by simp⟩
  case float => rw [hstore]; exact hfloat
  case settings => rw [hstore]; exact hsettings
  case kept => simp [hlow, addressOf]

/-- A power-on reset with RESET_N held low holds the part with everything but the store discarded (R188, log
entry 33). -/
theorem State.powerUpHeld_held (hlow : s.resetLow = true) : s.Held s.powerUpHeld := by
  refine ⟨?_, ?_, ?_, ?_, fun p => ?_, State.drivePins_held rfl, ?_, State.cutOff_of_store (by simp), ?_⟩
  · simp [State.powerUpHeld, State.cleared]
  · simp [State.powerUpHeld, State.cleared]
  · simp [State.powerUpHeld, State.cleared]
  · simp [State.powerUpHeld, State.cleared]
  · have hport : s.powerUpHeld.ports.get p = {} := s.cutProgram.cleared_port p
    rw [hport]
    exact ⟨rfl, rfl, rfl⟩
  · simp [State.powerUpHeld, State.cleared]
  · simp [hlow]

theorem State.cutProgram_program (s : State) : s.cutProgram.program = none := by
  unfold State.cutProgram
  split
  · rfl
  · assumption

end Sys2Proof.Machine

namespace Sys2Proof.Proofs
open Sys2Proof.Machine

/-- Settles O57, reset by reset. -/
theorem resetsDiscardAllButTheStore : Obligations.ResetsDiscardAllButTheStore := by
  intro s
  refine ⟨fun hlow => ?powerOn, fun hlow => ?held, fun hmode hprog => ?released, fun hmode => ?asserted,
    fun hmode => ?loss⟩
  case powerOn =>
    exact ⟨s.powerUp, congrArg _ (if_neg (by simp [hlow])), State.powerUp_poweredUp hlow⟩
  case held => exact ⟨s.powerUpHeld, congrArg _ (if_pos hlow), State.powerUpHeld_held hlow⟩
  case released =>
    obtain ⟨hstarting, hlanes, hdockets, hports, hlines, hconditions, hstore, hfloat, hsettings, hkept⟩ :=
      State.powerUp_poweredUp (s := { s with resetLow := false }) rfl
    exact ⟨_, exec_resetNReleased hmode, hstarting, hlanes, hdockets, hports, hlines, hconditions, hstore,
      hfloat, hsettings, hkept⟩
  case asserted =>
    refine ⟨_, if_neg hmode, ?_⟩
    refine ⟨by simp, by simp, by simp [State.cutProgram_program], by simp, by simp, by simp, fun p => ?_,
      State.drivePins_held rfl, State.cutOff_of_store (by simp), by simp, by simp, by simp, by simp, by simp⟩
    simp [PortState.inReset]
  case loss =>
    refine ⟨_, if_neg hmode, ?_⟩
    exact ⟨by simp, State.cutOff_of_store (by simp [State.cleared]), by simp [State.cleared],
      by simp [State.cleared], by simp [State.cleared], by simp [State.cleared], by simp [State.cleared],
      by simp [State.cleared], by simp [State.cleared], by simp [State.cleared], by simp [State.cleared],
      by simp [State.cleared], by simp [State.cleared], by simp [State.cleared], by simp [State.cleared]⟩

end Sys2Proof.Proofs
end

section
/-! SUPPORT. SOFT_RESET: the hand-over ended, and the drain with its end (R45, R58, R61, R73, R88, R188). -/
namespace Sys2Proof.Machine

variable {s t : State} {num r : Nat}

/-! ### The hand-over that ends (R45) -/

/-- An order whose hand-over is not consumed: OFFERED, or DISPENSING without a dispense timer. -/
abbrev State.Unconsumed (s : State) (num : Nat) : Prop :=
  s.orderState? num = some .offered ∨ (s.orderState? num = some .dispensing ∧ s.dispenseTimer = none)

/-- The state with no order handed back. -/
def State.keptNone (s : State) : State := { s with handedBack := none }

theorem State.Fits.unconsumed_unique (hs : s.Fits) {m : Nat} (h : s.Unconsumed num) (h' : s.Unconsumed m) :
    num = m := by
  have hheld (k : Nat) (hk : s.Unconsumed k) : ∃ st, s.orderState? k = some st ∧ st.held :=
    hk.elim (fun hk => ⟨_, hk, .inl rfl⟩) fun hk => ⟨_, hk.1, .inr rfl⟩
  obtain ⟨st, hst, hin⟩ := hheld num h
  obtain ⟨st', hst', hin'⟩ := hheld m h'
  exact hs.slips.hand num m st st' hst hst' hin hin'

/-- What the end of a hand-over does: an OFFERED order is marked OWED, a DISPENSING one without a timer goes back
to the queue, and otherwise nothing is handed back (R45). -/
theorem State.Fits.endHandOver_cases (hs : s.Fits) :
    (∃ num, s.Unconsumed num ∧ s.endHandOver = { s.keptNone.markOwed num with handedBack := some num }) ∨
    (∃ num, s.Unconsumed num ∧ s.endHandOver = { s.keptNone.returnOrder num with handedBack := some num }) ∨
    ((∀ num, ¬ s.Unconsumed num) ∧ s.endHandOver = s.keptNone) := by
  have hstate (m : Nat) : s.keptNone.orderState? m = s.orderState? m := State.orderState?_congr rfl m
  have hfind : s.keptNone.unstarted? = s.unstarted? := rfl
  have hhand : s.keptNone.inHand? = s.inHand? := rfl
  have heq : s.endHandOver = match s.keptNone.inHand? with
    | some d =>
      match s.keptNone.orderState? d.number, s.keptNone.unstarted? with
      | some .offered, _ => { s.keptNone.markOwed d.number with handedBack := some d.number }
      | _, some num => { s.keptNone.returnOrder num with handedBack := some num }
      | _, none => s.keptNone
    | none => s.keptNone := rfl
  cases hd : s.inHand? with
  | none =>
    refine .inr (.inr ⟨fun num h => ?_, by rw [heq, hhand, hd]⟩)
    rcases h with h | ⟨h, -⟩
    · exact State.inHand?_none hd h (.inl rfl)
    · exact State.inHand?_none hd h (.inr rfl)
  | some d =>
    rw [hhand, hd] at heq
    simp only [hstate, hfind] at heq
    by_cases hoff : s.orderState? d.number = some .offered
    · rw [hoff] at heq
      exact .inl ⟨d.number, .inl hoff, heq⟩
    · cases hun : s.unstarted? with
      | some num =>
        have htimer := (State.unstarted?_isSome.mp (by rw [hun]; rfl)).1
        refine .inr (.inl ⟨num, .inr ⟨State.unstarted?_dispensing hs.ledger.numbers hun, htimer⟩, ?_⟩)
        rw [heq, hun]
        split <;> simp_all
      | none =>
        refine .inr (.inr ⟨fun num h => ?_, ?_⟩)
        · rcases h with h | ⟨h, htimer⟩
          · obtain ⟨x, hx, rfl⟩ := hs.inHand? h (.inl rfl)
            obtain rfl := Option.some.inj (hd.symm.trans hx)
            exact hoff h
          · have := hs.unstarted? htimer h
            rw [hun] at this
            cases this
        · rw [heq, hun]
          split <;> simp_all

theorem State.markOwed_entry (h : s.settlementOf num = some r) :
    (s.markOwed num).hasEntry (.settlement r) = true :=
  State.queueSettlement_entry ((State.settlementOf_setMarker s num .owed).trans h)

theorem QueueKept.markOwed (s : State) (num : Nat) : QueueKept s (s.markOwed num) :=
  (QueueKept.of_same rfl rfl rfl).trans (.queueSettlement (s.setMarker num .owed) num)

@[simp] theorem State.endHandOver_rest (s : State) :
    s.endHandOver.pending = s.pending ∧ s.endHandOver.addrStrap = s.addrStrap ∧
    s.endHandOver.resetLow = s.resetLow ∧ s.endHandOver.detectors = s.detectors ∧
    s.endHandOver.turn = s.turn ∧ s.endHandOver.finished = s.finished ∧
    s.endHandOver.openDocket = s.openDocket ∧ s.endHandOver.grace = s.grace ∧
    s.endHandOver.accounts = s.accounts ∧ s.endHandOver.program = s.program := by
  unfold State.endHandOver
  dsimp only
  split
  · split <;> simp
  · simp

/-- The order of an unconsumed hand-over: its marker OWED, its record queued, and kept for the drain (R45). -/
theorem State.Fits.endHandOver_unconsumed (hs : s.Fits) (h : s.Unconsumed num) :
    s.endHandOver.handedBack = some num ∧ ∀ r, s.settlementOf num = some r →
      (tableGet s.endHandOver.settlements r).map (·.marker) = some .owed ∧
      s.endHandOver.hasEntry (.settlement r) = true := by
  have hmarked (r : Nat) (hr : s.settlementOf num = some r) :
      (tableGet (s.setMarker num .owed).settlements r).map (·.marker) = some .owed := by
    obtain ⟨x, hx, -⟩ := State.settlementOf_get hs.risingSettlements hr
    rw [(hs.setMarker_record hr .owed).1, hx]
    rfl
  have hrecord (r : Nat) (hr : s.settlementOf num = some r) : s.keptNone.settlementOf num = some r :=
    (State.settlementOf_congr rfl num).trans hr
  obtain ⟨m, hm, he⟩ | ⟨m, hm, he⟩ | ⟨hno, -⟩ := hs.endHandOver_cases
  · obtain rfl := hs.unconsumed_unique h hm
    rw [he]
    refine ⟨rfl, fun r hr => ⟨?_, State.markOwed_entry (hrecord r hr)⟩⟩
    simpa [State.keptNone] using hmarked r hr
  · obtain rfl := hs.unconsumed_unique h hm
    rw [he]
    refine ⟨rfl, fun r hr => ⟨?_, State.returnOrder_entry (hrecord r hr)⟩⟩
    simpa [State.keptNone] using hmarked r hr
  · exact absurd h (hno num)

theorem State.Fits.endHandOver_handedBack (hs : s.Fits) (num : Nat) :
    s.endHandOver.handedBack = some num ↔ s.Unconsumed num := by
  refine ⟨fun h => ?_, fun h => (hs.endHandOver_unconsumed h).1⟩
  obtain ⟨m, hm, -⟩ | ⟨m, hm, -⟩ | ⟨-, he⟩ := hs.endHandOver_cases
  · have := (hs.endHandOver_unconsumed hm).1
    rw [h] at this
    exact Option.some.inj this ▸ hm
  · have := (hs.endHandOver_unconsumed hm).1
    rw [h] at this
    exact Option.some.inj this ▸ hm
  · rw [he] at h
    cases h

theorem State.Fits.endHandOver_queue (hs : s.Fits) : QueueKept s s.endHandOver := by
  have hnone : QueueKept s s.keptNone := .of_same rfl rfl rfl
  obtain ⟨m, -, he⟩ | ⟨m, -, he⟩ | ⟨-, he⟩ := hs.endHandOver_cases
  · rw [he]
    exact (hnone.trans (.markOwed _ m)).trans (.of_same rfl rfl rfl)
  · rw [he]
    exact (hnone.trans (.returnOrder _ m)).trans (.of_same rfl rfl rfl)
  · rw [he]
    exact hnone

/-! ### SOFT_RESET (R73, R180, R181, R188) -/

/-- The state after the hand-over's end and the end of its event, before the drain begins. -/
def State.handOverEnded (s : State) : State := State.conclude s s.endHandOver.dropPortWaiters

/-- The drain begun: the ports in STARTING, with RESET alone set. -/
def State.drainBegun (s : State) : State :=
  ({ s with mode := .draining, address := addressOf s.addrStrap, ports := .all {} } : State).drivePins

theorem exec_softReset {ps : List Byte} (htakes : s.Takes .office .softReset ps) :
    exec (.softReset .office ps) s = .next s.handOverEnded.drainBegun :=
  congrArg _ (State.command_takes htakes _)

/-- With no order in hand the queue and the program stand (R73). -/
theorem State.Fits.handOverEnded_idle (hs : s.Fits) (h : s.inHand? = none) :
    s.handOverEnded = s.keptNone.dropPortWaiters.drivePins := by
  have he : s.endHandOver = s.keptNone := by
    have hno (m : Nat) : ¬ s.Unconsumed m := fun hm => hm.elim (fun hm => State.inHand?_none h hm (.inl rfl))
      fun hm => State.inHand?_none h hm.1 (.inr rfl)
    obtain ⟨m, hm, -⟩ | ⟨m, hm, -⟩ | ⟨-, he⟩ := hs.endHandOver_cases
    · exact absurd hm (hno m)
    · exact absurd hm (hno m)
    · exact he
  rw [State.handOverEnded, he]
  exact State.conclude_idle hs.queue rfl rfl rfl (State.headView_congr rfl (State.orderState?_congr rfl)) rfl

end Sys2Proof.Machine
end

section
/-! SUPPORT. SOFT_RESET and the end of its drain (R45, R58, R61, R73, R88, R188). -/
namespace Sys2Proof.Machine

variable {s t : State} {num r : Nat}

/-! ### The drain begun -/

@[simp] theorem State.drainBegun_frame (s : State) :
    s.drainBegun.mode = .draining ∧ s.drainBegun.address = addressOf s.addrStrap ∧
    s.drainBegun.ports = .all {} ∧ s.drainBegun.pending = s.pending ∧
    s.drainBegun.addrStrap = s.addrStrap ∧ s.drainBegun.resetLow = s.resetLow ∧
    s.drainBegun.yardTime = s.yardTime ∧ s.drainBegun.handedBack = s.handedBack ∧
    s.drainBegun.detectors = s.detectors ∧ s.drainBegun.turn = s.turn ∧ s.drainBegun.finished = s.finished ∧
    s.drainBegun.openDocket = s.openDocket ∧ s.drainBegun.grace = s.grace ∧
    s.drainBegun.float = s.float ∧ s.drainBegun.accounts = s.accounts ∧
    s.drainBegun.settlements = s.settlements ∧ s.drainBegun.faults = s.faults ∧
    s.drainBegun.settings = s.settings ∧ s.drainBegun.lockout = s.lockout ∧
    s.drainBegun.store = s.store ∧ s.drainBegun.commitQueue = s.commitQueue ∧
    s.drainBegun.held = s.held ∧ s.drainBegun.program = s.program := by
  simp [State.drainBegun]

/-- The lines of a part in STARTING for SOFT_RESET: a call still on the link is seen through (R109, R160,
R168, R182). -/
theorem State.drainBegun_pins (s : State) : s.drainBegun.pins =
    { lstop := .all true, lockout := true, attn := .all false, glDe := s.glDeOf } := rfl

theorem State.glDeOf_congr (h : t.turn = s.turn) : t.glDeOf = s.glDeOf := by
  simp only [State.glDeOf, h]

@[simp] theorem State.handOverEnded_frame (s : State) :
    s.handOverEnded.pending = s.pending ∧ s.handOverEnded.addrStrap = s.addrStrap ∧
    s.handOverEnded.resetLow = s.resetLow ∧ s.handOverEnded.yardTime = s.yardTime ∧
    s.handOverEnded.handedBack = s.endHandOver.handedBack ∧ s.handOverEnded.detectors = s.detectors ∧
    s.handOverEnded.turn = s.turn ∧ s.handOverEnded.finished = s.finished ∧
    s.handOverEnded.openDocket = s.openDocket ∧ s.handOverEnded.grace = s.grace ∧
    s.handOverEnded.float = s.float ∧ s.handOverEnded.accounts = s.accounts ∧
    s.handOverEnded.settlements = s.endHandOver.settlements ∧ s.handOverEnded.faults = s.faults ∧
    s.handOverEnded.settings = s.settings ∧ s.handOverEnded.lockout = s.lockout := by
  simp [State.handOverEnded, State.dropPortWaiters]

theorem State.handOverEnded_hasEntry (s : State) (e : RecordId) :
    s.handOverEnded.hasEntry e = s.endHandOver.hasEntry e := by
  rw [State.handOverEnded, State.conclude_hasEntry]
  rfl

theorem State.Fits.handOverEnded_queue (hs : s.Fits) : QueueKept s s.handOverEnded :=
  (hs.endHandOver_queue.trans (.of_same (t := s.endHandOver.dropPortWaiters) rfl rfl rfl)).trans (.conclude s _)

/-- The program in progress goes on (R73). -/
theorem State.handOverEnded_program {g : Program} (h : s.program = some g) :
    s.handOverEnded.program = some g := by
  have hevents : (State.orderEvents s s.endHandOver.dropPortWaiters).program = some g := by
    simp [State.dropPortWaiters, h]
  rw [State.handOverEnded, State.conclude, State.beginProgram_some _ hevents]
  simpa only [State.drivePins_frame] using hevents

/-! ### The end of the drain -/

/-- The state that the scan at the end of a drain begins from. -/
def State.drainCleared (s : State) : State := s.lanesToOff.floatToClear.drainedOut

/-- What the end of a drain keeps, and what it clears (R188). -/
theorem State.drainCleared_frame (s : State) :
    (s.drainCleared.store = s.store ∧ s.drainCleared.turn = s.turn ∧ s.drainCleared.pending = s.pending ∧
      s.drainCleared.addrStrap = s.addrStrap ∧ s.drainCleared.resetLow = s.resetLow ∧
      s.drainCleared.address = s.address) ∧
    (s.drainCleared.mode = .scanning ∧ s.drainCleared.program = none ∧ s.drainCleared.orderQueue = [] ∧
      s.drainCleared.finished = [] ∧ s.drainCleared.dispenseTimer = none ∧ s.drainCleared.handedBack = none ∧
      s.drainCleared.openDocket = .all none ∧ s.drainCleared.grace = .all none ∧
      s.drainCleared.detectors = .all {} ∧ s.drainCleared.links = .all {} ∧ s.drainCleared.strays = .all {} ∧
      s.drainCleared.floatLow = false ∧ s.drainCleared.shortCause = false ∧
      s.drainCleared.emptyCause = false ∧ s.drainCleared.dockets = []) := by
  refine ⟨?_, by simp [State.drainCleared, State.drainedOut]⟩
  simp [State.drainCleared, State.drainedOut, State.floatToClear, State.lanesToOff, Lane.list]

theorem State.drainCleared_ports (s : State) : s.drainCleared.ports = s.lanesToOff.floatToClear.ports := by
  simp only [State.drainCleared, State.drainedOut]

theorem State.drainEnded_eq (s : State) : s.drainEnded = (s.drainCleared.scan true).drivePins := by
  rw [State.drainEnded, State.drainCleared]

theorem State.drainCleared_floats (s : State) :
    s.drainCleared.float = s.float ∧ s.drainCleared.yardTime = s.yardTime := by
  simpa only [State.drainCleared, SameMeters] using s.cleared_meters

theorem FlagsKept.setEmptyCause (s : State) (x : Bool) : FlagsKept s (s.setEmptyCause x) := by
  unfold State.setEmptyCause
  split
  · exact FlagsKept.of_ports rfl
  · exact (FlagsKept.of_ports (t := { s with emptyCause := x }) rfl).trans (.raise _ _ _)

theorem FlagsKept.moveLane (s : State) (n : Lane) (d : Detector) : FlagsKept s (s.moveLane n d) := by
  have hset : FlagsKept s (s.setDetector n d) := .of_ports (by simp)
  unfold State.moveLane
  split
  · exact hset.trans (.raise _ _ _)
  · exact hset

/-- What a walk that puts lanes in OFF does to the ports (R88, log entry 31). -/
theorem State.movesOff_ports (l : List Lane) (s : State) :
    FlagsKept s (l.foldl (fun s n => s.moveLane n {}) s) ∧
    SameOtherPorts s (l.foldl (fun s n => s.moveLane n {}) s) .lane ∧
    ∀ n ∈ l, (s.detectors.get n).state ≠ .off →
      (l.foldl (fun s n => s.moveLane n {}) s).Flagged .lane .laneState := by
  induction l generalizing s with
  | nil => exact ⟨FlagsKept.of_ports rfl, fun _ _ => rfl, fun n hn => absurd hn (by simp)⟩
  | cons m l ih =>
    obtain ⟨hflags, hothers, hraised⟩ := ih (s.moveLane m {})
    refine ⟨(FlagsKept.moveLane s m {}).trans hflags, fun q hq => (hothers q hq).trans ?_, fun n hn hoff => ?_⟩
    · rw [State.moveLane_ports]
      split
      · simp [hq]
      · rfl
    · by_cases hnm : n = m
      · subst hnm
        refine hflags _ _ ?_
        rw [State.moveLane, if_pos (raisesLaneState_off hoff)]
        exact State.raise_flagged _ .lane .laneState
      · refine hraised n ((List.mem_cons.mp hn).resolve_left hnm) ?_
        simpa [hnm] using hoff

/-- The float conditions clear: each that was set raises its event, and no other does (R58, R61, log
entry 11). -/
theorem State.floatToClear_ports (s : State) :
    FlagsKept s s.floatToClear ∧ s.floatToClear.ports.get .lane = s.ports.get .lane ∧
    (s.floatLow = true → s.floatToClear.Flagged .payout .floatLow ∧ s.floatToClear.Flagged .office .floatLow) ∧
    (s.shortCause = true ∨ s.emptyCause = true → s.floatToClear.Flagged .payout .floatOut) ∧
    (s.shortCause = false → s.emptyCause = false →
      (s.floatToClear.ports.get .payout).flags &&& Event.bit .payout .floatOut =
        (s.ports.get .payout).flags &&& Event.bit .payout .floatOut) := by
  obtain ⟨hlow1, -, hlow3, -⟩ := s.setFloatLow_flags false
  obtain ⟨hempty1, hempty2, -⟩ := (s.setFloatLow false).setEmptyCause_flags false
  obtain ⟨hshort1, hshort2, -⟩ := ((s.setFloatLow false).setEmptyCause false).setShortCause_flags false
  have hlast := FlagsKept.setShortCause ((s.setFloatLow false).setEmptyCause false) false
  have hlater := (FlagsKept.setEmptyCause (s.setFloatLow false) false).trans hlast
  refine ⟨(FlagsKept.setFloatLow s false).trans hlater, ?lane, fun hlow => ?low, fun hout => ?out,
    fun hshort hempty => ?still⟩
  case lane => exact (hshort2 .lane (by decide)).trans ((hempty2 .lane (by decide)).trans hlow3)
  case low =>
    obtain ⟨hpay, hoff⟩ := State.setFloatLow_flagged (s := s) (x := false) (by simp [hlow])
    exact ⟨hlater _ _ hpay, hlater _ _ hoff⟩
  case out =>
    rcases hout with hshort | hempty
    · exact State.setShortCause_flagged (by simp [hshort])
    · exact hlast _ _ (State.setEmptyCause_flagged (by simp [hempty]))
  case still =>
    have hbits : Event.bit .payout .floatLow &&& Event.bit .payout .floatOut = 0 := by decide
    rw [State.floatToClear, hshort1, hempty1, hlow1]
    by_cases hlow : s.floatLow = false <;> simp [hshort, hempty, hlow, BitVec.and_or_distrib_right, hbits]

end Sys2Proof.Machine

namespace Sys2Proof.Proofs
open Sys2Proof.Machine

/-- Settles O58, the reset and the end of its drain. -/
theorem softResetDrainsThenScans : Obligations.SoftResetDrainsThenScans := by
  intro s
  refine ⟨fun ps hs htakes => ⟨_, exec_softReset htakes, ?reset⟩, fun hmode hqueue hheld hprog =>
    ⟨_, exec_softResetDrainEnd hmode hqueue hheld hprog, ?drained⟩⟩
  case reset =>
    obtain ⟨hstore, hkeptHeld, hentries⟩ := hs.handOverEnded_queue
    have hentry (e : RecordId) (h : s.endHandOver.hasEntry e = true) :
        s.handOverEnded.drainBegun.hasEntry e = true :=
      (State.hasEntry_congr (by simp) e).trans ((s.handOverEnded_hasEntry e).trans h)
    refine ⟨by simp, fun p => ?ports, ?lines, by simp [addressOf],
      fun num r hout hr => ?marked,
      fun num => ?back, fun hidle => ?stands, ⟨by simpa using hstore, by simpa using hkeptHeld, fun r hr => ?_⟩,
      fun g hg => by simp [State.handOverEnded_program hg], by simp, by simp, by simp, by simp,
      by simp [SameFaults],
      by simp, by simp, by simp, by simp, by simp, by simp, by simp, by simp⟩
    case ports =>
      rw [show s.handOverEnded.drainBegun.ports = .all {} from rfl]
      cases p <;> rfl
    case lines => rw [State.drainBegun_pins, State.glDeOf_congr (t := s.handOverEnded) (s := s) (by simp)]
    case marked =>
      obtain ⟨-, hmarked⟩ := hs.endHandOver_unconsumed hout
      obtain ⟨hmark, he⟩ := hmarked r hr
      exact ⟨by simpa using hmark, hentry _ he⟩
    case back => simpa using hs.endHandOver_handedBack num
    case stands =>
      rw [hs.handOverEnded_idle hidle]
      simp [SameStore, State.dropPortWaiters, State.keptNone]
    case _ => exact (State.hasEntry_congr (by simp) r).trans (hentries r hr)
  case drained =>
    obtain ⟨⟨hstore, hturn, hpending, hstrap, hlow, haddress⟩, hmode', hprog', horders, hfinished, htimer, hback,
      hopen, hgrace, hdetectors, hlinks, hstrays, hfloatLow, hshort, hempty, hdockets⟩ := s.drainCleared_frame
    obtain ⟨hfloat, hyard⟩ := s.drainCleared_floats
    have hframe := s.drainCleared.scan_frame true
    simp only [ScanFrame] at hframe
    have hkept := State.scan_kept hmode' true
    obtain ⟨hreadFloat, hreadSettings⟩ := s.drainCleared.scan_read true
    obtain ⟨hoffFlags, hoffOthers, hoffRaised⟩ := State.movesOff_ports Lane.list s
    obtain ⟨hclear, hclearLane, hclearLow, hclearOut, hclearStill⟩ := s.lanesToOff.floatToClear_ports
    have hports := s.drainCleared_ports
    have hflags : FlagsKept s.lanesToOff.floatToClear (s.drainCleared.scan true).drivePins :=
      ((FlagsKept.of_ports hports).trans hkept.flags).trans (.of_ports (by simp only [State.drivePins_frame]))
    have hlane : (s.drainCleared.scan true).drivePins.ports.get .lane = s.lanesToOff.ports.get .lane := by
      simp only [State.drivePins_frame, hkept.lane, hports, hclearLane]
    rw [State.drainEnded_eq]
    generalize s.drainCleared = c at *
    simp only [State.drivePins_frame] at hlane ⊢
    simp only [hframe, hmode', hreadFloat, hreadSettings, hfloat, hyard, hstore, hturn, hpending, hprog', horders,
      hfinished, htimer, hback, hstrap, hlow, haddress, hopen, hgrace, hdetectors, hlinks, hstrays, hfloatLow,
      hshort, hempty, if_true, true_and]
    obtain ⟨hlow', hshort', hempty'⟩ := s.lanesToOff_conditions
    refine ⟨fun ⟨n, hn⟩ => ?laneState, fun hoff => ?laneStill, fun h => ?low, fun h => ?out, fun h1 h2 => ?still,
      fun d hd => ?dockets, fun g hg => by rw [hg]; rfl, fun hblank => ?blank⟩
    case laneState =>
      exact hflags _ _ (hclear _ _ (hoffRaised n (Lane.mem_list n) hn))
    case laneStill => rw [hlane, State.lanesToOff_ports_off s hoff]
    case low =>
      obtain ⟨hpay, hoff⟩ := hclearLow (hlow'.trans h)
      exact ⟨hflags _ _ hpay, hflags _ _ hoff⟩
    case out => exact hflags _ _ (hclearOut (by rwa [hshort', hempty']))
    case still =>
      rw [hkept.floatOut, hports, hclearStill (hshort'.trans h1) (hempty'.trans h2)]
      have hothers : s.lanesToOff.ports.get .payout = s.ports.get .payout := hoffOthers .payout (by decide)
      rw [hothers]
    case dockets =>
      obtain hd | ⟨x, rfl⟩ := hkept.dockets d hd
      · rw [hdockets] at hd
        cases hd
      · rfl
    case blank =>
      have hqueued := State.scan_floatQueued hmode' (by rw [hstore, hblank])
      exact (State.hasEntry_congr (by simp only [State.drivePins_frame]) _).trans hqueued

end Sys2Proof.Proofs
end

section
/-! SUPPORT. The end of a program that failed twice, part by part: what it leaves in the store, the fault, the
entry, the waiters and an account frozen (R43, R66, R68, R71, R72). -/
namespace Sys2Proof.Machine

variable {s t : State} {g : Program} {e : Entry} {rest : List Entry} {r : RecordId} {ok : Bool}

/-! ### The waiters (Table 4-3) -/

theorem FlagsKept.answerWaiting (s : State) (p : Port) (c : CommandCode) (rc : ResultCode) (b : Body) :
    FlagsKept s (s.answerWaiting p c rc b) := by
  unfold State.answerWaiting
  split
  · exact .answered s p c rc b
  · exact .of_ports rfl

theorem State.waiterEnds_kept (ok : Bool) (s : State) (w : Waiter) :
    QueueKept s (State.waiterEnds ok s w) ∧ FlagsKept s (State.waiterEnds ok s w) := by
  have hanswer (y : State) (p : Port) (c : CommandCode) (rc : ResultCode) (b : Body) :
      QueueKept y (y.answerWaiting p c rc b) ∧ FlagsKept y (y.answerWaiting p c rc b) :=
    ⟨.of_same (by simp) (by simp) (by simp), .answerWaiting y p c rc b⟩
  unfold State.waiterEnds
  cases w.kind with
  | order num => exact ⟨.of_same (by simp) (by simp) (by simp), .of_ports (by simp)⟩
  | take num =>
    cases ok with
    | true =>
      obtain ⟨hqueue, hflags⟩ := hanswer (s.setOrderState num .dispensing) .payout .takeOrder .ok
        ((s.setOrderState num .dispensing).takeBody num)
      exact ⟨(QueueKept.of_same (by simp) (by simp) (by simp)).trans hqueue,
        (FlagsKept.of_ports (by simp)).trans hflags⟩
    | false =>
      obtain ⟨hqueue, hflags⟩ := hanswer (s.returnOrder num) .payout .takeOrder .storeFailed [fixed (be 2 num)]
      exact ⟨(QueueKept.returnOrder s num).trans hqueue, (FlagsKept.of_ports (by simp)).trans hflags⟩
  | _ => exact hanswer ..

/-- The outcomes of the waiters keep the store, the held accounts, every entry and every flag. -/
theorem State.waitersEnd_kept (s : State) (r : RecordId) (ok : Bool) :
    QueueKept s (s.waitersEnd r ok) ∧ FlagsKept s (s.waitersEnd r ok) := by
  have hfold (ws : List Waiter) (y : State) :
      QueueKept y (ws.foldl (State.waiterEnds ok) y) ∧ FlagsKept y (ws.foldl (State.waiterEnds ok) y) := by
    induction ws generalizing y with
    | nil => exact ⟨.of_same rfl rfl rfl, .of_ports rfl⟩
    | cons w ws ih =>
      obtain ⟨hqueue, hflags⟩ := State.waiterEnds_kept ok y w
      obtain ⟨hqueue', hflags'⟩ := ih (State.waiterEnds ok y w)
      exact ⟨hqueue.trans hqueue', hflags.trans hflags'⟩
  exact hfold _ _

/-- Without a TAKE_ORDER among the waiters the records and the queues stand (R43). -/
theorem State.waitersEnd_untaken
    (h : ∀ w ∈ s.waiters, w.begun = true → w.record = r → w.isTake = false) :
    (s.waitersEnd r ok).settlements = s.settlements ∧ (s.waitersEnd r ok).orderQueue = s.orderQueue ∧
    (s.waitersEnd r ok).commitQueue = s.commitQueue := by
  have hone (y : State) (w : Waiter) (hw : w.isTake = false) :
      (State.waiterEnds ok y w).settlements = y.settlements ∧
      (State.waiterEnds ok y w).orderQueue = y.orderQueue ∧
      (State.waiterEnds ok y w).commitQueue = y.commitQueue := by
    obtain ⟨m, -, he⟩ | ⟨m, hk, -⟩ | ⟨hno, hnt⟩ := State.waiterEnds_cases ok y w
    · simp [he]
    · simp [Waiter.isTake, hk] at hw
    · exact (State.waiterEnds_answer hno hnt).2
  have hfold (ws : List Waiter) (hws : ∀ w ∈ ws, w.isTake = false) (y : State) :
      (ws.foldl (State.waiterEnds ok) y).settlements = y.settlements ∧
      (ws.foldl (State.waiterEnds ok) y).orderQueue = y.orderQueue ∧
      (ws.foldl (State.waiterEnds ok) y).commitQueue = y.commitQueue := by
    induction ws generalizing y with
    | nil => exact ⟨rfl, rfl, rfl⟩
    | cons w ws ih =>
      obtain ⟨h1, h2, h3⟩ := hone y w (hws w List.mem_cons_self)
      obtain ⟨h1', h2', h3'⟩ := ih (fun v hv => hws v (List.mem_cons_of_mem _ hv)) (State.waiterEnds ok y w)
      exact ⟨h1'.trans h1, h2'.trans h2, h3'.trans h3⟩
  refine hfold _ (fun w hw => ?_) _
  obtain ⟨hmem, hends⟩ := List.mem_filter.mp hw
  simp only [Bool.and_eq_true, decide_eq_true_eq] at hends
  exact h w hmem hends.1 hends.2

/-! ### An account frozen (R71) -/

theorem FlagsKept.freeze (s : State) (r : RecordId) : FlagsKept s (s.freeze r) := by
  unfold State.freeze
  repeat' split
  any_goals exact .of_ports rfl
  exact (FlagsKept.of_ports (t := { s with accounts := _ }) rfl).trans (.raise _ _ _)

theorem State.freeze_active {n : Nat} {a : Account} (ha : tableGet s.accounts n = some a)
    (hactive : a.status = .active) :
    (s.freeze (.account n)).accounts = tablePut s.accounts n { a with status := .frozen } ∧
    (s.freeze (.account n)).Flagged .office .accountFrozen := by
  simp only [State.freeze, ha, if_pos hactive]
  exact ⟨by simp, State.raise_flagged _ .office .accountFrozen⟩

/-- An account that is not ACTIVE, and a record that is no account, freeze nothing. -/
theorem State.freeze_else (h : ∀ n a, r = .account n → tableGet s.accounts n = some a → a.status ≠ .active) :
    s.freeze r = s := by
  unfold State.freeze
  split
  · split
    · exact if_neg (h _ _ rfl ‹_›)
    · rfl
  all_goals rfl

/-! ### STORE_VERIFY and the end of the entry (R66, R69, R71, R72) -/

theorem FlagsKept.verifyFault (s : State) (r : RecordId) :
    FlagsKept s (s.verifyFault r) ∧ (s.verifyFault r).Flagged .office .fault := by
  unfold State.verifyFault
  split
  · obtain ⟨hflags, -, hfault⟩ := s.noteFault_ports .storeVerify
    exact ⟨hflags, hfault⟩
  · obtain ⟨hflags, -, hfault, -⟩ := s.recordFault_ports .storeVerify
    exact ⟨hflags, hfault⟩

theorem State.verifyFault_follows (h : s.mode ≠ .scanning) (r : RecordId) :
    LockoutFollows s (s.verifyFault r) := by
  unfold State.verifyFault
  split
  · exact State.noteFault_follows h _
  · exact State.recordFault_follows h _

theorem State.verifyFault_faults (s : State) (r : RecordId) : (s.verifyFault r).faults =
    s.faults.set .storeVerify ((s.faults.get .storeVerify).occur s.yardTime) := by
  unfold State.verifyFault
  split <;> simp

/-- STORE_VERIFY leaves the head entry of its record, and queues at most the fault
record behind it. -/
theorem State.verifyFault_queue (hq : s.commitQueue = e :: rest) :
    (s.verifyFault e.record).held = s.held ∧
    ∃ rest', (s.verifyFault e.record).commitQueue = e :: rest' ∧
      (∀ x, x ∈ rest.map (·.record) → x ∈ rest'.map (·.record)) ∧
      (∀ x, x ∈ rest'.map (·.record) → x ∈ rest.map (·.record) ∨ (x = .fault ∧ e.record ≠ .fault)) ∧
      (e.record ≠ .fault → .fault ∈ rest'.map (·.record)) := by
  by_cases hr : e.record = .fault
  · rw [State.verifyFault, if_pos hr]
    exact ⟨by simp, rest, by simpa using hq, fun _ h => h, fun _ h => .inl h, fun h => absurd hr h⟩
  · rw [State.verifyFault, if_neg hr, State.recordFault]
    have hq' : (s.noteFault .storeVerify).commitQueue = e :: rest := by simpa using hq
    refine ⟨(State.queueRecord_held_eq _ rfl false).trans (by simp), ?_⟩
    generalize s.noteFault .storeVerify = y at *
    obtain ⟨hentry, hy⟩ | ⟨-, ⟨n, -, hn⟩, -⟩ | ⟨-, n, hn, -⟩ | ⟨-, -, hy⟩ := y.queueRecord_cases .fault false
    · rw [hq', List.map_cons, if_neg hr] at hy
      have hmap (l : List Entry) : (l.map fun x => if x.record = .fault then
          { x with edit := x.edit || false, changed := x.changed || y.programming .fault } else x).map
            (·.record) = l.map (·.record) := by
        rw [List.map_map]
        exact List.map_congr_left fun x _ => by simp only [Function.comp_apply]; split <;> rfl
      have hfault : .fault ∈ rest.map (·.record) := by
        rw [State.hasEntry_map, hq', List.map_cons] at hentry
        exact (List.mem_cons.mp hentry).resolve_left (Ne.symm hr)
      refine ⟨_, by rw [hy], fun x hx => ?_, fun x hx => .inl ?_, fun _ => ?_⟩
      · rwa [hmap]
      · rwa [hmap] at hx
      · rwa [hmap]
    · cases hn
    · cases hn
    · refine ⟨rest ++ [{ record := .fault }], by rw [hy, hq']; rfl, fun x hx => ?_, fun x hx => ?_,
        fun _ => by simp⟩
      · rw [List.map_append]
        exact List.mem_append_left _ hx
      · rw [List.map_append, List.mem_append] at hx
        exact hx.imp id fun hx => ⟨by simpa using hx, hr⟩

/-- The entry marked changed moves to the tail; any other leaves, the oldest held account moving in where it was
an account's. -/
theorem State.entryEnds_queue (hq : s.commitQueue = e :: rest) : ∃ moved,
    s.entryEnds.commitQueue.map (·.record) = rest.map (·.record) ++ moved ∧
    (e.changed = true → moved = [e.record] ∧ s.entryEnds.held = s.held) ∧
    (∀ n held, e.changed = false → e.record.isAccount = true → s.held = n :: held →
      moved = [.account n] ∧ s.entryEnds.held = held) ∧
    (e.changed = false → e.record.isAccount = false ∨ s.held = [] → moved = [] ∧ s.entryEnds.held = s.held) := by
  by_cases h : e.changed = true
  · refine ⟨[e.record], ?_, fun _ => ⟨rfl, ?_⟩, fun _ _ hn => ?_, fun hn => ?_⟩
    · simp [State.entryEnds_changed s hq h]
    · simp [State.entryEnds_changed s hq h]
    · simp [h] at hn
    · simp [h] at hn
  · have h : e.changed = false := by simpa using h
    obtain ⟨hmoves, hleaves⟩ := State.entryEnds_leaves s hq h
    by_cases hno : e.record.isAccount = false ∨ s.held = []
    · refine ⟨[], by simp [hleaves hno], fun hc => by simp [h] at hc, fun n held _ hacc hheld => ?_,
        fun _ _ => ⟨rfl, by simp [hleaves hno]⟩⟩
      simp [hacc, hheld] at hno
    · rw [not_or, Bool.not_eq_false] at hno
      obtain ⟨hacc, hheld⟩ := hno
      obtain ⟨n, held, hn⟩ := List.exists_cons_of_ne_nil hheld
      have he := hmoves n held hacc hn
      refine ⟨[.account n], by simp [he], fun hc => by simp [h] at hc, fun m l _ _ hm => ?_, fun _ hor => ?_⟩
      · rw [hn] at hm
        obtain ⟨rfl, rfl⟩ := List.cons.inj hm
        exact ⟨rfl, by rw [he]⟩
      · exact absurd hor (by simp [hacc, hn])

end Sys2Proof.Machine
end

section
/-! SUPPORT. The end of a program that failed twice, put together (R43, R66, R68, R71, R72). -/
namespace Sys2Proof.Machine

variable {s t : State} {g : Program} {e : Entry} {rest : List Entry}

/-- The program in progress is the head entry's (R64). -/
theorem State.QueueFits.program_head (h : s.QueueFits) (hg : s.program = some g) :
    s.active = true ∧ ∃ e rest, s.commitQueue = e :: rest ∧ e.record = g.record := by
  obtain ⟨-, -, -, -, -, -, hprogram, -⟩ := h
  obtain ⟨hactive, hhead⟩ := hprogram (by rw [hg]; rfl)
  refine ⟨hactive, ?_⟩
  cases hq : s.commitQueue with
  | nil => simp [hg, hq] at hhead
  | cons e rest => exact ⟨e, rest, rfl, by simpa [hg, hq] using hhead.symm⟩

/-- What a program that failed twice leaves in its record: the order handed back by SOFT_RESET marked DISPENSING;
or else its old contents, a corrupt record, or the image where no rule bars it (R44, R45, R54, R68, R71, R83). -/
theorem State.leaveFailed_left (hq : s.commitQueue = e :: rest) (g : Program) :
    (∃ x, g.image = .settlement (some x) ∧ x.marker = .owed ∧ s.handedBack = some x.docket ∧
        e.changed = false ∧ (s.leaveFailed g).store =
          s.store.write g.record (.settlement (some { x with marker := .dispensing }))) ∨
      (∀ x, g.image = .settlement (some x) → x.marker = .owed → s.handedBack = some x.docket →
        e.changed = true) ∧
      ((s.leaveFailed g).store = s.store ∨
        ((s.leaveFailed g).store = s.store.write g.record g.image ∧ g.record ≠ .float ∧ g.record ≠ .settings ∧
          ∀ n x, g.record = .settlement n → g.image = .settlement (some x) → x.marker = .owed →
            tableGet s.store.settlements n ≠ some (.valid { x with marker := .dispensing })) ∨
        ∃ idField, (s.leaveFailed g).store = s.store.corrupt g.record idField) := by
  obtain ⟨x, hx, hstore⟩ | ⟨hno, hstore⟩ := State.leaveFailed_store (s := s) g
  · obtain ⟨himage, howed, hback, e', rest', hq', hchanged⟩ := (s.handBackOf_eq_some g x).mp hx
    obtain ⟨rfl, -⟩ := List.cons.inj (hq.symm.trans hq')
    exact .inl ⟨x, himage, howed, hback, hchanged, hstore⟩
  · refine .inr ⟨fun x himage howed hback => ?_, ?_⟩
    · by_contra hne
      have := (s.handBackOf_eq_some g x).mpr ⟨himage, howed, hback, e, rest, hq, by simpa using hne⟩
      rw [hno] at this
      cases this
    · rw [hstore]
      obtain hr | ⟨k, hr⟩ | ⟨hr, hbar⟩ := s.store.failureResidue_cases g (Config.residue s.freeCount)
      · exact .inl (by rw [hr]; rfl)
      · exact .inr (.inr ⟨k, by rw [hr]; rfl⟩)
      · rw [Bool.eq_false_iff, Ne, Store.imageBarred_iff, not_or, not_or] at hbar
        obtain ⟨hfloat, hsettings, hset⟩ := hbar
        exact .inr (.inl ⟨by rw [hr]; rfl, hfloat, hsettings, fun n x hn hx howed hget =>
          hset ⟨n, x, hn, hx, howed, hget⟩⟩)

/-- The queue once the entry of a program that failed twice has ended. -/
theorem State.Fits.entryEnded_queue (hs : s.Fits) (hq : s.commitQueue = e :: rest) (hrec : e.record = g.record) :
    (g.record ≠ .fault → (s.entryEnded g false).hasEntry .fault = true) ∧
    (e.changed = false → (s.entryEnded g false).hasEntry g.record = false) ∧
    (e.changed = true → (s.entryEnded g false).hasEntry g.record = true) ∧
    (∀ x ∈ rest, (s.entryEnded g false).hasEntry x.record = true) ∧
    (∀ n held, g.record.isAccount = true → e.changed = false → s.held = n :: held →
      (s.entryEnded g false).held = held ∧ (s.entryEnded g false).hasEntry (.account n) = true) ∧
    (g.record.isAccount = false ∨ e.changed = true ∨ s.held = [] → (s.entryEnded g false).held = s.held) := by
  obtain ⟨hnodup, -, -, -, hfree, -⟩ := hs.queue
  obtain ⟨hheld, rest', hq', hkept, hnew, hfault⟩ :=
    State.verifyFault_queue (s := ({ s with program := none }).leaveFailed g) (by simpa using hq)
  obtain ⟨moved, hrecords, hchanged, hmoves, hleaves⟩ := State.entryEnds_queue hq'
  rw [hrec] at hheld hq' hrecords hchanged hmoves hleaves hnew hfault
  have hy : ((({ s with program := none }).leaveFailed g).verifyFault g.record).entryEnds =
    s.entryEnded g false := rfl
  have hheld : ((({ s with program := none }).leaveFailed g).verifyFault g.record).held = s.held :=
    hheld.trans (by simp)
  rw [hy] at hrecords hchanged hmoves hleaves
  rw [hheld] at hchanged hmoves hleaves
  have hentry (x : RecordId) :
      (s.entryEnded g false).hasEntry x = true ↔ x ∈ rest'.map (·.record) ∨ x ∈ moved := by
    rw [State.hasEntry_map, hrecords, List.mem_append]
  have hgone : g.record ∉ rest'.map (·.record) := fun hin => by
    rw [hq, List.map_cons, List.nodup_cons, hrec] at hnodup
    obtain hin | ⟨heq, hne⟩ := hnew _ hin
    · exact hnodup.1 hin
    · exact hne heq
  refine ⟨fun hne => (hentry _).mpr (.inl (hfault hne)), fun hc => ?_, fun hc => ?_, fun x hx => ?_,
    fun n held hacc hc hn => ?_, fun hor => ?_⟩
  · rw [← Bool.not_eq_true, hentry]
    rintro (hin | hin)
    · exact hgone hin
    · by_cases hno : g.record.isAccount = false ∨ s.held = []
      · rw [(hleaves hc hno).1] at hin
        cases hin
      · rw [not_or, Bool.not_eq_false] at hno
        obtain ⟨n, held, hn⟩ := List.exists_cons_of_ne_nil hno.2
        rw [(hmoves n held hc hno.1 hn).1, List.mem_singleton] at hin
        obtain ⟨-, hnone⟩ := hfree n (by rw [hn]; exact List.mem_cons_self)
        rw [← hin, ← hrec] at hnone
        have : s.hasEntry e.record = true := by simp [State.hasEntry, hq]
        rw [hnone] at this
        cases this
  · exact (hentry _).mpr (.inr (by simp [(hchanged hc).1]))
  · exact (hentry _).mpr (.inl (hkept _ (List.mem_map_of_mem hx)))
  · obtain ⟨hmoved, hleft⟩ := hmoves n held hc hacc hn
    exact ⟨hleft, (hentry _).mpr (.inr (by simp [hmoved]))⟩
  · by_cases hc : e.changed = true
    · exact (hchanged hc).2
    · exact (hleaves (by simpa using hc) (hor.imp id fun h => h.resolve_left hc)).2

/-- STORE_VERIFY as it stands once the entry has ended (R72, R167). -/
theorem State.entryEnded_fault (hscan : s.mode ≠ .scanning) (g : Program) :
    (s.entryEnded g false).faults =
      s.faults.set .storeVerify ((s.faults.get .storeVerify).occur s.yardTime) ∧
    LockoutFollows s (s.entryEnded g false) ∧ (s.entryEnded g false).Flagged .office .fault := by
  obtain ⟨b, hb⟩ : ∃ b, b = ({ s with program := none }).leaveFailed g := ⟨_, rfl⟩
  have hy : s.entryEnded g false = (b.verifyFault g.record).entryEnds := by rw [hb]; rfl
  have hfaults : b.faults = s.faults := by simp [hb]
  have hlock : b.lockout = s.lockout := by simp [hb]
  have hyard : b.yardTime = s.yardTime := by simp [hb]
  have hfollows := State.verifyFault_follows (s := b) (by simpa [hb] using hscan) g.record
  obtain ⟨-, hflag⟩ := FlagsKept.verifyFault b g.record
  have hkept : FlagsKept (b.verifyFault g.record) (b.verifyFault g.record).entryEnds := .of_ports (by simp)
  have hended := hfollows.kept (u := (b.verifyFault g.record).entryEnds) (by simp) (by simp) (by simp) hkept
  rw [hy]
  refine ⟨?_, ⟨hended.1, fun hne => hended.2 (by rwa [hlock])⟩, hkept _ _ hflag⟩
  have := b.verifyFault_faults g.record
  rw [hfaults, hyard] at this
  simpa using this

/-- What the rest of a second failure keeps of the entry's end: the waiters' outcomes, the account frozen and the
end of the event. -/
theorem State.programFails_kept (s : State) (g : Program) :
    QueueKept (s.entryEnded g false) (State.conclude s (s.programFails g)) ∧
    FlagsKept (s.entryEnded g false) (State.conclude s (s.programFails g)) := by
  obtain ⟨hqueue, hflags⟩ := (s.entryEnded g false).waitersEnd_kept g.record false
  rw [State.programFails_eq]
  exact ⟨(hqueue.trans (.of_same (by simp) (by simp) (by simp))).trans (.conclude s _),
    (hflags.trans (.freeze _ _)).trans (State.conclude_flags s _)⟩

/-- Without a waiting TAKE_ORDER the records, the order queue and the entries stand once the entry has ended. -/
theorem State.programFails_untaken
    (h : ∀ w ∈ s.waiters, w.begun = true → w.record = g.record → w.isTake = false) :
    (State.conclude s (s.programFails g)).settlements = s.settlements ∧
    (State.conclude s (s.programFails g)).orderQueue = s.orderQueue ∧
    ∀ r, (State.conclude s (s.programFails g)).hasEntry r = (s.entryEnded g false).hasEntry r := by
  obtain ⟨hsame, hwaiters⟩ := s.entryEnded_business g false
  obtain ⟨hset, horders, hqueue⟩ := State.waitersEnd_untaken (s := s.entryEnded g false) (ok := false)
    fun w hw => h w (hwaiters ▸ hw)
  rw [State.programFails_eq]
  refine ⟨?_, ?_, fun r => ?_⟩
  · simpa using hset.trans hsame.settlements
  · simpa using horders.trans hsame.orderQueue
  · rw [State.conclude_hasEntry]
    exact State.hasEntry_congr (by simpa using hqueue) r

/-- The accounts after a second failure: an ACTIVE one whose program it was is FROZEN (R71, log entry 26). -/
theorem State.programFails_frozen {n : Nat} {a : Account} (hr : g.record = .account n)
    (ha : tableGet s.accounts n = some a) (hactive : a.status = .active) :
    (State.conclude s (s.programFails g)).accounts = tablePut s.accounts n { a with status := .frozen } ∧
    (State.conclude s (s.programFails g)).Flagged .office .accountFrozen := by
  have haccounts : ((s.entryEnded g false).waitersEnd g.record false).accounts = s.accounts := by
    simp [State.entryEnded]
  have hflags := State.conclude_flags s (s.programFails g)
  rw [State.programFails_eq, hr] at *
  obtain ⟨hput, hflag⟩ := State.freeze_active (haccounts ▸ ha) hactive
  rw [haccounts] at hput
  exact ⟨by simpa using hput, hflags _ _ hflag⟩

theorem State.programFails_accounts
    (h : ∀ n a, g.record = .account n → tableGet s.accounts n = some a → a.status ≠ .active) :
    (State.conclude s (s.programFails g)).accounts = s.accounts := by
  have haccounts : ((s.entryEnded g false).waitersEnd g.record false).accounts = s.accounts := by
    simp [State.entryEnded]
  rw [State.programFails_eq, State.freeze_else (by rwa [haccounts])]
  simpa using haccounts

theorem exec_attemptFails {i : Instr} (hg : s.program = some g)
    (hi : i = .programAttemptEnd false ∨ i = .programAttemptTimeout) :
    exec i s = .next (s.attemptFails g) := by
  rcases hi with rfl | rfl
  · show execProgramAttemptEnd false s = _
    simp [execProgramAttemptEnd, hg]
  · show execProgramAttemptTimeout s = _
    simp [execProgramAttemptTimeout, hg]

end Sys2Proof.Machine

namespace Sys2Proof.Proofs
open Sys2Proof.Machine

/-- Settles O39, the first attempt and the second. -/
theorem failedAttemptsAreRepeated : Obligations.FailedAttemptsAreRepeated := by
  intro s g i hg hi
  refine ⟨fun hfirst => ?first, fun hs hsecond => ?second⟩
  case first =>
    rw [exec_attemptFails hg hi, State.attemptFails, hfirst]
    rfl
  case second =>
    have hexec : exec i s = .next (State.conclude s (s.programFails g)) := by
      rw [exec_attemptFails hg hi, State.attemptFails, hsecond]
    obtain ⟨hactive, e, rest, hq, hrec⟩ := hs.queue.program_head hg
    obtain ⟨hfault, hgone, htail, hrest, hmoved, hheld⟩ := hs.entryEnded_queue hq hrec
    obtain ⟨hfaults, hlock, hflag⟩ := State.entryEnded_fault (State.active_not_scanning hactive) g
    obtain ⟨⟨hstore, hkeptHeld, hentries⟩, hflags⟩ := s.programFails_kept g
    have hleft := State.leaveFailed_left (s := { s with program := none }) hq g
    have hstore : (State.conclude s (s.programFails g)).store =
        (({ s with program := none }).leaveFailed g).store := hstore.trans (by simp [State.entryEnded])
    rw [← hstore] at hleft
    refine ⟨_, e, rest, hexec, hq, hrec, hleft, ?faults, ?lockout, hflags _ _ hflag,
      fun h => hentries _ (hfault h), fun hc htakes => ?gone, fun hc => hentries _ (htail hc),
      fun x hx => hentries _ (hrest x hx), fun n held hacc hc hn => ?moves, fun hor => hkeptHeld.trans (hheld hor),
      fun n a hr ha hactive => State.programFails_frozen hr ha hactive, fun n a hr ha hne => ?stays,
      fun n hr hnone => ?absent, fun hacc => ?other, fun htakes => ?untaken, ?kept⟩
    case faults =>
      have : (State.conclude s (s.programFails g)).faults = (s.entryEnded g false).faults := by
        simp [State.programFails_eq]
      exact this.trans hfaults
    case lockout =>
      exact hlock.kept (by simp [State.programFails_eq]) (by simp [State.programFails_eq])
        (by simp [State.programFails_eq]) hflags
    case gone => rw [(State.programFails_untaken htakes).2.2, hgone hc]
    case moves =>
      obtain ⟨hleft, hentry⟩ := hmoved n held hacc hc hn
      exact ⟨hkeptHeld.trans hleft, hentries _ hentry⟩
    case stays =>
      refine State.programFails_accounts fun m b hm hb => ?_
      obtain rfl : n = m := by simpa [hr] using hm
      rw [ha] at hb
      exact Option.some.inj hb ▸ hne
    case absent =>
      refine State.programFails_accounts fun m b hm hb => ?_
      obtain rfl : n = m := by simpa [hr] using hm
      rw [hnone] at hb
      cases hb
    case other =>
      refine State.programFails_accounts fun m b hm hb => ?_
      rw [hm] at hacc
      cases hacc
    case untaken =>
      obtain ⟨hset, horders, -⟩ := State.programFails_untaken htakes
      exact ⟨hset, horders⟩
    case kept => simp [SameLanes]

end Sys2Proof.Proofs
end

section
/-! SUPPORT. The requests and the writes of the record store, as its statements read them (R63 to R66, R68, R73). -/
namespace Sys2Proof.Machine

/-- An entry that the request merges into stands as it did, but for its marks. -/
theorem State.queueRecord_merges {s : State} {r : RecordId} (h : s.hasEntry r = true) (edit : Bool) :
    (s.queueRecord r edit).commitQueue.map (·.record) = s.commitQueue.map (·.record) ∧
    (s.queueRecord r edit).held = s.held ∧
    ∀ e ∈ (s.queueRecord r edit).commitQueue, e.record = r → s.programming r = true → e.changed = true := by
  have hmerged : s.queueRecord r edit = { s with
      commitQueue := s.commitQueue.map fun e =>
        if e.record = r then { e with edit := e.edit || edit, changed := e.changed || s.programming r }
        else e } := if_pos h
  have hrecords : (s.queueRecord r edit).commitQueue.map (·.record) = s.commitQueue.map (·.record) := by
    rcases s.queueRecord_records r edit with hr | ⟨hnone, -⟩
    · exact hr
    · simp [h] at hnone
  refine ⟨hrecords, by rw [hmerged], fun e he hr hprog => ?_⟩
  rw [hmerged] at he
  obtain ⟨x, -, rfl⟩ := List.mem_map.mp he
  split at hr
  · simp [*]
  · contradiction

end Sys2Proof.Machine

namespace Sys2Proof.Proofs
open Sys2Proof.Machine

/-- Settles O37: the cases of a request, each by the place in which the record stands. -/
theorem commitRequestsMerge : Obligations.CommitRequestsMerge := by
  intro s r edit
  refine ⟨fun h => State.queueRecord_merges h edit, fun h hr => ?_, ?_⟩
  · cases r <;> simp_all [State.queueRecord, RecordId.isAccount]
  · rintro n rfl h
    refine ⟨fun hheld => ?_, fun hheld hfull => ?_, fun hheld hroom => ?_⟩
    · simp [State.queueRecord, h, hheld]
    · simp [State.queueRecord, h, hheld, accountEntryLimit, hfull]
    · simp [State.queueRecord, h, hheld, accountEntryLimit, Nat.not_le.mpr hroom]

end Sys2Proof.Proofs
end

section
/-! SUPPORT. The one record of the store that an event can change: that of the program which ends or is cut off
(R63, R68, R73). -/
namespace Sys2Proof.Machine

/-- The records of the store but one. -/
abbrev Store.SameBut (m m' : Store) (r : RecordId) : Prop :=
  (∀ n, r ≠ .account n → tableGet m'.accounts n = tableGet m.accounts n) ∧
  (∀ n, r ≠ .settlement n → tableGet m'.settlements n = tableGet m.settlements n) ∧
  (r ≠ .float → m'.float = m.float) ∧ (r ≠ .fault → m'.fault = m.fault) ∧
  (r ≠ .settings → m'.settings = m.settings)

theorem tableGet_put_of_ne {α β : Type} (t : Table α) (f : Nat → β) {k j : Nat} (a : α) (h : f k ≠ f j) :
    tableGet (tablePut t k a) j = tableGet t j :=
  tableGet_put_ne t a fun hj => h (hj ▸ rfl)

theorem Store.SameBut.write (m : Store) (r : RecordId) (i : Image) : m.SameBut (m.write r i) r := by
  unfold Store.write
  split
  case h_1 | h_2 =>
    exact ⟨fun _ h => tableGet_put_of_ne _ RecordId.account _ h, fun _ _ => rfl, fun _ => rfl, fun _ => rfl,
      fun _ => rfl⟩
  case h_3 | h_4 =>
    exact ⟨fun _ _ => rfl, fun _ h => tableGet_put_of_ne _ RecordId.settlement _ h, fun _ => rfl, fun _ => rfl,
      fun _ => rfl⟩
  all_goals simp [Store.SameBut]

theorem Store.SameBut.corrupt (m : Store) (r : RecordId) (k : Nat) : m.SameBut (m.corrupt r k) r := by
  cases r with
  | account n =>
    exact ⟨fun _ h => tableGet_put_of_ne _ RecordId.account _ h, fun _ _ => rfl, fun _ => rfl, fun _ => rfl,
      fun _ => rfl⟩
  | settlement n =>
    exact ⟨fun _ _ => rfl, fun _ h => tableGet_put_of_ne _ RecordId.settlement _ h, fun _ => rfl, fun _ => rfl,
      fun _ => rfl⟩
  | float | fault | settings => simp [Store.SameBut, Store.corrupt]

/-- Whatever a residue is, it stands in the program's own record. -/
theorem Store.SameBut.leave (m : Store) (g : Program) (x : Residue) : m.SameBut (m.leave g x) g.record := by
  cases x with
  | old => simp [Store.SameBut, Store.leave]
  | image => exact .write m g.record g.image
  | corrupt k => exact .corrupt m g.record k

theorem Store.SameBut.leaveFailed (s : State) (g : Program) :
    s.store.SameBut (s.leaveFailed g).store g.record := by
  obtain ⟨x, -, he⟩ | ⟨-, he⟩ := s.leaveFailed_store g
  · rw [he]; exact .write ..
  · rw [he]; exact .leave ..

/-- The store is as it was, but for the record of the program in progress. -/
def State.ProgramWrote (s : State) (m : Store) : Prop :=
  m = s.store ∨ ∃ g, s.program = some g ∧ s.store.SameBut m g.record

theorem State.ProgramWrote.cut (s : State) : s.ProgramWrote s.cutProgram.store := by
  unfold State.cutProgram
  split
  · exact .inr ⟨_, ‹_›, .leave ..⟩
  · exact .inl rfl

theorem State.ProgramWrote.completes {s : State} {g : Program} (hg : s.program = some g) :
    s.ProgramWrote (s.programCompletes g).store :=
  .inr ⟨g, hg, by simpa [State.programCompletes] using Store.SameBut.write s.store g.record g.image⟩

theorem State.ProgramWrote.fails {s : State} {g : Program} (hg : s.program = some g) :
    s.ProgramWrote (s.programFails g).store :=
  .inr ⟨g, hg, by
    simpa [State.programFails] using Store.SameBut.leaveFailed ({ s with program := none } : State) g⟩

/-- Bookings, closings and the beginning of a program leave the store. -/
theorem storeLaw (Q : Store → Prop) : DocketLaw fun u => Q u.store where
  same h hQ := by
    obtain ⟨-, -, -, -, hstore, -⟩ := h
    exact hstore ▸ hQ
  begins s h := by simpa using h
  book s n o h := by simpa using h
  waitOver s n h := by simpa using h

/-- The rows that end a program or cut one off. -/
abbrev Instr.EndsProgram (i : Instr) : Prop :=
  i = .programAttemptEnd true ∨ i = .programAttemptEnd false ∨ i = .programAttemptTimeout ∨
  i = .powerOnReset ∨ i = .resetNAsserted ∨ i = .resetNReleased ∨ i = .powerLoss

/-- Those rows write no record but that of the program. -/
theorem exec_programWrote {s : State} {i : Instr} (hi : Instr.EndsProgram i) :
    EndsIn (fun t => s.ProgramWrote t.store) i s := by
  have K := storeLaw s.ProgramWrote
  have hstart : s.ProgramWrote s.store := .inl rfl
  have hcut := State.ProgramWrote.cut s
  rcases hi with rfl | rfl | rfl | rfl | rfl | rfl | rfl
  case inl | inr.inl =>
    exact K.programAttemptEnd hstart _ (fun _ => State.ProgramWrote.completes) fun _ => State.ProgramWrote.fails
  · exact K.programAttemptTimeout hstart fun _ => State.ProgramWrote.fails
  · exact K.powerOnReset hcut (by rw [State.scan_store]; exact hcut)
  · exact K.resetNAsserted hstart hcut
  · refine K.resetNReleased hstart ?_
    rw [State.scan_store]
    exact State.ProgramWrote.cut { s with resetLow := false }
  · exact K.powerLoss hstart hcut

/-- The end of a hand-over leaves the store as it was (R45). -/
theorem State.endHandOver_store (s : State) : s.endHandOver.store = s.store := by
  unfold State.endHandOver
  dsimp only
  split
  · split <;> simp
  · simp

/-- Every other row leaves the store as it was. -/
theorem exec_sameStore {s : State} {i : Instr} (hi : ¬ Instr.EndsProgram i) :
    EndsIn (fun t => t.store = s.store) i s := by
  have K := storeLaw (· = s.store)
  cases hbooks : i.movesBooks
  case false => exact K.exec_keeps hbooks rfl
  cases i <;> simp only [Instr.movesBooks, Bool.false_eq_true] at hbooks
  case powerOnReset | resetNAsserted | resetNReleased | powerLoss | programAttemptTimeout =>
    simp [Instr.EndsProgram] at hi
  case programAttemptEnd equal => cases equal <;> simp [Instr.EndsProgram] at hi
  case softReset => exact K.softReset rfl s.endHandOver_store
  case softResetDrainEnd => exact K.softResetDrainEnd rfl (by simp [State.scan_store])
  case resultHoldExpiry => exact K.resultHoldExpiry rfl fun _ _ => by simp
  case openDocket => exact K.openDocket rfl fun _ _ _ _ => rfl
  case adjust => exact K.adjust rfl fun _ _ _ _ _ _ _ _ _ => rfl
  case closeDocket => exact K.closeDocket rfl fun _ _ _ => by simp
  case voidDocket => exact K.voidDocket rfl fun _ _ _ _ => by simp
  case releaseDocket => exact K.releaseDocket rfl fun _ _ _ _ => rfl
  case closeGraceExpiry => exact K.closeGraceExpiry rfl _ fun _ _ _ => by simp
  case takeOrder => exact K.takeOrder rfl fun _ _ _ => by simp
  case dispenseLimitExpiry => exact K.dispenseLimitExpiry rfl fun _ _ => by simp
  case confirmPayout => exact K.confirmPayout rfl fun _ _ _ => by simp
  case resolveSuspense | resolveSuspenseNotPaid =>
    exact ⟨_, rfl, K.resolveFrame rfl (fun _ _ _ => by simp) fun _ _ => by simp⟩

end Sys2Proof.Machine

namespace Sys2Proof.Proofs
open Sys2Proof.Machine

/-- Settles O15: a row that changes the store is one that ends or cuts off a program, and writes the record of
that program. -/
theorem onlyProgramsChangeTheStore : Obligations.OnlyProgramsChangeTheStore := by
  intro i s t hexec hchange
  by_cases hi : Instr.EndsProgram i
  · refine ⟨hi, ?_⟩
    exact ((exec_programWrote hi).of_next hexec).resolve_left hchange
  · exact absurd ((exec_sameStore hi).of_next hexec) hchange

end Sys2Proof.Proofs
end

section
/-! SUPPORT. The commit queue and the held-account list as lists of records, and the rules they keep through a
request, through the end of an entry and at the start (R64 to R66, R69). -/
namespace Sys2Proof.Machine

/-- The account records of a queue (R65). -/
abbrev accountsIn (q : List RecordId) : Nat := (q.filter RecordId.isAccount).length

theorem accountsIn_append (q : List RecordId) (r : RecordId) :
    accountsIn (q ++ [r]) = accountsIn q + if r.isAccount then 1 else 0 := by
  cases h : r.isAccount <;> simp [accountsIn, h]

theorem accountsIn_cons (q : List RecordId) (r : RecordId) :
    accountsIn (r :: q) = accountsIn q + if r.isAccount then 1 else 0 := by
  cases h : r.isAccount <;> simp [accountsIn, h]

/-- The rules of R64 to R66 for the records of the commit queue and the held accounts. -/
structure QueueForm (q : List RecordId) (held : List Nat) : Prop where
  nodup : q.Nodup
  legal : ∀ r ∈ q, r.legal = true
  accounts : accountsIn q ≤ accountEntryLimit
  heldNodup : held.Nodup
  apart : ∀ n ∈ held, n < 256 ∧ RecordId.account n ∉ q
  full : held ≠ [] → accountsIn q = accountEntryLimit

namespace QueueForm

variable {q : List RecordId} {held : List Nat} {r : RecordId} {n : Nat}

theorem empty : QueueForm [] [] := ⟨List.nodup_nil, nofun, Nat.zero_le _, List.nodup_nil, nofun, nofun⟩

/-- A record that joins the tail, where it stands nowhere yet and the queue admits it. -/
theorem joins (h : QueueForm q held) (hnew : r ∉ q) (hr : r.legal = true)
    (hroom : ∀ n, r = .account n → n ∉ held ∧ accountsIn q < accountEntryLimit) :
    QueueForm (q ++ [r]) held where
  nodup := List.nodup_append.mpr ⟨h.nodup, List.nodup_singleton r, fun a ha b hb => by
    rw [List.mem_singleton.mp hb]
    exact ne_of_mem_of_not_mem ha hnew⟩
  legal x hx := (List.mem_append.mp hx).elim (h.legal x) fun hx => List.mem_singleton.mp hx ▸ hr
  accounts := by
    rw [accountsIn_append]
    cases r with
    | account n => exact (hroom n rfl).2
    | settlement n | float | fault | settings => exact h.accounts
  heldNodup := h.heldNodup
  apart n hn := by
    obtain ⟨hlt, hnot⟩ := h.apart n hn
    refine ⟨hlt, fun hmem => ?_⟩
    rcases List.mem_append.mp hmem with hmem | hmem
    · exact hnot hmem
    · exact (hroom n (List.mem_singleton.mp hmem).symm).1 hn
  full hne := by
    rw [accountsIn_append]
    cases r with
    | account n => exact absurd (h.full hne) (Nat.ne_of_lt (hroom n rfl).2)
    | settlement n | float | fault | settings => exact h.full hne

/-- An account that is held, behind a full queue (R66). -/
theorem holds (h : QueueForm q held) (hnew : .account n ∉ q) (hn : n < 256) (hheld : n ∉ held)
    (hfull : accountEntryLimit ≤ accountsIn q) : QueueForm q (held ++ [n]) where
  nodup := h.nodup
  legal := h.legal
  accounts := h.accounts
  heldNodup := List.nodup_append.mpr ⟨h.heldNodup, List.nodup_singleton n, fun a ha b hb => by
    rw [List.mem_singleton.mp hb]
    exact ne_of_mem_of_not_mem ha hheld⟩
  apart m hm := (List.mem_append.mp hm).elim (h.apart m) fun hm => List.mem_singleton.mp hm ▸ ⟨hn, hnew⟩
  full _ := Nat.le_antisymm h.accounts hfull

/-- The head moves to the tail (R69). -/
theorem rotates (h : QueueForm (r :: q) held) : QueueForm (q ++ [r]) held := by
  have hperm : (q ++ [r]).Perm (r :: q) := List.perm_append_singleton r q
  have hcount : accountsIn (q ++ [r]) = accountsIn (r :: q) := (hperm.filter _).length_eq
  exact ⟨hperm.nodup_iff.mpr h.nodup, fun x hx => h.legal x (hperm.mem_iff.mp hx), hcount ▸ h.accounts,
    h.heldNodup, fun n hn => ⟨(h.apart n hn).1, fun hm => (h.apart n hn).2 (hperm.mem_iff.mp hm)⟩,
    fun hne => hcount ▸ h.full hne⟩

/-- The head leaves, with no held account to take its place. -/
theorem leaves (h : QueueForm (r :: q) held) (hnone : r.isAccount = false ∨ held = []) :
    QueueForm q held where
  nodup := h.nodup.of_cons
  legal x hx := h.legal x (List.mem_cons_of_mem r hx)
  accounts := (((List.sublist_cons_self r q).filter _).length_le).trans h.accounts
  heldNodup := h.heldNodup
  apart n hn := ⟨(h.apart n hn).1, fun hm => (h.apart n hn).2 (List.mem_cons_of_mem r hm)⟩
  full hne := by
    have := h.full hne
    rwa [accountsIn_cons, hnone.resolve_right hne] at this

/-- An account leaves the head, and the oldest held account moves in (R66). -/
theorem movesIn (h : QueueForm (r :: q) (n :: held)) (hr : r.isAccount = true) :
    QueueForm (q ++ [.account n]) held := by
  have hfull : accountsIn q + 1 = accountEntryLimit := by
    have := h.full (List.cons_ne_nil n held)
    rwa [accountsIn_cons, hr] at this
  have hcount : accountsIn (q ++ [.account n]) = accountEntryLimit := by
    rw [accountsIn_append, ← hfull]
    rfl
  obtain ⟨hn, hnew⟩ := h.apart n List.mem_cons_self
  have hnew : RecordId.account n ∉ q := fun hm => hnew (List.mem_cons_of_mem r hm)
  refine ⟨?_, fun x hx => ?_, hcount.le, h.heldNodup.of_cons, fun m hm => ?_, fun _ => hcount⟩
  · exact List.nodup_append.mpr ⟨h.nodup.of_cons, List.nodup_singleton _, fun a ha b hb => by
      rw [List.mem_singleton.mp hb]
      exact ne_of_mem_of_not_mem ha hnew⟩
  · rcases List.mem_append.mp hx with hx | hx
    · exact h.legal x (List.mem_cons_of_mem r hx)
    · rw [List.mem_singleton.mp hx]
      simpa [RecordId.legal] using hn
  · obtain ⟨hlt, hnot⟩ := h.apart m (List.mem_cons_of_mem n hm)
    refine ⟨hlt, fun hmem => ?_⟩
    rcases List.mem_append.mp hmem with hmem | hmem
    · exact hnot (List.mem_cons_of_mem r hmem)
    · obtain rfl : m = n := by simpa using hmem
      exact (List.nodup_cons.mp h.heldNodup).1 hm

/-! ### How long they can be (R65, R66) -/

/-- The records of Table 4-1 that are no accounts. -/
abbrev otherRecords : List RecordId := (List.range 16).map .settlement ++ [.float, .fault, .settings]

theorem length_others (h : QueueForm q held) : (q.filter fun r => !r.isAccount).length ≤ 19 := by
  have hsub : q.filter (fun r => !r.isAccount) ⊆ otherRecords := by
    intro r hr
    obtain ⟨hr, hother⟩ := List.mem_filter.mp hr
    have hlegal := h.legal r hr
    cases r with
    | account n => cases hother
    | settlement n => simpa [RecordId.legal] using hlegal
    | float | fault | settings => simp
  exact (List.subperm_of_subset (h.nodup.filter _) hsub).length_le

theorem length_le (h : QueueForm q held) : q.length ≤ 40 := by
  have hsplit := List.length_eq_length_filter_add (l := q) RecordId.isAccount
  have haccounts : (q.filter RecordId.isAccount).length ≤ 21 := h.accounts
  have hothers := h.length_others
  omega

theorem length_held (h : QueueForm q held) : held.length ≤ 256 := by
  have hsub : held ⊆ List.range 256 := fun n hn => List.mem_range.mpr (h.apart n hn).1
  simpa using (List.subperm_of_subset h.heldNodup hsub).length_le

end QueueForm

/-! ### The queue of a state -/

/-- The records of the commit queue. -/
abbrev State.records (s : State) : List RecordId := s.commitQueue.map (·.record)

theorem State.accountEntries_records (s : State) : s.accountEntries = accountsIn s.records := by
  simp [State.accountEntries, accountsIn, List.filter_map, Function.comp_def]

theorem State.hasEntry_false (s : State) (r : RecordId) : s.hasEntry r = false ↔ r ∉ s.records := by
  rw [← State.hasEntry_map, Bool.not_eq_true]

/-- The program in progress is that of the head, in service or draining. -/
abbrev State.ProgramOfHead (s : State) : Prop :=
  ∀ r ∈ s.program.map (·.record), s.active = true ∧ s.records.head? = some r

/-- In service and draining a program is in progress while an entry stands in the queue. -/
abbrev State.AtWork (s : State) : Prop := s.active = true → s.commitQueue ≠ [] → s.program.isSome = true

theorem State.queueFits_iff (s : State) :
    s.QueueFits ↔ QueueForm s.records s.held ∧ s.ProgramOfHead ∧ s.AtWork := by
  have hprog : (s.program.isSome = true → s.active = true ∧
      s.program.map (·.record) = s.commitQueue.head?.map (·.record)) ↔ s.ProgramOfHead := by
    cases hg : s.program <;>
      simp [State.ProgramOfHead, hg, List.head?_map, eq_comm (b := Option.map _ _)]
  constructor
  · rintro ⟨hnodup, hlegal, haccounts, hheld, hapart, hfull, hhead, hwork⟩
    refine ⟨⟨hnodup, List.forall_mem_map.mpr hlegal, s.accountEntries_records ▸ haccounts, hheld, fun n hn => ?_,
      fun hne => s.accountEntries_records ▸ hfull hne⟩, hprog.mp hhead, hwork⟩
    exact ⟨(hapart n hn).1, (s.hasEntry_false _).mp (hapart n hn).2⟩
  · rintro ⟨h, hhead, hwork⟩
    exact ⟨h.nodup, List.forall_mem_map.mp h.legal, s.accountEntries_records ▸ h.accounts, h.heldNodup,
      fun n hn => ⟨(h.apart n hn).1, (s.hasEntry_false _).mpr (h.apart n hn).2⟩,
      fun hne => s.accountEntries_records ▸ h.full hne, hprog.mpr hhead, hwork⟩

end Sys2Proof.Machine
end

section
/-! SUPPORT. The files of the part: the store, the account and settlement working copies, and the queue, in
their one form; and the operations that keep them (R62 to R69, R74 to R77). -/
namespace Sys2Proof.Machine

variable {s t : State}

/-- A table in its one form whose entries bear distinct names keeps both through an entry put where no other
bears its name. -/
theorem Table.Rising.put_names {α β : Type} {t : Table α} {name : α → β} (h : Table.Rising t)
    (hnames : (t.map fun e => name e.2).Nodup) {k : Nat} {a : α} (ha : ∀ e ∈ t, name e.2 = name a → e.1 = k) :
    ((tablePut t k a).map fun e => name e.2).Nodup := by
  induction t with
  | nil => simp [tablePut]
  | cons x t ih =>
    obtain ⟨j, b⟩ := x
    have hrise := List.pairwise_cons.mp h
    have hnew := List.nodup_cons.mp hnames
    have hrest : ∀ e ∈ t, name e.2 = name a → e.1 = k := fun e he => ha e (List.mem_cons_of_mem _ he)
    have hlt : ∀ e ∈ t, j < e.1 := fun e he => hrise.1 e.1 (List.mem_map_of_mem he)
    simp only [tablePut]
    split
    · rename_i hk
      refine List.nodup_cons.mpr ⟨fun hm => ?_, hnames⟩
      obtain ⟨e, he, hne⟩ := List.mem_map.mp hm
      have hek := ha e he hne
      rcases List.mem_cons.mp he with rfl | he
      · exact absurd hek (Nat.ne_of_gt hk)
      · have := hlt e he
        omega
    · split
      · rename_i hk
        refine List.nodup_cons.mpr ⟨fun hm => ?_, hnew.2⟩
        obtain ⟨e, he, hne⟩ := List.mem_map.mp hm
        have := hlt e he
        have := hrest e he hne
        omega
      · rename_i hk
        refine List.nodup_cons.mpr ⟨fun hm => ?_, ih hrise.2 hnew.2 hrest⟩
        obtain ⟨e, he, hne⟩ := List.mem_map.mp hm
        rcases mem_tablePut he with rfl | he
        · exact hk (ha (j, b) List.mem_cons_self hne.symm).symm
        · exact hnew.1 (List.mem_map.mpr ⟨e, he, hne⟩)

/-- The store, the working copies of accounts and settlement records, and the queue, in their one form; the
docket numbers of the settlement records are the ledger's. -/
structure State.Filed (s : State) : Prop where
  store : s.store.Fits
  accounts : Table.Rising s.accounts ∧ Table.Below s.accounts 256 ∧ (s.accounts.map (·.2.haulier)).Nodup
  settlements : Table.Rising s.settlements ∧ Table.Below s.settlements 16
  queue : QueueForm s.records s.held
  program : s.ProgramOfHead

theorem State.Fits.filed (hs : s.Fits) : s.Filed := by
  obtain ⟨hstore, harise, habelow, hnames, hrise, hbelow, -⟩ := hs.tables
  obtain ⟨hform, hprog, -⟩ := s.queueFits_iff.mp hs.queue
  exact ⟨hstore, ⟨harise, habelow, hnames⟩, ⟨hrise, hbelow⟩, hform, hprog⟩

/-- What the files are told by. -/
abbrev SameFiles (s t : State) : Prop :=
  t.mode = s.mode ∧ t.store = s.store ∧ t.accounts = s.accounts ∧ t.settlements = s.settlements ∧
  t.commitQueue = s.commitQueue ∧ t.held = s.held ∧
  t.program.map (·.record) = s.program.map (·.record)

namespace State.Filed

variable (h : s.Filed)
include h

theorem same (hsame : SameFiles s t) : t.Filed := by
  obtain ⟨hmode, hstore, haccounts, hsettlements, hqueue, hheld, hprogram⟩ := hsame
  refine ⟨hstore ▸ h.store, haccounts ▸ h.accounts, hsettlements ▸ h.settlements, ?_, ?_⟩
  · rw [State.records, hqueue, hheld]
    exact h.queue
  · rw [State.ProgramOfHead, State.records, State.active, hprogram, hqueue, hmode]
    exact h.program

/-! ### The queue -/

theorem queueRecord {r : RecordId} (hr : r.legal = true) (edit : Bool := false) :
    (s.queueRecord r edit).Filed := by
  have hkept {q : List Entry} {l : List Nat} (hform : QueueForm (q.map (·.record)) l)
      (hhead : ∀ x, s.records.head? = some x → (q.map (·.record)).head? = some x) :
      ({ s with commitQueue := q, held := l } : State).Filed :=
    ⟨h.store, h.accounts, h.settlements, hform, fun x hx => ⟨(h.program x hx).1, hhead x (h.program x hx).2⟩⟩
  rcases s.queueRecord_cases r edit with ⟨-, he⟩ | ⟨-, -, he⟩ | ⟨hnew, n, rfl, hheld, hfull, he⟩ |
    ⟨hnew, hroom, he⟩
  · have hrecords : (s.commitQueue.map fun e => if e.record = r then
        { e with edit := e.edit || edit, changed := e.changed || s.programming r } else e).map (·.record) =
        s.records := by
      rw [List.map_map]
      exact List.map_congr_left fun e _ => by simp only [Function.comp_apply]; split <;> rfl
    rw [he]
    exact hkept (hrecords ▸ h.queue) fun x hx => hrecords ▸ hx
  · rw [he]
    exact h
  · rw [he]
    refine hkept (h.queue.holds ((s.hasEntry_false _).mp hnew) ?_ hheld ?_) fun x hx => hx
    · simpa [RecordId.legal] using hr
    · rwa [← State.accountEntries_records]
  · have hjoins := h.queue.joins ((s.hasEntry_false _).mp hnew) hr fun n hn =>
      ⟨(hroom n hn).1, by rw [← State.accountEntries_records]; exact (hroom n hn).2⟩
    rw [he]
    refine hkept (by simpa using hjoins) fun x hx => ?_
    rw [List.map_append, List.head?_append, hx]
    rfl

theorem recordFault (k : FaultKind) : (s.recordFault k).Filed := by
  have hnoted : (s.noteFault k).Filed := h.same (by simp [SameFiles])
  exact hnoted.queueRecord rfl

/-- The program of the head begins (R64). -/
theorem beginProgram : s.beginProgram.Filed := by
  unfold State.beginProgram
  split
  · rename_i e rest hnone hq
    split
    · rename_i hactive
      have hform := h.queue
      rw [State.records, hq] at hform
      exact ⟨h.store, h.accounts, h.settlements, hform, fun r hr => ⟨hactive, by simpa using hr⟩⟩
    · exact h
  · exact h

/-- The head entry leaves or moves to the tail, once its program has ended (R66, R69). -/
theorem entryEnds (hnone : s.program = none) : s.entryEnds.Filed := by
  have hkept {q : List Entry} {l : List Nat} (hform : QueueForm (q.map (·.record)) l) :
      ({ s with commitQueue := q, held := l } : State).Filed :=
    ⟨h.store, h.accounts, h.settlements, hform, by simp [State.ProgramOfHead, hnone]⟩
  have hform := h.queue
  rw [State.records] at hform
  cases hq : s.commitQueue with
  | nil => rwa [State.entryEnds, hq]
  | cons e rest =>
    rw [hq] at hform
    cases hc : e.changed with
    | true =>
      rw [s.entryEnds_changed hq hc]
      exact hkept (by simpa using hform.rotates)
    | false =>
      obtain ⟨hmoves, hleaves⟩ := s.entryEnds_leaves hq hc
      cases ha : e.record.isAccount with
      | false =>
        rw [hleaves (.inl ha)]
        exact hkept (hform.leaves (.inl ha))
      | true =>
        cases hh : s.held with
        | nil =>
          rw [hleaves (.inr hh)]
          exact hkept (hform.leaves (.inr hh))
        | cons n held =>
          rw [hh] at hform
          rw [hmoves n held ha hh]
          exact hkept (by simpa using hform.movesIn ha)

theorem noProgram : ({ s with program := none } : State).Filed :=
  ⟨h.store, h.accounts, h.settlements, h.queue, nofun⟩

theorem program_legal {g : Program} (hg : s.program = some g) : g.record.legal = true :=
  h.queue.legal _ (List.mem_of_mem_head? (h.program g.record (by simp [hg])).2)

/-! ### The tables -/

theorem withStore {m : Store} (hm : m.Fits) : ({ s with store := m } : State).Filed :=
  ⟨hm, h.accounts, h.settlements, h.queue, h.program⟩

theorem putAccount {n : Nat} {a : Account} (hn : n < 256)
    (ha : ∀ e ∈ s.accounts, e.2.haulier = a.haulier → e.1 = n) :
    ({ s with accounts := tablePut s.accounts n a } : State).Filed := by
  obtain ⟨hrise, hbelow, hnames⟩ := h.accounts
  exact ⟨h.store, ⟨hrise.put n a, hbelow.put hn a, hrise.put_names (name := Account.haulier) hnames ha⟩,
    h.settlements, h.queue, h.program⟩

theorem delAccount (n : Nat) : ({ s with accounts := tableDel s.accounts n } : State).Filed := by
  obtain ⟨hrise, hbelow, hnames⟩ := h.accounts
  exact ⟨h.store, ⟨hrise.del n, hbelow.del n, hnames.sublist (List.filter_sublist.map _)⟩, h.settlements, h.queue,
    h.program⟩

theorem putSettlement {n : Nat} (hn : n < 16) (x : SettleRecord) :
    ({ s with settlements := tablePut s.settlements n x } : State).Filed :=
  ⟨h.store, h.accounts, ⟨h.settlements.1.put n x, h.settlements.2.put hn x⟩, h.queue, h.program⟩

theorem delSettlement (n : Nat) : ({ s with settlements := tableDel s.settlements n } : State).Filed :=
  ⟨h.store, h.accounts, ⟨h.settlements.1.del n, h.settlements.2.del n⟩, h.queue, h.program⟩

theorem setMarker (num : Nat) (m : Marker) : (s.setMarker num m).Filed := by
  have hkeys : (s.setMarker num m).settlements.map (·.1) = s.settlements.map (·.1) := by
    rw [State.setMarker_settlements, List.map_map]
    exact List.map_congr_left fun e _ => by simp only [Function.comp_apply]; split <;> rfl
  obtain ⟨hrise, hbelow⟩ := h.settlements
  refine ⟨h.store, h.accounts, ⟨by rw [Table.Rising, hkeys]; exact hrise, fun e he => ?_⟩, h.queue, h.program⟩
  have hmem := List.mem_map_of_mem (f := Prod.fst) he
  rw [hkeys] at hmem
  obtain ⟨x, hx, hxe⟩ := List.mem_map.mp hmem
  exact hxe ▸ hbelow x hx

/-- The account found for a haulier is the only one of its name, in a record of Table 4-1. -/
theorem account {id n : Nat} {a : Account} (ha : s.account? id = some (n, a)) :
    n < 256 ∧ a.haulier = id ∧ (n, a) ∈ s.accounts ∧ ∀ e ∈ s.accounts, e.2.haulier = id → e.1 = n := by
  obtain ⟨-, hbelow, hnames⟩ := h.accounts
  have hmem : (n, a) ∈ s.accounts := List.mem_of_find?_eq_some ha
  have hname : a.haulier = id := by simpa using List.find?_some ha
  refine ⟨hbelow _ hmem, hname, hmem, fun e he hid => ?_⟩
  exact congrArg Prod.fst (List.inj_on_of_nodup_map hnames he hmem (hid.trans hname.symm))

theorem account_legal {id n : Nat} {a : Account} (ha : s.account? id = some (n, a)) :
    (RecordId.account n).legal = true := by
  simpa [RecordId.legal] using (h.account ha).1

theorem settlement_legal {num r : Nat} (hr : s.settlementOf num = some r) :
    (RecordId.settlement r).legal = true := by
  obtain ⟨x, hx, -⟩ := State.settlementOf_spec hr
  simpa [RecordId.legal] using h.settlements.2 _ hx

end State.Filed

end Sys2Proof.Machine
end

section
/-! SUPPORT. The files through the orders, the closings and the lanes' own work (R7, R32 to R35, R41 to R50,
R107, R155). -/
namespace Sys2Proof.Machine.State.Filed

variable {s : State} (h : s.Filed)
include h

/-! ### The orders (R41 to R50) -/

theorem queueSettlement (num : Nat) : (s.queueSettlement num).Filed := by
  unfold State.queueSettlement
  split
  · exact h.queueRecord (h.settlement_legal ‹_›)
  · exact h

theorem markOwed (num : Nat) : (s.markOwed num).Filed := (h.setMarker num .owed).queueSettlement num

theorem returnOrder (num : Nat) : (s.returnOrder num).Filed := by
  have hmoved : ({ s.setOrderState num .ready with
      orderQueue := num :: (s.setOrderState num .ready).orderQueue.filter (· ≠ num) } : State).Filed :=
    h.same (by simp [SameFiles])
  exact hmoved.markOwed num

theorem offer (p : Port) (num : Nat) : (s.offer p num).Filed := by
  have hoffered : (s.setOrderState num .offered).Filed := h.same (by simp [SameFiles])
  have hqueued := (hoffered.setMarker num .dispensing).queueSettlement num
  unfold State.offer
  dsimp only
  split <;> exact hqueued.same (by simp [SameFiles])

theorem suspend (num : Nat) : (s.suspend num).Filed := by
  have hmoved : ({ (s.setOrderState num .suspense).dequeueOrder num with dispenseTimer := none } : State).Filed :=
    h.same (by simp [SameFiles])
  exact (hmoved.recordFault .payoutSuspense).same (by simp [SameFiles, State.suspend])

theorem lowerFloat (amount : Nat) : (s.lowerFloat amount).Filed := by
  have hemptied : ({ s with float := 0 } : State).Filed := h.same (by simp [SameFiles])
  unfold State.lowerFloat
  dsimp only
  split
  · exact (hemptied.recordFault .floatShortfall).same (by simp [SameFiles])
  · exact h.same (by simp [SameFiles])

theorem freeSettlement (num : Nat) : (s.freeSettlement num).Filed := by
  unfold State.freeSettlement
  dsimp only
  split
  · exact ((h.delSettlement _).queueRecord (h.settlement_legal ‹_›)).queueRecord rfl
  · exact h.queueRecord rfl

theorem pay (num amount : Nat) : (s.pay num amount).Filed := by
  have hbooked {u : State} (hu : u.Filed) : (((((u.lowerFloat amount).updateDocket num fun d =>
      { d with state := .paid, order := d.order.map (·.confirmed (s.payoutOf num) amount) }).dequeueOrder
        num).joinFinished num).freeSettlement num).Filed :=
    ((hu.lowerFloat amount).same (by simp [SameFiles])).freeSettlement num
  have htimer : (if s.orderState? num = some .dispensing then { s with dispenseTimer := none } else s).Filed := by
    split <;> exact h.same (by simp [SameFiles])
  unfold State.pay
  dsimp only
  refine hbooked ?_
  split
  · exact htimer.recordFault .payoutMismatch
  · exact htimer

theorem waitFreed (p : Port) (r : Option Nat) (k : WaitKind) : (s.waitFreed p r k).Filed :=
  h.same (by simp [SameFiles])

/-! ### The closings (R32 to R35) -/

theorem settleAccount (id items : Nat) (f : Figures) : (s.settleAccount id items f).Filed := by
  unfold State.settleAccount
  split
  · exact h
  · split
    · rename_i n a ha
      obtain ⟨hn, hid, -, hone⟩ := h.account ha
      exact h.putAccount hn fun e he hname => hone e he (hname.trans hid)
    · exact h

theorem queueAccountOf (id : Nat) : (s.queueAccountOf id).Filed := by
  unfold State.queueAccountOf
  split
  · exact h
  · split
    · exact h.queueRecord (h.account_legal ‹_›)
    · exact h

theorem handOff (d : Docket) (f : Figures) : (s.handOff d f).Filed := by
  have hmoved : (s.updateDocket d.number fun d =>
      { d with state := .awaitingPayout, order := some { state := .pendingCommit } }).Filed :=
    h.same (by simp [SameFiles])
  have hended {u : State} (hu : u.Filed) (r : Option Nat) :
      ({ (u.queueAccountOf d.haulier).waitOrder d.number r d.haulier with
        orderQueue := ((u.queueAccountOf d.haulier).waitOrder d.number r d.haulier).orderQueue ++
          [d.number] } : State).Filed :=
    (hu.queueAccountOf d.haulier).same (by simp [SameFiles])
  unfold State.handOff
  dsimp only
  refine hended ?_ _
  split
  · rename_i r hr
    have hlt : r < 16 := (lowestFree_spec hr).1
    exact (hmoved.putSettlement hlt _).queueRecord (by simpa [RecordId.legal] using hlt)
  · exact hmoved

theorem handOffNil (d : Docket) : (s.handOffNil d).Filed := by
  have hjoined : ((s.updateDocket d.number fun d => { d with state := .nilPayout }).joinFinished d.number).Filed :=
    h.same (by simp [SameFiles])
  exact hjoined.queueAccountOf d.haulier

theorem settleDocket (num : Nat) : (s.settleDocket num).Filed := by
  cases hd : s.docket? num with
  | none => simpa [State.settleDocket, hd] using h
  | some d =>
    have hsettling : (s.settling num d (s.figuresFor d)).Filed := by
      have hsettled := State.Filed.settleAccount (s := s.updateDocket num fun x =>
        { x with rates := some s.settings.rates, figures := some (s.figuresFor d) })
        (h.same (by simp [SameFiles])) d.haulier (d.tallies.getD {}).net.sum (s.figuresFor d)
      unfold State.settling
      dsimp only
      split
      · exact hsettled.same (by simp [SameFiles])
      · exact hsettled
    rw [State.settleDocket_eq hd]
    split
    · exact hsettling.handOff d _
    · exact hsettling.handOffNil d

theorem completeClosing (n : Lane) (num : Nat) (why : CloseReason) : (s.completeClosing n num why).Filed := by
  have hfreed : ((s.updateDocket num fun d => { d with closeReason := some why }).freeLane n).Filed :=
    h.same (by simp [SameFiles])
  exact (hfreed.settleDocket num).same (by simp [SameFiles, State.completeClosing])

theorem book (n : Lane) (o : PassOutcome) : (s.book n o).Filed := h.same (by simp [SameFiles])

theorem waitOver (n : Lane) : (s.waitOver n).Filed := by
  unfold State.waitOver
  split
  · split
    · exact h.completeClosing n _ .normal
    · exact h
  · exact h

theorem close (n : Lane) (num : Nat) : (s.close n num).Filed := by
  have hclosing : (s.updateDocket num (Docket.closingAt s.yardTime)).Filed := h.same (by simp [SameFiles])
  unfold State.close
  dsimp only
  split
  · exact hclosing.same (by simp [SameFiles])
  · exact hclosing.completeClosing n num .normal

/-! ### The lanes' own work (R107, R155) -/

theorem resolve (n : Lane) (c : Cause) (q : Pass) : (s.resolve n c q).Filed := by
  have hbooked := h.book n (s.outcomeRecord n c q).outcome
  exact State.Filed.waitOver (hbooked.same (by simp [SameFiles])) n

theorem endPass (n : Lane) (c : Cause) : (s.endPass n c).Filed := by
  unfold State.endPass
  split
  · exact h.resolve n c _
  · exact h.waitOver n
  all_goals exact h

theorem leaveTo (n : Lane) (c : Cause) (f : Detector → Detector) : (s.leaveTo n c f).Filed :=
  (h.endPass n c).same (by simp [SameFiles, State.leaveTo])

theorem laneOff (n : Lane) : (s.laneOff n).Filed :=
  (h.leaveTo n .disable Detector.off).same (by simp [SameFiles, State.laneOff])

theorem hear (n : Lane) (e : SampleEvent) : (s.hear n e).Filed := by
  cases e with
  | nothing => exact h
  | resolved c q => exact h.resolve n c q
  | discarded => exact h.waitOver n

theorem countingSample (n : Lane) (raw : PerChan Nat) : (s.countingSample n raw).Filed := by
  have hheard (e : SampleEvent) {u : State} (hu : SameFiles s u) : ((u.hear n e).checkDrift n).Filed :=
    ((h.same hu).hear n e).same (by simp [SameFiles])
  unfold State.countingSample
  dsimp only
  split <;> exact hheard _ (by simp [SameFiles])

theorem freshSample (n : Lane) (raw : PerChan Nat) : (s.freshSample n raw).Filed := by
  unfold State.freshSample
  dsimp only
  split
  case h_3 | h_4 | h_5 | h_6 => exact State.Filed.countingSample (h.same (by simp [SameFiles])) n raw
  all_goals exact h.same (by simp [SameFiles])

theorem missDelivered (n : Lane) : (s.missDelivered n).Filed := by
  unfold State.missDelivered
  dsimp only
  split
  case h_1 | h_2 | h_3 | h_4 =>
    split
    · exact h.countingSample n _
    · exact h.leaveTo n _ _
  case h_6 => split <;> exact h.same (by simp [SameFiles])
  all_goals exact h.same (by simp [SameFiles])

theorem sampleAnswer (x : Turn) (st : AnswerStatus) (seq : Nat) (counts : PerChan Nat) :
    (s.sampleAnswer x st seq counts).Filed := by
  unfold State.sampleAnswer
  dsimp only
  split
  · exact State.Filed.freshSample (h.same (by simp [SameFiles])) _ _
  · split
    · split <;> exact h.same (by simp [SameFiles])
    · exact h

theorem freshAnswer (n : Lane) : (s.freshAnswer n).Filed := by
  unfold State.freshAnswer
  dsimp only
  split
  · exact h.same (by simp [SameFiles])
  · exact State.Filed.leaveTo (h.same (by simp [SameFiles])) n _ _

theorem applyVerdict (x : Turn) (v : Verdict) : (s.applyVerdict x v).Filed := by
  unfold State.applyVerdict
  split
  · split
    · exact h
    · exact h.missDelivered _
  · exact h.freshAnswer _
  · split
    · exact h
    · split
      · exact h.sampleAnswer _ _ _ _
      · exact h.same (by simp [SameFiles])
      · exact h.same (by simp [SameFiles])

theorem applyDeferredOff (n : Lane) : (s.applyDeferredOff n).Filed := by
  unfold State.applyDeferredOff
  split
  · exact h.laneOff n
  · exact h

/-- A silent episode that opens records GATE_SILENT, which queues the fault record (R156). -/
theorem silence (x : Turn) (v : Verdict) : (s.silence x v).Filed := by
  unfold State.silence
  dsimp only
  split
  · exact h.same (by simp [SameFiles])
  · split
    · exact State.Filed.recordFault (h.same (by simp [SameFiles])) _
    · exact h.same (by simp [SameFiles])

theorem endTurn (x : Turn) (v : Verdict) : (s.endTurn x v).Filed := by
  have hcounted : (({ s with turn := none } : State).countTurn x v).Filed := h.same (by simp [SameFiles])
  have hmissed : (((({ s with turn := none } : State).countTurn x v).silence x v).missRunAfter x v).Filed :=
    (hcounted.silence x v).same (by simp [SameFiles])
  have happlied := (hmissed.applyVerdict x v).applyDeferredOff x.lane
  exact happlied.same (by simp [SameFiles, State.endTurn])

theorem enableOn (n : Lane) : (s.enableOn n).Filed := by
  unfold State.enableOn State.setEnable
  dsimp only
  refine h.same ?_
  split_ifs <;> simp [SameFiles]

theorem enableOff (n : Lane) : (s.enableOff n).Filed := by
  have henable : (s.setEnable n false).Filed := h.same (by simp [SameFiles, State.setEnable])
  unfold State.enableOff
  dsimp only
  split
  · exact henable
  · exact henable.laneOff n

theorem retune (n : Lane) : (s.retune n).Filed := by
  unfold State.retune
  split
  · exact h
  · exact (h.leaveTo n .tune Detector.tuning).same (by simp [SameFiles, State.markStale])

theorem reseed (n : Lane) : (s.reseed n).Filed :=
  (h.endPass n .reseed).same (by simp [SameFiles, State.reseed])

end Sys2Proof.Machine.State.Filed
end

section
/-! SUPPORT. The files through the ends of programs, the scan and the resets (R45, R64 to R71, R73, R188 to
R191). -/
namespace Sys2Proof.Machine

variable {s t : State}

namespace State.Filed

variable (h : s.Filed)
include h

/-! ### The outcomes of the waiters (Table 4-3) -/

theorem takeEnds (num : Nat) (ok : Bool) : (s.takeEnds num ok).Filed := by
  cases ok with
  | true => exact h.same (by simp [SameFiles, State.takeEnds])
  | false => exact (h.returnOrder num).same (by simp [SameFiles, State.takeEnds])

theorem waiterEnds (ok : Bool) (w : Waiter) : (State.waiterEnds ok s w).Filed := by
  unfold State.waiterEnds
  split
  case h_2 num _ => exact h.takeEnds num ok
  all_goals exact h.same (by simp [SameFiles])

theorem waitersEnd (r : RecordId) (ok : Bool) : (s.waitersEnd r ok).Filed :=
  List.foldlRecOn (motive := State.Filed) _ _ (h.same (by simp [SameFiles])) fun _ hu w _ => hu.waiterEnds ok w

/-! ### The ends of programs (R68 to R72) -/

theorem verifyFault (r : RecordId) : (s.verifyFault r).Filed := by
  unfold State.verifyFault
  split
  · exact h.same (by simp [SameFiles])
  · exact h.recordFault .storeVerify

theorem freeze (r : RecordId) : (s.freeze r).Filed := by
  unfold State.freeze
  split
  · split
    · rename_i n a ha
      obtain ⟨-, hbelow, hnames⟩ := h.accounts
      have hmem := tableGet_mem ha
      split
      · have hput := h.putAccount (a := { a with status := .frozen }) (hbelow _ hmem) fun e he hname =>
          congrArg Prod.fst (List.inj_on_of_nodup_map hnames he hmem hname)
        exact hput.same (by simp [SameFiles])
      · exact h
    · exact h
  all_goals exact h

theorem programCompletes {g : Program} (hg : s.program = some g) : (s.programCompletes g).Filed := by
  have hwritten : ({ s with program := none, store := s.store.write g.record g.image } : State).Filed :=
    h.noProgram.withStore (h.store.write (h.program_legal hg) g.image)
  exact (hwritten.entryEnds rfl).waitersEnd g.record true

theorem leaveFailed {g : Program} (hr : g.record.legal = true) : (s.leaveFailed g).Filed :=
  (h.withStore (h.store.leaveFailed hr)).same (by simp [SameFiles])

theorem programFails {g : Program} (hg : s.program = some g) : (s.programFails g).Filed := by
  have hleft := (h.noProgram.leaveFailed (h.program_legal hg)).verifyFault g.record
  exact ((hleft.entryEnds (by simp)).waitersEnd g.record false).freeze g.record

/-! ### The scan (R190, R191) -/

theorem scanFault : s.scanFault.Filed := by
  have hempty : ({ s with faults := {} } : State).Filed := h.same (by simp [SameFiles])
  unfold State.scanFault
  split
  · exact h.same (by simp [SameFiles])
  · exact hempty
  · exact hempty
  · exact hempty.recordFault .storeCorrupt

theorem scanSettings : s.scanSettings.Filed := by
  have hdefault : (({ s with settings := {} } : State).raise .office .settingsDefault).Filed :=
    h.same (by simp [SameFiles])
  unfold State.scanSettings
  split
  · exact h.same (by simp [SameFiles])
  · exact hdefault
  · exact hdefault
  · exact hdefault.recordFault .storeCorrupt

theorem scanFloat (soft : Bool) : (s.scanFloat soft).Filed := by
  have hset (v : Nat) : ({ s with float := v } : State).Filed := h.same (by simp [SameFiles])
  have hqueued : (s.queueRecord .float).Filed := h.queueRecord rfl
  have hstart : (if soft then s else { s with float := 0 }).Filed := by
    split
    · exact h
    · exact hset 0
  unfold State.scanFloat
  dsimp only
  split
  case h_4 => exact (hstart.recordFault .storeCorrupt).queueRecord rfl
  all_goals split <;> simp only [h, hset, hqueued]

/-- An account loaded under a name that no other bears. -/
theorem loadAccount {n : Nat} (hn : n < 256) {a : Account} (hnew : (s.account? a.haulier).isNone = true) :
    ({ s with accounts := tablePut s.accounts n a } : State).Filed :=
  h.putAccount hn fun e he hname => absurd ⟨e, he, hname⟩ ((s.account?_isNone a.haulier).mp hnew)

theorem scanCorruptAccount {n : Nat} (hn : n < 256) (id : Nat) : (s.scanCorruptAccount n id).Filed := by
  have hended {u : State} (hu : u.Filed) : ((u.queueRecord (.account n)).recordFault .storeCorrupt).Filed :=
    State.Filed.recordFault (hu.queueRecord (by simpa [RecordId.legal] using hn)) _
  unfold State.scanCorruptAccount
  dsimp only
  refine hended ?_
  split
  · rename_i hload
    obtain ⟨-, -, hnew⟩ := hload
    exact h.loadAccount hn hnew
  · exact h

theorem scanAccount {e : Nat × Cell Account} (he : e.1 < 256) : (s.scanAccount e).Filed := by
  unfold State.scanAccount
  split
  · split
    · exact h.loadAccount he ‹_›
    · exact h.scanCorruptAccount he _
  · exact h
  · exact h
  · exact h.scanCorruptAccount he _

theorem scanSettlement {e : Nat × Cell SettleRecord} (he : e.1 < 16) : (s.scanSettlement e).Filed := by
  have hlegal : (RecordId.settlement e.1).legal = true := by simpa [RecordId.legal] using he
  unfold State.scanSettlement
  split
  · split
    · rename_i x _ _
      have hput := h.putSettlement he x
      dsimp only
      split <;> exact hput.same (by simp [SameFiles])
    · exact State.Filed.recordFault (h.queueRecord hlegal) _
  · exact h
  · exact h
  · exact (h.recordFault .storeCorrupt).queueRecord hlegal

/-- The scan of a store in its one form keeps the files so. -/
theorem scan (soft : Bool) : (s.scan soft).Filed := by
  have hhead := ((h.scanFault).scanSettings).scanFloat soft
  obtain ⟨-, habelow, -, -, hbelow, -⟩ := hhead.store
  have haccounts := List.foldlRecOn (motive := State.Filed) _ State.scanAccount hhead
    fun u hu e he => hu.scanAccount (habelow e he)
  exact List.foldlRecOn (motive := State.Filed) _ State.scanSettlement haccounts
    fun u hu e he => hu.scanSettlement (hbelow e he)

end State.Filed

/-- A part with empty working copies and an empty queue, on a store in its one form. -/
theorem State.Filed.empty (hstore : s.store.Fits) (haccounts : s.accounts = []) (hsettlements : s.settlements = [])
    (hqueue : s.commitQueue = []) (hheld : s.held = []) (hprogram : s.program = none) : s.Filed := by
  refine ⟨hstore, ?_, ?_, ?_, ?_⟩
  · simp [haccounts, Table.Rising]
  · simp [hsettlements, Table.Rising]
  · rw [State.records, hqueue, hheld]
    exact .empty
  · simp [State.ProgramOfHead, hprogram]

/-! ### What an event leaves -/

/-- The files after an event: in their one form, and the queue at work. -/
structure State.FilesKept (t : State) : Prop where
  filed : t.Filed
  work : t.AtWork

theorem State.Fits.filesKept (hs : s.Fits) : s.FilesKept := by
  obtain ⟨-, -, hwork⟩ := s.queueFits_iff.mp hs.queue
  exact ⟨hs.filed, hwork⟩

theorem State.FilesKept.same (h : s.FilesKept) (hsame : SameFiles s t) : t.FilesKept := by
  refine ⟨h.filed.same hsame, ?_⟩
  obtain ⟨hmode, -, -, -, hqueue, -, hprogram⟩ := hsame
  have hsome := congrArg Option.isSome hprogram
  rw [Option.isSome_map, Option.isSome_map] at hsome
  rw [State.AtWork, State.active, hmode, hqueue, hsome]
  exact h.work

/-- A part out of service has no program to begin. -/
theorem State.Filed.outOfService (h : s.Filed) (hactive : s.active = false) : s.FilesKept :=
  ⟨h, fun ha => by simp [hactive] at ha⟩

theorem State.beginProgram_atWork (s : State) : s.beginProgram.AtWork := by
  intro hactive hqueue
  cases hg : s.program with
  | some g => simp [s.beginProgram_some hg, hg]
  | none =>
    cases hq : s.commitQueue with
    | nil => simp [s.beginProgram_nil hq, hq] at hqueue
    | cons e rest =>
      have ha : s.active = true := by simpa [State.active] using hactive
      simp [s.beginProgram_head hg hq ha]

/-- The end of an event begins the program that the queue waits for. -/
theorem State.Filed.begun (h : s.Filed) : s.beginProgram.FilesKept := ⟨h.beginProgram, s.beginProgram_atWork⟩

theorem State.Filed.conclude (h : s.Filed) (b : State) : (State.conclude b s).FilesKept := by
  have hevents : (State.orderEvents b s).Filed := h.same (by simp [SameFiles])
  exact hevents.begun.same (by simp [SameFiles, State.conclude])

end Sys2Proof.Machine
end

section
/-! SUPPORT. The files through every row: the store, the working copies and the commit queue (R62 to R77, R188 to
R191). -/
namespace Sys2Proof.Machine

variable {s t : State} {p : Port} {c : CommandCode} {ps : List Byte} {run : State → State}

namespace State.FilesKept

variable (h : s.FilesKept)
include h

theorem refused (rc : ResultCode) : (s.refused p c rc).FilesKept := h.same (by simp [SameFiles])

theorem answered (b : Body) : (s.answered p c b).FilesKept := h.same (by simp [SameFiles])

theorem command (hrun : s.Takes p c ps → (run s).FilesKept) : (s.command p c ps run).FilesKept := by
  obtain he | ⟨rc, -, -, he⟩ | ⟨htakes, he⟩ :=
    State.command_cases (s := s) (p := p) (c := c) (ps := ps) run
  · rw [he]; exact h
  · rw [he]; exact h.refused rc
  · rw [he]; exact hrun htakes

/-- A check of a command's own: it refuses, or the command goes on. -/
theorem check {C : Prop} [Decidable C] {rc : ResultCode} (ht : t.FilesKept) :
    (if C then s.refused p c rc else t).FilesKept := by
  split
  · exact h.refused rc
  · exact ht

end State.FilesKept

namespace State.Filed

/-- Work that leaves the files, at the end of an event. -/
theorem concluded (h : s.Filed) (b : State) (ht : SameFiles s t) : (State.conclude b t).FilesKept :=
  (h.same ht).conclude b

theorem responded (h : s.Filed) (b : State) (p : Port) (c : CommandCode) (rc : ResultCode) (x : Body) :
    (State.conclude b (s.respond p c rc x)).FilesKept :=
  h.concluded b (by simp [SameFiles])

/-- An office edit of an account (R67). -/
theorem editAccount (h : s.Filed) (b : State) (p : Port) {n : Nat} (hn : n < 256) (c : CommandCode) :
    (State.conclude b (s.editAccount p n c)).FilesKept := by
  have hqueued := h.queueRecord (r := .account n) (by simpa [RecordId.legal] using hn) true
  exact hqueued.concluded b (by simp [SameFiles, State.editAccount])

theorem setLockoutMask (h : s.Filed) (m : BitVec 8) : (s.setLockoutMask m).Filed := by
  have hevaluated {u : State} (hu : SameFiles s u) : (u.evalLockout.queueRecord .fault).Filed :=
    State.Filed.queueRecord (h.same (by simpa [SameFiles] using hu)) rfl
  exact hevaluated (by simp [SameFiles])

end State.Filed

namespace State.FilesKept

variable (h : s.FilesKept)
include h

theorem turnEnds (e : TurnEnd) : (s.turnEnds e).FilesKept := by
  unfold State.turnEnds
  split
  · exact (h.filed.endTurn _ _).conclude s
  · exact h

theorem turnEndsIf (e : TurnEnd) (test : State → Turn → Verdict → Bool) : (s.turnEndsIf e test).FilesKept := by
  unfold State.turnEndsIf
  split
  · split
    · exact h.turnEnds e
    · exact h
  · exact h

theorem turnMoves (a b : TurnPhase) : (s.turnMoves a b).FilesKept := by
  unfold State.turnMoves
  split
  · split
    · exact h.same (by simp [SameFiles])
    · exact h
  · exact h

/-- The end of STARTING: no program was in progress in the scan, and that of the head begins (R189). -/
theorem scanCompleted (hmode : s.mode = .scanning) : s.scanCompleted.FilesKept := by
  have hnone : s.program = none := by
    cases hg : s.program with
    | none => rfl
    | some g =>
      have := (h.filed.program g.record (by simp [hg])).1
      simp [State.active, hmode] at this
  obtain ⟨-, -, -, ⟨haccounts, hsettlements, -⟩, hstore, hqueue, hheld, hprogram⟩ := s.opened_frame
  have hopened : s.opened.Filed := by
    refine ⟨hstore ▸ h.filed.store, haccounts ▸ h.filed.accounts, hsettlements ▸ h.filed.settlements, ?_, ?_⟩
    · rw [State.records, hqueue, hheld]
      exact h.filed.queue
    · simp [State.ProgramOfHead, hprogram, hnone]
  have hturn : s.opened.nextTurn.Filed := hopened.same (by simp [SameFiles])
  exact hturn.begun.same (by simp [SameFiles, State.scanCompleted])

end State.FilesKept

/-! ### The rows -/

/-- Every row that leaves the books keeps the files. -/
theorem State.FilesKept.other (h : s.FilesKept) {i : Instr} (hi : i.movesBooks = false) :
    EndsIn State.FilesKept i s := by
  cases i <;> simp only [Instr.movesBooks, Bool.true_eq_false] at hi
  case yardSecond => exact DocketLaw.next_ite h (h.same (by simp [SameFiles]))
  case scanComplete =>
    by_cases hmode : s.mode = .scanning
    · exact ⟨_, exec_scanComplete hmode, h.scanCompleted hmode⟩
    · exact ⟨s, execScanComplete_of_ne hmode, h⟩
  case resultConsumed | invalidCommand => exact DocketLaw.next_ite (h.same (by simp [SameFiles])) h
  case writeDiscarded | writeIgnored => exact ⟨_, rfl, h⟩
  case lineFree | callSent => exact ⟨_, rfl, h.turnMoves _ _⟩
  case lineStuck | echo | noAnswer | answerTimeout | answerComplete => exact ⟨_, rfl, h.turnEnds _⟩
  case gateSilent | tuneLimit | lost | jam => exact ⟨_, rfl, h.turnEndsIf _ _⟩
  all_goals refine ⟨_, rfl, h.command fun _ => ?_⟩
  case setTime | readFloat | readStore | readFaults | readEvents | ackReset => exact h.same (by simp [SameFiles])
  case storeSettings => exact (h.filed.queueRecord (r := .settings) rfl).concluded _ (by simp [SameFiles])
  case readDocket | nextFinished | readClass | readLane | readStray | clearStray | readLinkStats =>
    split <;> exact h.same (by simp [SameFiles])
  case setLane =>
    split
    · exact h.refused _
    · split <;> exact h.same (by simp [SameFiles, State.setLaneSettings])
  case setClass =>
    dsimp only
    split
    · exact h.check (h.same (by simp [SameFiles]))
    · exact h.refused _
  case accountRead =>
    refine h.check ?_
    split <;> exact h.same (by simp [SameFiles])
  case loadFloat q ps _ =>
    refine h.check ?_
    have hraised : ({ s with float := s.float + field ps 0 4 } : State).Filed := h.filed.same (by simp [SameFiles])
    exact (hraised.queueRecord (r := .float) rfl).concluded _ (by simp [SameFiles])
  case clearFaults =>
    refine h.check ?_
    have hemptied : ({ s with faults := s.faults.emptied } : State).Filed := h.filed.same (by simp [SameFiles])
    exact (hemptied.queueRecord (r := .fault) rfl).concluded _ (by simp [SameFiles])
  case reportDispenser =>
    split
    case h_3 => exact (h.filed.recordFault .dispenserFault).responded ..
    case h_4 => exact h.refused _
    all_goals exact h.filed.concluded _ (by simp [SameFiles])
  case accountAdd q ps _ =>
    refine h.check ?_
    split
    · exact h.refused _
    · rename_i hnew
      split
      · exact h.refused _
      · rename_i hn
        have hlt := (lowestFree_spec hn).1
        have hload := h.filed.loadAccount hlt (a := { haulier := field ps 0 3 }) (by simpa using hnew)
        exact h.check (hload.editAccount _ _ hlt _)
  case accountRemove =>
    refine h.check ?_
    split
    · exact h.refused _
    · rename_i n _ ha
      exact h.check (h.check ((h.filed.delAccount n).editAccount _ _ (h.filed.account ha).1 _))
  case accountRewrite q ps _ =>
    refine h.check ?_
    split
    · exact h.refused _
    · rename_i n a ha
      obtain ⟨hn, hid, -, hone⟩ := h.filed.account ha
      have hput := h.filed.putAccount (a := { a with carry := field ps 3 1, status := .active }) hn
        fun e he hname => hone e he (hname.trans hid)
      exact h.check (hput.editAccount _ _ hn _)
  case setParam =>
    dsimp only
    split
    · exact h.check ((h.filed.setLockoutMask _).responded ..)
    · split
      · split <;> exact h.same (by simp [SameFiles])
      · exact h.refused _
  case laneEnable =>
    dsimp only
    split
    · refine h.check ?_
      split
      · exact (h.filed.enableOn _).responded ..
      · exact (h.filed.enableOff _).responded ..
    · exact h.refused _
  case tuneLane =>
    split
    · exact h.refused _
    · exact h.check (h.check ((h.filed.retune _).responded ..))
  case reseedLane =>
    split
    · exact h.refused _
    · exact h.check ((h.filed.reseed _).responded ..)

/-! ### The rows that move the books -/

/-- A part whose working copies and queue are gone. -/
theorem State.Filed.emptied (hstore : s.store.Fits) (he : s.Emptied) (hprogram : s.program = none) : s.Filed := by
  obtain ⟨⟨hqueue, hheld⟩, ⟨haccounts, hsettlements, -⟩, -⟩ := he
  exact .empty hstore haccounts hsettlements hqueue hheld hprogram

/-- A scan over working copies that stand empty. -/
theorem State.Filed.scanned (h : s.Filed) (hmode : s.mode = .scanning) (soft : Bool) :
    (s.scan soft).drivePins.FilesKept := by
  have hframe := s.scan_frame soft
  simp only [ScanFrame] at hframe
  refine State.FilesKept.same (s := s.scan soft) ((h.scan soft).outOfService ?_) (by simp [SameFiles])
  simp only [State.active, hframe, hmode]
  rfl

theorem State.powerUp_files (hstore : s.store.Fits) (hqueue : s.QueueFits) : s.powerUp.FilesKept := by
  have hcut := State.cutProgram_store_fits hstore hqueue
  exact State.Filed.scanned (s := s.cutProgram.cleared) (.emptied hcut s.cutProgram.cleared_emptied rfl) rfl false

theorem State.Fits.endHandOver_filed (hs : s.Fits) : s.endHandOver.Filed := by
  have hnone : s.keptNone.Filed := hs.filed.same (by simp [SameFiles, State.keptNone])
  have hback {u : State} (hu : u.Filed) (num : Nat) : ({ u with handedBack := some num } : State).Filed :=
    hu.same (by simp [SameFiles])
  obtain ⟨num, -, he⟩ | ⟨num, -, he⟩ | ⟨-, he⟩ := hs.endHandOver_cases
  · rw [he]
    exact hback (hnone.markOwed num) num
  · rw [he]
    exact hback (hnone.returnOrder num) num
  · rw [he]
    exact hnone

/-- A part in service that goes into its drain goes on with its program (R73). -/
theorem State.FilesKept.drains (h : s.FilesKept) (hmode : s.mode = .running) :
    s.drainBegun.FilesKept := by
  have hactive : s.drainBegun.active = s.active := by simp [State.active, hmode]
  obtain ⟨⟨hstore, haccounts, hsettlements, hqueue, hprogram⟩, hwork⟩ := h
  refine ⟨⟨by simpa using hstore, by simpa using haccounts, by simpa using hsettlements, ?_, ?_⟩, ?_⟩
  · simpa [State.records] using hqueue
  · rw [State.ProgramOfHead, hactive]
    simpa [State.ProgramOfHead, State.records] using hprogram
  · rw [State.AtWork, hactive]
    simpa using hwork

theorem State.FilesKept.attemptFails (h : s.FilesKept) {g : Program} (hg : s.program = some g) :
    (s.attemptFails g).FilesKept := by
  unfold State.attemptFails
  split
  · exact h.same (by simp [SameFiles, hg])
  · exact (h.filed.programFails hg).conclude s

theorem State.FilesKept.resolveFrame (h : s.FilesKept) (p : Port) (ps : List Byte) :
    (s.resolveFrame p ps).FilesKept := by
  refine h.command fun _ => h.check (h.check ?_)
  split
  · exact h.refused _
  · split
    · exact ((h.filed.pay _ _).waitFreed ..).conclude s
    · exact (h.filed.returnOrder _).responded ..

/-- Every row that moves the books keeps the files. -/
theorem State.Fits.files_books (hs : s.Fits) {i : Instr} (hi : i.movesBooks = true) :
    EndsIn State.FilesKept i s := by
  have h := hs.filesKept
  cases i <;> simp only [Instr.movesBooks, Bool.false_eq_true] at hi
  case powerOnReset =>
    refine ⟨_, rfl, ?_⟩
    split
    · have hcut := State.cutProgram_store_fits hs.tables.1 hs.queue
      exact State.Filed.outOfService (.empty hcut rfl rfl rfl rfl rfl) rfl
    · exact State.powerUp_files hs.tables.1 hs.queue
  case resetNAsserted =>
    have hcut := State.cutProgram_store_fits hs.tables.1 hs.queue
    show ∃ t, execResetNAsserted s = .next t ∧ t.FilesKept
    unfold execResetNAsserted
    split
    · exact ⟨_, rfl, h.same (by simp [SameFiles])⟩
    · refine ⟨_, rfl, State.Filed.outOfService ⟨hcut, ?_, ?_, .empty, ?_⟩ rfl⟩
      · simpa using h.filed.accounts
      · simpa using h.filed.settlements
      · simp [State.ProgramOfHead, s.cutProgram_program]
  case resetNReleased =>
    refine ⟨_, rfl, ?_⟩
    split
    · exact State.powerUp_files (s := { s with resetLow := false }) hs.tables.1 hs.queue
    · exact h.same (by simp [SameFiles])
  case softReset =>
    refine ⟨_, rfl, h.command fun htakes => ?_⟩
    have hdropped : s.endHandOver.dropPortWaiters.Filed :=
      hs.endHandOver_filed.same (by simp [SameFiles, State.dropPortWaiters])
    refine (hdropped.conclude s).drains ?_
    simpa [State.dropPortWaiters] using hs.takes_running htakes
  case softResetDrainEnd =>
    have hdrained : s.lanesToOff.floatToClear.drainedOut.Filed :=
      .emptied (by simpa using hs.tables.1) (State.drainedOut_emptied _) rfl
    exact DocketLaw.next_ite (hdrained.scanned rfl true) h
  case resultHoldExpiry p =>
    have hlost : ((s.toReady p).raise p .resultLost).Filed := h.filed.same (by simp [SameFiles])
    show ∃ t, execResultHoldExpiry p s = .next t ∧ t.FilesKept
    unfold execResultHoldExpiry
    dsimp only
    split
    · split
      · exact ⟨_, rfl, (hlost.returnOrder _).conclude s⟩
      · exact ⟨_, rfl, h.same (by simp [SameFiles])⟩
    · exact ⟨_, rfl, h⟩
  case openDocket =>
    refine ⟨_, rfl, h.command fun _ => ?_⟩
    dsimp only
    split
    · exact h.refused _
    · refine h.check (h.check ?_)
      split
      · exact h.refused _
      · split <;> exact h.same (by simp [SameFiles, State.openNew])
  case adjust =>
    refine ⟨_, rfl, h.command fun _ => ?_⟩
    dsimp only
    (repeat' split) <;> exact h.same (by simp [SameFiles])
  case closeDocket =>
    refine ⟨_, rfl, h.command fun _ => ?_⟩
    split
    · exact h.refused _
    · split
      · exact h.refused _
      · exact h.check ((h.filed.close _ _).responded ..)
  case voidDocket | releaseDocket =>
    refine ⟨_, rfl, h.command fun _ => ?_⟩
    dsimp only
    split
    · exact h.refused _
    · exact h.check (h.same (by simp [SameFiles]))
  case closeGraceExpiry n =>
    show ∃ t, execCloseGraceExpiry n s = .next t ∧ t.FilesKept
    unfold execCloseGraceExpiry
    split
    · exact DocketLaw.next_ite (((h.filed.book _ _).completeClosing _ _ _).conclude s) h
    · exact ⟨_, rfl, h⟩
  case takeOrder =>
    refine ⟨_, rfl, h.command fun _ => ?_⟩
    split
    · exact (h.filed.offer _ _).conclude s
    · exact h.refused _
    · exact h.refused _
  case dispenseLimitExpiry =>
    show ∃ t, execDispenseLimitExpiry s = .next t ∧ t.FilesKept
    unfold execDispenseLimitExpiry
    split
    · exact DocketLaw.next_ite ((h.filed.suspend _).conclude s) h
    · exact ⟨_, rfl, h⟩
  case confirmPayout =>
    refine ⟨_, rfl, h.command fun _ => h.check (h.check ?_)⟩
    split
    · exact ((h.filed.pay _ _).waitFreed ..).conclude s
    · exact ((h.filed.pay _ _).waitFreed ..).conclude s
    · exact h.refused _
  case resolveSuspense | resolveSuspenseNotPaid => exact ⟨_, rfl, h.resolveFrame _ _⟩
  case programAttemptEnd equal =>
    show ∃ t, execProgramAttemptEnd equal s = .next t ∧ t.FilesKept
    unfold execProgramAttemptEnd
    split
    · rename_i g hg
      refine ⟨_, rfl, ?_⟩
      split
      · exact (h.filed.programCompletes hg).conclude s
      · exact h.attemptFails hg
    · exact ⟨_, rfl, h⟩
  case programAttemptTimeout =>
    show ∃ t, execProgramAttemptTimeout s = .next t ∧ t.FilesKept
    unfold execProgramAttemptTimeout
    split
    · exact ⟨_, rfl, h.attemptFails ‹_›⟩
    · exact ⟨_, rfl, h⟩
  case powerLoss =>
    have hcut := State.cutProgram_store_fits hs.tables.1 hs.queue
    show ∃ t, execPowerLoss s = .next t ∧ t.FilesKept
    unfold execPowerLoss
    split
    · exact ⟨_, rfl, h⟩
    · exact ⟨_, rfl, State.Filed.outOfService (.empty hcut rfl rfl rfl rfl rfl) rfl⟩

/-- Every step keeps the files. -/
theorem State.Fits.step_files (hs : s.Fits) (hstep : step s = .next t) : t.FilesKept := by
  unfold step at hstep
  split at hstep
  · cases hstep
    unfold State.tick State.tickTimers
    split
    · exact hs.filesKept
    · dsimp only
      split <;> exact hs.filesKept.same (by simp [SameFiles, Function.comp_def])
  · rename_i i rest _
    have hpop : ({ s with pending := rest } : State).Fits :=
      ⟨hs.ports, hs.lockout, hs.tables, hs.queue, hs.dockets, hs.orders, hs.settlements, hs.short, hs.reset⟩
    have hrow : EndsIn State.FilesKept i { s with pending := rest } := by
      cases hi : i.movesBooks
      · exact hpop.filesKept.other hi
      · exact hpop.files_books hi
    obtain ⟨u, hu, hkept⟩ := hrow
    obtain rfl : u = t := by simpa [hu] using hstep
    exact hkept

end Sys2Proof.Machine

namespace Sys2Proof.Proofs
open Sys2Proof.Machine

/-- Settles O7: the files keep their form, and the docket numbers of the settlement records are distinct in the
ledger that O9 keeps. -/
theorem stepKeepsTablesFit : Obligations.StepKeepsTablesFit := by
  intro s t hs hstep
  obtain ⟨hstore, ⟨harise, habelow, hnames⟩, ⟨hrise, hbelow⟩, -, -⟩ := (hs.step_files hstep).filed
  have hpop (rest : List Instr) : ({ s with pending := rest } : State).Fits :=
    ⟨hs.ports, hs.lockout, hs.tables, hs.queue, hs.dockets, hs.orders, hs.settlements, hs.short, hs.reset⟩
  have hledger := step_cases ledgerLaw hs.ledger (fun i rest _ => (hpop rest).exec_ledger i) hstep
  exact ⟨hstore, harise, habelow, hnames, hrise, hbelow, hledger.recordsNodup⟩

/-- Settles O8: the files keep the queue in its form and at work, and a queue without duplicates holds no more
records than Table 4-1 has. -/
theorem stepKeepsQueueFit : Obligations.StepKeepsQueueFit := by
  refine ⟨fun s t hs hstep => ?_, fun s hqueue => ?_⟩
  · obtain ⟨hfiled, hwork⟩ := hs.step_files hstep
    exact t.queueFits_iff.mpr ⟨hfiled.queue, hfiled.program, hwork⟩
  · obtain ⟨hform, -⟩ := s.queueFits_iff.mp hqueue
    have hothers := hform.length_others
    have hlength := hform.length_le
    rw [List.filter_map, List.length_map] at hothers
    rw [List.length_map] at hlength
    exact ⟨s.accountEntries_records ▸ hform.accounts, hothers, hlength, hform.length_held⟩

end Sys2Proof.Proofs
end

section
/-! SUPPORT. The end of a program that completes: what its waiters leave, and the program that begins next (R64,
R66, R68, R70). -/
namespace Sys2Proof.Machine

variable {s : State} {g : Program}

/-- The waiters on a program that completes queue nothing and return no order (R43, R70). -/
theorem State.waitersEnd_completed (s : State) (r : RecordId) :
    (s.waitersEnd r true).settlements = s.settlements ∧ (s.waitersEnd r true).orderQueue = s.orderQueue ∧
    (s.waitersEnd r true).commitQueue = s.commitQueue ∧ (s.waitersEnd r true).held = s.held := by
  refine List.foldlRecOn (motive := fun u : State => u.settlements = s.settlements ∧ u.orderQueue = s.orderQueue ∧
    u.commitQueue = s.commitQueue ∧ u.held = s.held) _ _ ⟨rfl, rfl, rfl, rfl⟩ fun u hu w _ => ?_
  unfold State.waiterEnds
  cases w.kind <;> simpa [State.takeEnds] using hu

/-- A program that completes, once its event has ended: the waiters' outcomes have left the entry's end as it
stood. -/
theorem State.programCompletes_leaves (s : State) (g : Program) :
    (s.programCompletes g).store = s.store.write g.record g.image ∧
    (s.programCompletes g).commitQueue = s.entryEnds.commitQueue ∧
    (s.programCompletes g).held = s.entryEnds.held ∧ (s.programCompletes g).program = none ∧
    (s.programCompletes g).settlements = s.settlements ∧ (s.programCompletes g).orderQueue = s.orderQueue := by
  have hends (m : Store) : ({ s with program := none, store := m } : State).entryEnds.commitQueue =
        s.entryEnds.commitQueue ∧
      ({ s with program := none, store := m } : State).entryEnds.held = s.entryEnds.held := by
    unfold State.entryEnds
    dsimp only
    repeat' split
    all_goals exact ⟨rfl, rfl⟩
  obtain ⟨hsettlements, horders, hqueue, hheld⟩ := State.waitersEnd_completed
    ({ s with program := none, store := s.store.write g.record g.image } : State).entryEnds g.record
  obtain ⟨hqueue', hheld'⟩ := hends (s.store.write g.record g.image)
  exact ⟨by simp [State.programCompletes], hqueue.trans hqueue', hheld.trans hheld',
    by simp [State.programCompletes], hsettlements.trans (by simp), horders.trans (by simp)⟩

/-- No waiter on the record of a program that completed is left waiting on it (R70). -/
theorem State.programCompletes_waiters {w : Waiter} (hw : w ∈ (s.programCompletes g).waiters)
    (hbegun : w.begun = true) : w.record ≠ g.record := fun hrecord =>
  (State.waitersEnd_left hw).2 ⟨hbegun, hrecord⟩

/-- Where no program is in progress the end of an event begins that of the head, with the working copy as it then
stands (R64, R68). -/
theorem State.conclude_program (b : State) {a : State} (hnone : a.program = none) (ha : a.active = true) :
    (State.conclude b a).program = (State.conclude b a).commitQueue.head?.map fun e =>
      ⟨e.record, (State.conclude b a).image e.record, .first, { limit := 15 }⟩ := by
  have himage : (State.conclude b a).image = (State.orderEvents b a).image :=
    funext (State.image_congr (by simp) (by simp) (by simp) (by simp) (by simp))
  have hfirst := (State.orderEvents b a).beginProgram_first (by simpa using hnone) (by simpa [State.active] using ha)
  have hhead := congrArg List.head? (State.conclude_records b a)
  rw [List.head?_map, List.head?_map] at hhead
  have hmap (q : List Entry) : (q.head?.map fun e : Entry =>
      (⟨e.record, (State.conclude b a).image e.record, .first, { limit := 15 }⟩ : Program)) =
      (q.head?.map (·.record)).map fun r => ⟨r, (State.conclude b a).image r, .first, { limit := 15 }⟩ := by
    rw [Option.map_map]
    rfl
  have hprogram : (State.conclude b a).program = (State.orderEvents b a).beginProgram.program := by
    simp [State.conclude]
  have hqueue : (State.orderEvents b a).commitQueue = a.commitQueue := by simp
  rw [hmap, hhead, ← hmap, himage, hprogram, hfirst, hqueue]

/-- A waiter whose program has begun at the end of an event waited on it before, or waits on the program of the
new head (R70). -/
theorem State.conclude_begun (b : State) {a : State} (hnone : a.program = none) (ha : a.active = true) {w : Waiter}
    (hw : w ∈ (State.conclude b a).waiters) (hbegun : w.begun = true) :
    w ∈ a.waiters ∨ (State.conclude b a).program.map (·.record) = some w.record := by
  have hwaiters : (State.orderEvents b a).waiters = a.waiters := by simp
  simp only [State.conclude, State.drivePins_frame] at hw ⊢
  cases hq : (State.orderEvents b a).commitQueue with
  | nil =>
    rw [State.beginProgram_nil _ hq, hwaiters] at hw
    exact .inl hw
  | cons e rest =>
    rw [State.beginProgram_head _ (by simpa using hnone) hq (by simpa [State.active] using ha)] at hw ⊢
    obtain ⟨v, hv, rfl⟩ := List.mem_map.mp hw
    split at hbegun
    · rename_i hrecord
      exact .inr (by simp [hrecord])
    · rename_i hrecord
      rw [if_neg hrecord]
      exact .inl (hwaiters ▸ hv)

end Sys2Proof.Machine

namespace Sys2Proof.Proofs
open Sys2Proof.Machine

/-- Settles O38, by the entry's end, the waiters' outcomes and the end of the event. -/
theorem programsComplete : Obligations.ProgramsComplete := by
  intro s g hs hg
  obtain ⟨hactive, e, rest, hq, hrec⟩ := hs.queue.program_head hg
  obtain ⟨hstore, hqueue, hheld, hnone, hsettlements, horders⟩ := s.programCompletes_leaves g
  obtain ⟨moved, hmoved, hchanged, hmoves, hleaves⟩ := State.entryEnds_queue hq
  have hexec : exec (.programAttemptEnd true) s = .next (State.conclude s (s.programCompletes g)) := by
    show execProgramAttemptEnd true s = _
    simp [execProgramAttemptEnd, hg]
  have hrecords : (State.conclude s (s.programCompletes g)).commitQueue.map (·.record) =
      rest.map (·.record) ++ moved := by
    rw [State.conclude_records, hqueue, hmoved]
  have hkept : (State.conclude s (s.programCompletes g)).held = s.entryEnds.held := by simpa using hheld
  have hactive' : (s.programCompletes g).active = true := by simpa [State.active] using hactive
  rw [hrec] at hchanged hmoves hleaves
  refine ⟨_, e, rest, hexec, hq, hrec, by simpa using hstore, fun hc => ?changed, fun hc hacc => ?account,
    fun hc hacc => ?other, State.conclude_program s hnone hactive', fun w hw hr hbegun => ?waiters, by simp,
    by simpa using hsettlements, by simpa using horders, ?kept⟩
  case changed =>
    obtain ⟨rfl, hsame⟩ := hchanged hc
    exact ⟨hkept.trans hsame, hrecords⟩
  case account =>
    cases hh : s.held with
    | nil =>
      obtain ⟨rfl, hsame⟩ := hleaves hc (.inr hh)
      exact ⟨by rw [hkept, hsame, hh]; rfl, hrecords⟩
    | cons n held =>
      obtain ⟨rfl, hrest⟩ := hmoves n held hc hacc hh
      exact ⟨hkept.trans hrest, hrecords⟩
  case other =>
    obtain ⟨rfl, hsame⟩ := hleaves hc (.inl hacc)
    exact ⟨hkept.trans hsame, by rw [hrecords, List.append_nil]⟩
  case waiters =>
    rcases State.conclude_begun s hnone hactive' hw hbegun with hstill | hnew
    · exact absurd hr (State.programCompletes_waiters hstill hbegun)
    · rw [hnew, hr]
  case kept => simp [SameFaults, SameClock, SameLanes]

end Sys2Proof.Proofs
end

section
/-! SUPPORT. The office edits of an account record: what each of them is refused for, and what one that is taken
does (R67, R70, R75 to R77). -/
namespace Sys2Proof.Machine

variable {s : State} {ps : List Byte} {n : Nat} {a : Account} {c : CommandCode}

/-! ### The checks -/

/-- A command taken comes to what its body does (R1). -/
theorem exec_taken {i : Instr} {t : State} {p : Port} {run : State → State}
    (hi : exec i s = .next (s.command p c ps run)) (h : s.Takes p c ps) (hrun : run s = t) : exec i s = .next t := by
  rw [hi, State.command_takes h, hrun]

/-- A haulier field has three bytes, so an ID above 0 is in range (R75). -/
theorem haulier_inRange (h : 0 < field ps 0 3) : ¬ (field ps 0 3 = 0 ∨ haulierLimit < field ps 0 3) := by
  have := field_lt ps 0 3
  simp only [haulierLimit]
  omega

theorem rewrite_inRange (h : 0 < field ps 0 3) (hcarry : field ps 3 1 ≤ 99) :
    ¬ (field ps 0 3 = 0 ∨ haulierLimit < field ps 0 3 ∨ 99 < field ps 3 1) := by
  have := field_lt ps 0 3
  simp only [haulierLimit]
  omega

theorem lowestFree_eq_some {α : Type} {size r : Nat} {t : Table α} (hr : r < size) (hfree : tableGet t r = none)
    (hlower : ∀ k < r, tableGet t k ≠ none) : lowestFree size t = some r := by
  rw [lowestFree, List.find?_range_eq_some]
  exact ⟨by simpa using hfree, List.mem_range.mpr hr, fun k hk => by simpa [Option.isSome_iff_ne_none] using hlower k hk⟩

theorem lowestFree_eq_none {α : Type} {size : Nat} {t : Table α} (h : ∀ k < size, tableGet t k ≠ none) :
    lowestFree size t = none :=
  List.find?_eq_none.mpr fun k hk => by
    simpa [Option.isSome_iff_ne_none] using h k (List.mem_range.mp hk)

/-- An edit finds no room where the record has no entry and the queue holds 21 account entries (R67). -/
theorem State.storeBusy_full (hnew : s.hasEntry (.account n) = false) (hfull : 21 ≤ s.accountEntries) :
    s.storeBusy n = true := by
  simp [State.storeBusy, hnew, accountEntryLimit, hfull]

theorem State.haulierBusy_false {id : Nat} (h : ∀ d ∈ s.dockets, d.haulier = id →
    d.state ≠ .open ∧ d.state ≠ .closing ∧ d.state ≠ .awaitingPayout) : s.haulierBusy id = false := by
  simpa [State.haulierBusy, and_assoc] using h

/-! ### An edit that is taken -/

/-- An edit that is not refused merges into the record's entry, or finds room in the queue with no account held
(R66, R67). -/
theorem State.Fits.edit_room (hs : s.Fits) (hroom : s.storeBusy n = false) :
    s.hasEntry (.account n) = true ∨
      s.hasEntry (.account n) = false ∧ s.held = [] ∧ s.accountEntries < accountEntryLimit := by
  cases hentry : s.hasEntry (.account n) with
  | true => exact .inl rfl
  | false =>
    have hlt : s.accountEntries < accountEntryLimit := by simpa [State.storeBusy, hentry] using hroom
    refine .inr ⟨rfl, ?_, hlt⟩
    by_contra hheld
    rw [s.accountEntries_records, hs.filed.queue.full hheld] at hlt
    exact Nat.lt_irrefl _ hlt

/-- Such an edit queues the record, and holds none (R64, R66). -/
theorem State.queueRecord_edits (h : s.hasEntry (.account n) = true ∨
      s.hasEntry (.account n) = false ∧ s.held = [] ∧ s.accountEntries < accountEntryLimit) (edit : Bool) :
    (s.queueRecord (.account n) edit).hasEntry (.account n) = true ∧
    QueueKept s (s.queueRecord (.account n) edit) := by
  have hheld : (s.queueRecord (.account n) edit).held = s.held := by
    rcases h with hentry | ⟨hentry, hheld, hlt⟩
    · exact (State.queueRecord_merges hentry edit).2.1
    · simp [State.queueRecord, hentry, hheld, Nat.not_le.mpr hlt]
  refine ⟨?_, by simp, hheld, fun r hr => s.queueRecord_hasEntry hr _ edit⟩
  rcases s.queueRecord_queued (.account n) edit with hentry | ⟨m, hm, hn⟩
  · exact hentry
  · obtain rfl : n = m := by simpa using hn
    rcases h with hentry | ⟨-, hempty, -⟩
    · exact s.queueRecord_hasEntry hentry _ edit
    · rw [hheld, hempty] at hm
      cases hm

/-- An edit that is taken: the working copy of the record as the command leaves it, its entry, and the Office
port that waits on its program (R67, R70). -/
theorem State.Fits.edited (hs : s.Fits) (hroom : s.storeBusy n = false) {l : Table Account}
    (hothers : ∀ k, k ≠ n → tableGet l k = tableGet s.accounts k) (c : CommandCode) :
    s.Edited (State.conclude s (({ s with accounts := l } : State).editAccount .office n c)) n c ∧
    (State.conclude s (({ s with accounts := l } : State).editAccount .office n c)).accounts = l := by
  obtain ⟨hqueued, hkept⟩ := State.queueRecord_edits (s := { s with accounts := l }) (hs.edit_room hroom) true
  have hedit : QueueKept s (({ s with accounts := l } : State).editAccount .office n c) :=
    hkept.trans (.of_same (by simp [State.editAccount]) (by simp [State.editAccount]) (by simp [State.editAccount]))
  have hended : State.conclude s (({ s with accounts := l } : State).editAccount .office n c) =
      (({ s with accounts := l } : State).editAccount .office n c).beginProgram.drivePins :=
    State.conclude_begins (State.headView_congr (by simp) (State.orderState?_congr (by simp))) (by simp)
  have hports : (State.conclude s (({ s with accounts := l } : State).editAccount .office n c)).ports =
      s.ports.set .office { s.ports.get .office with phase := .executing } := by
    rw [hended]
    simp [State.editAccount]
  refine ⟨⟨by simpa using hothers, ?queued, State.conclude_waitsFor s ?waits, by rw [hports, PerPort.get_set, if_pos rfl],
    by rw [hports, PerPort.get_set, if_pos rfl], fun q hq => by simp [hports, hq], hedit.trans (.conclude s _), ?kept⟩, by simp⟩
  case queued =>
    rw [State.conclude_hasEntry]
    exact (State.hasEntry_congr (by simp [State.editAccount]) _).trans hqueued
  case waits => exact ⟨⟨.account n, false, .accountEdit c⟩, by simp [State.editAccount], rfl, rfl⟩
  case kept =>
    rw [hended]
    simp [SameClock, SameLanes, SameDockets, SameOrders, SameFloat, SameFaults]

end Sys2Proof.Machine

namespace Sys2Proof.Proofs
open Sys2Proof.Machine

/-- Settles O41: the refusals command by command, and the three edits by `State.Fits.edited`. -/
theorem accountEditsCheckAndQueue : Obligations.AccountEditsCheckAndQueue := by
  refine ⟨fun s ps hpins => ⟨fun htakes => ?addRefused, fun htakes => ?removeRefused, fun htakes => ?rewriteRefused⟩,
    fun s ps n hs hid hroom => ⟨fun htakes hnew hn hfree hlower => ?added, fun a ha =>
      ⟨fun htakes hidle => ?removed, fun htakes hcarry => ?rewritten⟩⟩⟩
  case addRefused =>
    refine ⟨fun hzero => exec_refuses .outOfRange rfl hpins htakes ?_,
      fun hid hknown => exec_refuses .duplicate rfl hpins htakes ?_,
      fun hid hnew hfull => exec_refuses .tableFull rfl hpins htakes ?_,
      fun n hn hid hnew hfree hlower hentry hbusy => exec_refuses .storeBusy rfl hpins htakes ?_⟩
    · exact if_pos (.inl hzero)
    · simp only [if_neg (haulier_inRange hid), hknown, if_true]
    · simp [if_neg (haulier_inRange hid), hnew, lowestFree_eq_none hfull]
    · simp [if_neg (haulier_inRange hid), hnew, lowestFree_eq_some hn hfree hlower, State.storeBusy_full hentry hbusy]
  case removeRefused =>
    refine ⟨fun hzero => exec_refuses .outOfRange rfl hpins htakes ?_,
      fun hid hnew => exec_refuses .unknownAccount rfl hpins htakes ?_,
      fun n a hid ha => ⟨fun hbusy => exec_refuses .wrongState rfl hpins htakes ?_,
        fun hidle hentry hfull => exec_refuses .storeBusy rfl hpins htakes ?_⟩⟩
    · exact if_pos (.inl hzero)
    · simp only [if_neg (haulier_inRange hid), hnew]
    · simp only [if_neg (haulier_inRange hid), ha, hbusy, if_true]
    · simp [if_neg (haulier_inRange hid), ha, hidle, State.storeBusy_full hentry hfull]
  case rewriteRefused =>
    refine ⟨fun hbad => exec_refuses .outOfRange rfl hpins htakes ?_,
      fun hid hcarry hnew => exec_refuses .unknownAccount rfl hpins htakes ?_,
      fun n a hid hcarry ha hentry hfull => exec_refuses .storeBusy rfl hpins htakes ?_⟩
    · exact if_pos (by omega)
    · simp only [if_neg (rewrite_inRange hid hcarry), hnew]
    · simp only [if_neg (rewrite_inRange hid hcarry), ha, State.storeBusy_full hentry hfull, if_true]
  case added =>
    obtain ⟨hedited, haccounts⟩ := hs.edited hroom
      (l := tablePut s.accounts n { haulier := field ps 0 3 }) (fun k hk => tableGet_put_ne _ _ hk) .accountAdd
    refine ⟨_, exec_taken rfl htakes ?_, hedited, ?_⟩
    · simp [if_neg (haulier_inRange hid), hnew, lowestFree_eq_some hn hfree hlower, hroom]
    · rw [haccounts, tableGet_put_self]
  case removed =>
    obtain ⟨hedited, haccounts⟩ := hs.edited hroom
      (l := tableDel s.accounts n) (fun k hk => tableGet_del_ne _ hk) .accountRemove
    refine ⟨_, exec_taken rfl htakes ?_, hedited, ?_⟩
    · simp [if_neg (haulier_inRange hid), ha, State.haulierBusy_false hidle, hroom]
    · rw [haccounts, tableGet_del_self]
  case rewritten =>
    obtain ⟨hedited, haccounts⟩ := hs.edited hroom
      (l := tablePut s.accounts n { a with carry := field ps 3 1, status := .active })
      (fun k hk => tableGet_put_ne _ _ hk) .accountRewrite
    refine ⟨_, exec_taken rfl htakes ?_, hedited, ?_⟩
    · simp [if_neg (rewrite_inRange hid hcarry), ha, hroom]
    · rw [haccounts, tableGet_put_self]

end Sys2Proof.Proofs
end

section
/-! SUPPORT. What a command on a lane without an open docket leaves of the rest of the part, and LANE_ENABLE (R107,
R110, R111, R147). -/
namespace Sys2Proof.Machine

variable {s t u : State} {n : Lane} {c : Cause}

/-! ### Work on a lane alone -/

theorem State.ButLanes.of_same (hports : t.ports = s.ports) (hkept : SameClock s t ∧ SameDockets s t ∧
    SameOrders s t ∧ SameFloat s t ∧ SameRecords s t ∧ SameFaults s t ∧ SameStore s t) : s.ButLanes t :=
  ⟨fun q _ => by rw [hports], hkept⟩

theorem State.ButLanes.refl (s : State) : s.ButLanes s := by
  refine .of_same rfl ?_
  simp [SameClock, SameDockets, SameOrders, SameFloat, SameRecords, SameFaults, SameStore]

theorem State.ButLanes.trans (h : s.ButLanes t) (h' : t.ButLanes u) : s.ButLanes u := by
  obtain ⟨hports, hrest⟩ := h
  obtain ⟨hports', hrest'⟩ := h'
  refine ⟨fun q hq => (hports' q hq).trans (hports q hq), ?_⟩
  simp only [SameClock, SameDockets, SameOrders, SameFloat, SameRecords, SameFaults, SameStore] at hrest hrest' ⊢
  simpa only [hrest] using hrest'

theorem State.ButLanes.setEnable (s : State) (n : Lane) (on : Bool) : s.ButLanes (s.setEnable n on) := by
  refine .of_same rfl ?_
  simp [State.setEnable, SameClock, SameDockets, SameOrders, SameFloat, SameRecords, SameFaults, SameStore]

theorem State.ButLanes.setDetector (s : State) (n : Lane) (d : Detector) : s.ButLanes (s.setDetector n d) := by
  refine .of_same (by simp) ?_
  simp [SameClock, SameDockets, SameOrders, SameFloat, SameRecords, SameFaults, SameStore]

theorem State.ButLanes.setLink (s : State) (n : Lane) (l : LaneLink) : s.ButLanes (s.setLink n l) := by
  refine .of_same (by simp) ?_
  simp [SameClock, SameDockets, SameOrders, SameFloat, SameRecords, SameFaults, SameStore]

theorem State.ButLanes.moveLane (s : State) (n : Lane) (d : Detector) : s.ButLanes (s.moveLane n d) := by
  refine ⟨fun q hq => ?_, by simp [SameClock, SameDockets, SameOrders, SameFloat, SameRecords, SameFaults, SameStore]⟩
  rw [State.moveLane_ports]
  split
  · simp [hq]
  · rfl

theorem State.ButLanes.bookStray (s : State) (n : Lane) (o : PassOutcome) : s.ButLanes (s.bookStray n o) := by
  refine ⟨fun q hq => ?_, by simp [SameClock, SameDockets, SameOrders, SameFloat, SameRecords, SameFaults, SameStore]⟩
  simp [State.bookStray, hq]

theorem State.ButLanes.nextTurn (s : State) : s.ButLanes s.nextTurn := by
  refine .of_same (by simp) ?_
  simp [SameClock, SameDockets, SameOrders, SameFloat, SameRecords, SameFaults, SameStore]

theorem State.ButLanes.answered (s : State) (c : CommandCode) (b : Body) : s.ButLanes (s.answered .lane c b) := by
  obtain ⟨-, -, hothers⟩ := State.answered_shows s .lane c b
  exact ⟨hothers, by simp [SameClock, SameDockets, SameOrders, SameFloat, SameRecords, SameFaults, SameStore]⟩

/-- A command that worked on a lane alone ends with its answer: no order event, and no program begins. -/
theorem State.Fits.laneAnswered (hs : s.Fits) (h : s.ButLanes t) (c : CommandCode) (b : Body) :
    State.conclude s (t.respond .lane c .ok b) = t.answered .lane c b := by
  obtain ⟨-, ⟨-, hmode, -⟩, ⟨hdockets, -⟩, ⟨horders, -⟩, ⟨hfloat, -⟩, -, -, -, hqueue, -, hprogram, -⟩ := h
  exact State.conclude_idle hs.queue (by simpa using hqueue) (by simpa using hprogram) (by simpa using hmode)
    (State.headView_congr (by simpa using horders) (State.orderState?_congr (by simpa using hdockets)))
    (by simpa using hfloat)

/-! ### A lane without an open docket leaves its pass (R107) -/

/-- Without a docket a pass ends UNRESOLVED in the stray tally. -/
theorem State.endPass_toStray (hnone : s.laneDocket n = none) (hc : c.Ends)
    (hp : (s.detectors.get n).state = .present) :
    s.endPass n c = (s.bookStray n .unresolved).setDetector n { s.detectors.get n with
      lastOutcome := some ⟨.unresolved, c, (s.detectors.get n).pass.channel, (s.detectors.get n).pass.peakInd,
        (s.detectors.get n).pass.peakCap, (s.detectors.get n).pass.dwell, none, s.yardTime⟩ } := by
  have houtcome (q : Pass) : s.outcomeOf c q = .unresolved := State.outcomeOf_ends hc s q
  have hbooking (o : PassOutcome) : s.bookingOf n o = none := State.bookingOf_none hnone
  have hlane (x : Detector) : ((s.bookStray n .unresolved).setDetector n x).laneDocket n = none :=
    (State.laneDocket_congr (by simp) (by simp) n).trans hnone
  simp only [State.endPass, hp, State.resolve_eq, State.booked, houtcome, State.book_none (hbooking _),
    State.outcomeRecord, hbooking, State.bookStray_frame]
  exact State.waitOver_nothing fun d hd => by rw [hlane] at hd; cases hd

/-- Without a docket the end of whatever the lane was in leaves the rest of the part. -/
theorem State.ButLanes.endPass (hnone : s.laneDocket n = none) (hc : c.Ends) : s.ButLanes (s.endPass n c) := by
  by_cases hp : (s.detectors.get n).state = .present
  · rw [State.endPass_toStray hnone hc hp]
    exact (State.ButLanes.bookStray s n _).trans (.setDetector ..)
  · rw [State.endPass_nothing hp fun _ d hd => by rw [hnone] at hd; cases hd]
    exact .refl s

/-- A lane without a docket goes to OFF: what is left of the rest of the part, of the links and of the lane
(R107, R110). -/
theorem State.laneOff_leaves (hnone : s.laneDocket n = none) : s.ButLanes (s.laneOff n) ∧
    (s.laneOff n).links = s.links.set n
      { s.links.get n with missRun := 0, silentRun := 0, silentOpen := false, lastSeq := none } ∧
    s.LeftToStray (s.laneOff n) n .disable := by
  have hended := State.ButLanes.endPass hnone Cause.ends_disable
  refine ⟨(hended.trans (.moveLane ..)).trans (.setLink ..), by simp [State.laneOff, State.leaveTo], ?_⟩
  obtain ⟨k, hk, hquiet⟩ := s.endPass_detectors n .disable
  have hdet : (s.laneOff n).detectors =
      s.detectors.set n (Detector.off { s.detectors.get n with lastOutcome := k }) := by
    simp [State.laneOff, State.leaveTo, hk]
  have hstrays : (s.laneOff n).strays = (s.endPass n .disable).strays := by simp [State.laneOff, State.leaveTo]
  refine ⟨by simp [hdet, Detector.off, Detector.dropPass], by simp [hdet, Detector.off, Detector.dropPass],
    by simp [hdet, Detector.off, Detector.dropPass], by simp [hdet, Detector.off, Detector.dropPass],
    by simp [hdet, Detector.off, Detector.dropPass], fun m hm => by simp [hdet, hm], fun hp => ?stray,
    fun hp => ?quiet⟩
  case stray =>
    have hpass := State.endPass_toStray hnone Cause.ends_disable hp
    have hlast := congrArg (fun v : PerLane Detector => (v.get n).lastOutcome)
      (hk.symm.trans (congrArg State.detectors hpass))
    refine ⟨by simp [hstrays, hpass], ?_, by simpa [hdet, Detector.off, Detector.dropPass] using hlast⟩
    refine (State.LaneWork.moveLane (s.endPass n .disable) n _).flags _ _ ?_
    rw [hpass]
    exact FlagsKept.of_ports rfl _ _ (s.bookStray_flagged n .unresolved)
  case quiet =>
    obtain ⟨hlast, hsame⟩ := hquiet hp
    exact ⟨hstrays.trans hsame, by simp [hdet, Detector.off, Detector.dropPass, hlast]⟩

/-! ### LANE_ENABLE (R110, R111) -/

/-- A lane enabled, before the turn that begins on an idle link: out of OFF it configures (R110). -/
def State.enabling (s : State) (n : Lane) : State :=
  if (s.detectors.get n).state = .off
  then (s.setEnable n true).moveLane n (s.detectors.get n).configuring else s.setEnable n true

theorem State.enableOn_eq (s : State) (n : Lane) :
    s.enableOn n = if s.turn.isNone then (s.enabling n).nextTurn else s.enabling n := by
  unfold State.enableOn State.enabling
  by_cases h : (s.detectors.get n).state = .off <;> simp [State.setEnable, h]

theorem State.enableOff_eq (s : State) (n : Lane) : s.enableOff n =
    if s.onLink n = true ∨ (s.detectors.get n).state = .off then s.setEnable n false
    else (s.setEnable n false).laneOff n := by
  simp only [State.enableOff, Bool.or_eq_true, decide_eq_true_eq]
  rfl

theorem State.enabling_leaves (s : State) (n : Lane) : s.ButLanes (s.enabling n) ∧
    (s.enabling n).settings = (s.setEnable n true).settings ∧ (s.enabling n).links = s.links ∧
    (s.enabling n).strays = s.strays ∧ (s.enabling n).turn = s.turn ∧ (s.enabling n).rotation = s.rotation ∧
    ∀ m, m ≠ n → (s.enabling n).detectors.get m = s.detectors.get m := by
  have henable := State.ButLanes.setEnable s n true
  unfold State.enabling
  split
  · exact ⟨henable.trans (.moveLane ..), by simp [State.setEnable], by simp [State.setEnable],
      by simp [State.setEnable], by simp [State.setEnable], by simp [State.setEnable],
      fun m hm => by simp [State.setEnable, hm]⟩
  · exact ⟨henable, rfl, rfl, rfl, rfl, rfl, fun _ _ => rfl⟩

theorem State.enabling_off (h : (s.detectors.get n).state = .off) :
    ((s.enabling n).detectors.get n).state = .configuring ∧ (s.enabling n).Flagged .lane .laneState := by
  refine ⟨by simp [State.enabling, h, Detector.configuring], ?_⟩
  have hraises : raisesLaneState ((s.setEnable n true).detectors.get n).state
      (s.detectors.get n).configuring.state = true := by
    simp [State.setEnable, h, Detector.configuring, raisesLaneState, LaneState.counting]
  rw [State.enabling, if_pos h, State.moveLane, if_pos hraises]
  exact State.raise_flagged _ .lane .laneState

theorem State.enabling_on (h : (s.detectors.get n).state ≠ .off) :
    s.enabling n = s.setEnable n true := if_neg h

/-- What LANE_ENABLE does to switch a lane on, turn and all. -/
theorem State.enableOn_leaves (s : State) (n : Lane) : s.ButLanes (s.enableOn n) ∧
    (s.enableOn n).settings = (s.setEnable n true).settings ∧ (s.enableOn n).links = s.links ∧
    (s.enableOn n).strays = s.strays ∧ (s.enableOn n).ports = (s.enabling n).ports ∧
    ∀ m, SameButTargets ((s.enabling n).detectors.get m) ((s.enableOn n).detectors.get m) := by
  obtain ⟨hbut, hset, hlinks, hstrays, -⟩ := s.enabling_leaves n
  rw [s.enableOn_eq]
  split
  · exact ⟨hbut.trans (.nextTurn _), by simpa using hset, by simpa using hlinks, by simpa using hstrays, by simp,
      fun m => ((s.enabling n).nextTurn_goesOn m).detector⟩
  · exact ⟨hbut, hset, hlinks, hstrays, rfl, fun _ => rfl⟩

/-- On an idle link in service the lane enabled gets a turn begun, by the rotation (R147). -/
theorem State.enableOn_begins (hmode : s.mode = .running) (hidle : s.turn = none) (n : Lane) :
    ∃ x, (s.enableOn n).turn = some x ∧ (s.enableOn n).Begun x ∧
      State.NextInRotation { s with settings := (s.enableOn n).settings } x.lane := by
  obtain ⟨hbut, hset, -, -, -, hrotation, -⟩ := s.enabling_leaves n
  obtain ⟨-, ⟨-, hkept, -⟩, -⟩ := hbut
  have henabled : (s.enabling n).enabled n = true := by
    rw [State.enabled, hset]
    simp [State.setEnable]
  have hturn : s.enableOn n = (s.enabling n).nextTurn := by
    rw [s.enableOn_eq, hidle]
    rfl
  obtain ⟨x, hx, hbegun, hnext⟩ := (s.enabling n).nextTurn_follows.1 (hkept.trans hmode) ⟨n, henabled⟩
  rw [hturn]
  exact ⟨x, hx, hbegun, hnext.congr (by simp) hrotation⟩

/-- What LANE_ENABLE does to switch off a lane without an open docket (R110, R111). -/
theorem State.enableOff_leaves (hopen : s.openDocket.get n = none) : s.ButLanes (s.enableOff n) ∧
    (s.enableOff n).settings = (s.setEnable n false).settings ∧ (s.enableOff n).turn = s.turn ∧
    (s.enableOff n).rotation = s.rotation ∧
    (s.onLink n = true ∨ (s.detectors.get n).state = .off → (s.enableOff n).detectors = s.detectors ∧
      (s.enableOff n).links = s.links ∧ (s.enableOff n).strays = s.strays) ∧
    (s.onLink n = false → (s.detectors.get n).state ≠ .off →
      ((s.enableOff n).detectors.get n).state = .off ∧ ((s.enableOff n).detectors.get n).driftMark = false ∧
      (s.enableOff n).Flagged .lane .laneState ∧ s.LeftToStray (s.enableOff n) n .disable ∧
      (s.enableOff n).links = s.links.set n
        { s.links.get n with missRun := 0, silentRun := 0, silentOpen := false, lastSeq := none }) := by
  have henable := State.ButLanes.setEnable s n false
  rw [s.enableOff_eq]
  split
  · rename_i hstays
    exact ⟨henable, rfl, rfl, rfl, fun _ => ⟨rfl, rfl, rfl⟩, fun hlink hoff => by simp [hlink, hoff] at hstays⟩
  · rename_i hleaves
    have hnone : (s.setEnable n false).laneDocket n = none := by
      simp [State.laneDocket, State.setEnable, hopen]
    obtain ⟨hbut, hlinks, hstray⟩ := State.laneOff_leaves hnone
    refine ⟨henable.trans hbut, by simp, by simp [State.setEnable], by simp [State.setEnable],
      fun hstays => absurd hstays hleaves, fun _ hoff => ?_⟩
    obtain ⟨⟨hstate, -, -, -, -, -, hmark, hflag⟩, -⟩ :=
      State.laneOff_lane (s := s.setEnable n false) hoff (.refl _ n) rfl
    exact ⟨hstate, hmark, hflag, hstray, hlinks⟩

theorem exec_laneEnable_on {ps : List Byte} (hs : s.Fits) (htakes : s.Takes .lane .laneEnable ps)
    (hn : lane? (field ps 0 1) = some n) (hon : field ps 1 1 = 1) :
    exec (.laneEnable .lane ps) s = .next ((s.enableOn n).answered .lane .laneEnable
      [fixed (flagByte true ++ be 1 (laneStateCode ((s.enableOn n).detectors.get n).state))]) := by
  obtain ⟨hbut, -⟩ := s.enableOn_leaves n
  exact exec_taken rfl htakes (by simp [hn, hon, onOff?, hs.laneAnswered hbut])

theorem exec_laneEnable_off {ps : List Byte} (hs : s.Fits) (htakes : s.Takes .lane .laneEnable ps)
    (hn : lane? (field ps 0 1) = some n) (hoff : field ps 1 1 = 0) (hopen : s.openDocket.get n = none) :
    exec (.laneEnable .lane ps) s = .next ((s.enableOff n).answered .lane .laneEnable
      [fixed (flagByte false ++ be 1 (laneStateCode ((s.enableOff n).detectors.get n).state))]) := by
  obtain ⟨hbut, -⟩ := State.enableOff_leaves hopen
  exact exec_taken rfl htakes (by simp [hn, hoff, onOff?, hopen, hs.laneAnswered hbut])

/-- The answer of LANE_ENABLE, byte by byte. -/
theorem laneEnable_bytes (on : Bool) (v : Nat) :
    resultBytes CommandCode.laneEnable.byte .ok [fixed (flagByte on ++ be 1 v)] =
      [0x20, 0, 2, 0, if on then 1 else 0] ++ be 1 v := by
  rw [resultBytes_fixed, List.length_append, be_length]
  cases on <;> rfl

end Sys2Proof.Machine

namespace Sys2Proof.Proofs
open Sys2Proof.Machine

/-- Settles O48: the refusals, the lane switched on with its turn, and the lane switched off. -/
theorem laneEnableSwitches : Obligations.LaneEnableSwitches := by
  refine ⟨fun s ps hpins htakes hbad => exec_refuses .outOfRange rfl hpins htakes ?range,
    fun s ps n hs hpins htakes hn => ⟨fun hoff hopen => exec_refuses .laneBusy rfl hpins htakes ?busy,
      fun hon => ?on, fun hoff hopen => ?off⟩⟩
  case range =>
    rcases hbad with hlane | hvalue
    · simp only [lane?_of_lt hlane]
    · have hnone : onOff? (field ps 1 1) = none := by
        unfold onOff?
        split <;> simp_all
      simp [hnone]
  case busy => simp [hn, hoff, onOff?, hopen]
  case on =>
    obtain ⟨hbut, hset, hlinks, hstrays, hports, hdetectors⟩ := s.enableOn_leaves n
    obtain ⟨-, -, -, -, hturn, hrotation, hothers⟩ := s.enabling_leaves n
    have hstate := congrArg Detector.state (hdetectors n)
    obtain ⟨hshows, hflags, -⟩ := State.answered_shows (s.enableOn n) .lane .laneEnable
      [fixed (flagByte true ++ be 1 (laneStateCode ((s.enableOn n).detectors.get n).state))]
    rw [laneEnable_bytes] at hshows
    refine ⟨_, exec_laneEnable_on hs htakes hn hon, by simpa using hset, by simpa using hshows,
      fun hoff => ?_, fun hne => ?_, fun hturning => ?_, fun hidle => ?_, fun m hm => ?_, by simpa using hlinks,
      by simpa using hstrays, hbut.trans (.answered ..)⟩
    · obtain ⟨hconfiguring, hflag⟩ := State.enabling_off hoff
      have hraised : (s.enableOn n).Flagged .lane .laneState := FlagsKept.of_ports hports _ _ hflag
      exact ⟨by simpa using hstate.symm.trans hconfiguring, FlagsKept.answered _ _ _ _ _ _ _ hraised⟩
    · rw [hflags, hports]
      rw [State.enabling_on hne] at hstate ⊢
      exact ⟨by simpa [State.setEnable] using hstate.symm, rfl⟩
    · have heq : s.enableOn n = s.enabling n := by
        rw [s.enableOn_eq, if_neg (by simpa [← Option.isSome_iff_ne_none] using hturning)]
      simp [heq, hturn, hrotation]
    · obtain ⟨x, hx, hbegun, hnext⟩ := State.enableOn_begins (hs.takes_running htakes) hidle n
      exact ⟨x, by simpa using hx, hbegun.congr (by simp) (by simp) (by simp), hnext.congr (by simp) rfl⟩
    · have hsame := hdetectors m
      rw [hothers m hm] at hsame
      simpa using hsame
  case off =>
    obtain ⟨hbut, hset, hturn, hrotation, hstays, hleaves⟩ := State.enableOff_leaves hopen
    obtain ⟨hshows, -⟩ := State.answered_shows (s.enableOff n) .lane .laneEnable
      [fixed (flagByte false ++ be 1 (laneStateCode ((s.enableOff n).detectors.get n).state))]
    have hkept := FlagsKept.answered (s.enableOff n) .lane .laneEnable .ok
      [fixed (flagByte false ++ be 1 (laneStateCode ((s.enableOff n).detectors.get n).state))]
    rw [laneEnable_bytes] at hshows
    refine ⟨_, exec_laneEnable_off hs htakes hn hoff hopen, by simpa using hset, by simpa using hshows,
      fun h => by simpa using hstays h, fun hlink hne => ?_, by simpa using hturn, by simpa using hrotation,
      hbut.trans (.answered ..)⟩
    obtain ⟨hstate, hmark, hflag, ⟨hpass, hjam, hfreeze, hbase, hfilt, hothers, hstray, hquiet⟩, hlinks⟩ :=
      hleaves hlink hne
    refine ⟨by simpa using hstate, by simpa using hmark, hkept _ _ hflag, ⟨by simpa using hpass, by simpa using hjam,
      by simpa using hfreeze, by simpa using hbase, by simpa using hfilt, by simpa using hothers, fun hp => ?_,
      by simpa using hquiet⟩, by simpa using hlinks⟩
    obtain ⟨htally, hraised, hlast⟩ := hstray hp
    exact ⟨by simpa using htally, hkept _ _ hraised, by simpa using hlast⟩

end Sys2Proof.Proofs
end

section
/-! SUPPORT. Every row leaves each line at the level of its rule (R109, R144, R168, R182): a branch that changes
what a line's rule reads ends by driving the lines. -/
namespace Sys2Proof.Machine

variable {s t : State} {p : Port} {c : CommandCode} {ps : List Byte}

/-- No rule of a line reads the lines. -/
theorem State.drivePins_ruled (s : State) : s.drivePins.PinsRuled := rfl

/-- The lines, and what their rules read of the state. -/
abbrev SameLines (s t : State) : Prop :=
  t.pins = s.pins ∧ t.mode = s.mode ∧ t.settings = s.settings ∧ t.detectors = s.detectors ∧
  t.openDocket = s.openDocket ∧ t.lockout = s.lockout ∧ t.turn = s.turn ∧ t.freeCount = s.freeCount ∧
  ∀ p, (t.ports.get p).flags = (s.ports.get p).flags

theorem State.PinsRuled.same (h : s.PinsRuled) (hsame : SameLines s t) : t.PinsRuled := by
  obtain ⟨hpins, hmode, hset, hdet, hopen, hlock, hturn, hfree, hflags⟩ := hsame
  have hstop (n : Lane) : t.lstopOf n = s.lstopOf n := by simp only [State.lstopOf, hset, hdet, hopen]
  have hattn (p : Port) : t.attnOf p = s.attnOf p := by simp only [State.attnOf, hset, hflags]
  have hde : t.glDeOf = s.glDeOf := by simp only [State.glDeOf, hturn]
  show t.pins = t.ruledPins
  rw [hpins, State.ruledPins, hmode, hlock, hfree, hde]
  simp only [hstop, hattn]
  exact h

/-- A command not taken leaves the lines, and a refusal drives them (R175, R176). -/
theorem State.PinsRuled.command (h : s.PinsRuled) {run : State → State} (hrun : (run s).PinsRuled) :
    (s.command p c ps run).PinsRuled := by
  obtain he | ⟨rc, -, -, he⟩ | ⟨-, he⟩ := State.command_cases (s := s) (p := p) (c := c) (ps := ps) run
  · rw [he]; exact h
  · rw [he]; exact State.drivePins_ruled _
  · rw [he]; exact hrun

/-- The end of a turn concludes its event, or there is no such turn. -/
theorem State.PinsRuled.turnEnds (h : s.PinsRuled) (e : TurnEnd) : (s.turnEnds e).PinsRuled := by
  unfold State.turnEnds
  split
  · exact State.drivePins_ruled _
  · exact h

theorem State.PinsRuled.turnEndsIf (h : s.PinsRuled) (e : TurnEnd)
    (test : State → Turn → Verdict → Bool) : (s.turnEndsIf e test).PinsRuled := by
  unfold State.turnEndsIf
  split
  · split
    · exact h.turnEnds e
    · exact h
  · exact h

theorem State.PinsRuled.turnMoves (h : s.PinsRuled) (a b : TurnPhase) : (s.turnMoves a b).PinsRuled := by
  unfold State.turnMoves
  split
  · split
    · exact State.drivePins_ruled _
    · exact h
  · exact h

/-- A first attempt that fails changes its program alone (R68). -/
theorem State.PinsRuled.attemptFails (h : s.PinsRuled) (g : Program) : (s.attemptFails g).PinsRuled := by
  unfold State.attemptFails
  split
  · exact h.same (by simp [SameLines])
  · exact State.drivePins_ruled _

/-- The start-up drives the lines, whether the part is held or begins its scan (R188). -/
theorem exec_powerOnReset_ruled (s : State) : EndsIn State.PinsRuled .powerOnReset s := by
  refine ⟨_, rfl, ?_⟩
  split
  · exact State.drivePins_ruled _
  · exact State.drivePins_ruled _

/-- Every command ends by a refusal, by an answer or as an event ends, and each of them drives the lines. -/
theorem exec_command_ruled (h : s.PinsRuled) {i : Instr} (hi : i.command? = some (p, c, ps)) :
    EndsIn State.PinsRuled i s := by
  cases i <;> cases hi
  all_goals refine ⟨_, rfl, h.command ?_⟩
  case softReset | setTime | readFloat | readStore | storeSettings | readFaults | readEvents | ackReset =>
    exact State.drivePins_ruled _
  all_goals
    dsimp -failIfUnchanged only
    repeat' split
    all_goals exact State.drivePins_ruled _

/-- An event that looks at the state once, and drives the lines where it changes what they show. -/
theorem ruled_ite {C : Prop} [Decidable C] (ht : t.PinsRuled) (h : s.PinsRuled) :
    ∃ u, (if C then Host.Outcome.next (φ := Fault) (ρ := Refusal) t else .next s) = .next u ∧ u.PinsRuled :=
  DocketLaw.next_ite ht h

/-- Every event that is not a command. -/
theorem exec_event_ruled (h : s.PinsRuled) {i : Instr} (hi : i.command? = none) :
    EndsIn State.PinsRuled i s := by
  cases i <;> simp only [Instr.command?, reduceCtorEq] at hi
  case powerOnReset => exact exec_powerOnReset_ruled s
  case resetNAsserted => exact ruled_ite (h.same (by simp [SameLines])) (State.drivePins_ruled _)
  case resetNReleased =>
    refine ⟨_, rfl, ?_⟩
    split
    · exact State.drivePins_ruled _
    · exact h.same (by simp [SameLines])
  case softResetDrainEnd | resultConsumed | invalidCommand | scanComplete =>
    exact ruled_ite (State.drivePins_ruled _) h
  case powerLoss => exact ruled_ite h (State.drivePins_ruled _)
  case yardSecond => exact ruled_ite h (h.same (by simp [SameLines]))
  case writeDiscarded | writeIgnored => exact ⟨_, rfl, h⟩
  case resultHoldExpiry p =>
    show ∃ t, execResultHoldExpiry p s = .next t ∧ t.PinsRuled
    unfold execResultHoldExpiry
    dsimp only
    split
    · split
      · exact ⟨_, rfl, State.drivePins_ruled _⟩
      · exact ⟨_, rfl, State.drivePins_ruled _⟩
    · exact ⟨_, rfl, h⟩
  case closeGraceExpiry n =>
    show ∃ t, execCloseGraceExpiry n s = .next t ∧ t.PinsRuled
    unfold execCloseGraceExpiry
    split
    · exact ruled_ite (State.drivePins_ruled _) h
    · exact ⟨_, rfl, h⟩
  case dispenseLimitExpiry =>
    show ∃ t, execDispenseLimitExpiry s = .next t ∧ t.PinsRuled
    unfold execDispenseLimitExpiry
    split
    · exact ruled_ite (State.drivePins_ruled _) h
    · exact ⟨_, rfl, h⟩
  case programAttemptEnd equal =>
    show ∃ t, execProgramAttemptEnd equal s = .next t ∧ t.PinsRuled
    unfold execProgramAttemptEnd
    split
    · refine ⟨_, rfl, ?_⟩
      split
      · exact State.drivePins_ruled _
      · exact h.attemptFails _
    · exact ⟨_, rfl, h⟩
  case programAttemptTimeout =>
    show ∃ t, execProgramAttemptTimeout s = .next t ∧ t.PinsRuled
    unfold execProgramAttemptTimeout
    split
    · exact ⟨_, rfl, h.attemptFails _⟩
    · exact ⟨_, rfl, h⟩
  case lineFree | callSent => exact ⟨_, rfl, h.turnMoves _ _⟩
  case lineStuck | echo | noAnswer | answerTimeout | answerComplete => exact ⟨_, rfl, h.turnEnds _⟩
  case gateSilent | tuneLimit | lost | jam => exact ⟨_, rfl, h.turnEndsIf _ _⟩

theorem exec_ruled (h : s.PinsRuled) (i : Instr) : EndsIn State.PinsRuled i s := by
  cases hi : i.command? with
  | none => exact exec_event_ruled h hi
  | some w => exact exec_command_ruled h hi

/-- The tick of the clock moves limits and counts alone (R192). -/
theorem State.PinsRuled.tick (h : s.PinsRuled) : s.tick.PinsRuled := by
  unfold State.tick State.tickTimers
  split
  · exact h
  · dsimp only
    split
    · exact h.same (by simp [SameLines])
    · exact h.same (by simp [SameLines])

end Sys2Proof.Machine

namespace Sys2Proof.Proofs
open Sys2Proof.Machine

/-- Settles O5, by the row at the front of the queue, or the tick. -/
theorem stepKeepsTheLinesRuled : Obligations.StepKeepsTheLinesRuled := by
  intro s t h hstep
  unfold step at hstep
  split at hstep
  · cases hstep
    exact h.tick
  · rename_i i rest hp
    obtain ⟨u, hu, hruled⟩ := exec_ruled (s := { s with pending := rest }) (h.same (by simp [SameLines])) i
    obtain rfl : u = t := by simpa [hu] using hstep
    exact hruled

end Sys2Proof.Proofs
end

section
/-! SUPPORT. What the rules of the lines give, line by line (R109, R160, R168, R174, R182). -/
namespace Sys2Proof.Machine

variable {s : State}

/-- The table of R109. -/
theorem lstopRule_iff (q : StopPolicy) (l : LaneState) (o : Bool) : lstopRule q l o = true ↔
    (l = .configuring ∨ l = .tuning ∨ l = .tuneFailed ∨ l = .settling ∨ l = .lost) ∧
    (q = .always ∨ q = .onDocket ∧ o = true) := by
  cases l <;> cases q <;> simp [lstopRule]

/-- A fault record locks where it holds a kind of the mask (R167). -/
theorem locks_iff (r : FaultRecord) (m : BitVec 8) :
    locks r m = true ↔ ∃ k : FaultKind, 0 < (r.get k).count ∧ m.getLsbD k.index = true := by
  have hmem (k : FaultKind) : k ∈ FaultKind.list := by cases k <;> decide
  simp [locks, hmem]

/-- Two words meet where some bit stands in both. -/
theorem and_bne_zero_iff (a b : BitVec 16) :
    (a &&& b != 0) = true ↔ ∃ i < 16, a.getLsbD i = true ∧ b.getLsbD i = true := by
  rw [bne_iff_ne, ne_eq, BitVec.eq_of_getLsbD_eq_iff]
  simp

/-- The lines of the running part (R109, R168, R182). -/
theorem State.PinsRuled.running (h : s.PinsRuled) (hmode : s.mode = .running) :
    (∀ n, s.pins.lstop.get n = s.lstopOf n) ∧ s.pins.lockout = s.lockout ∧
    ∀ p, s.pins.attn.get p = s.attnOf p := by
  rw [h, State.ruledPins, hmode]
  exact ⟨fun n => by cases n <;> rfl, rfl, fun p => by cases p <;> rfl⟩

/-- The lines in STARTING and while RESET_N is held low (R109, R160, R168, R182). -/
theorem State.PinsRuled.starting (h : s.PinsRuled)
    (hmode : s.mode = .draining ∨ s.mode = .scanning ∨ s.mode = .resetHeld) :
    s.pins.lstop = .all true ∧ s.pins.lockout = true ∧ s.pins.attn = .all false := by
  rw [h, State.ruledPins]
  rcases hmode with hm | hm | hm <;> rw [hm] <;> exact ⟨rfl, rfl, rfl⟩

/-- Outside service a port is in STARTING and acknowledges no address (R174, R180). -/
theorem State.PortsFit.acknowledges (h : s.PortsFit) (hmode : s.mode ≠ .running) (p : Port)
    (addr : BitVec 7) : s.acknowledges p addr = false := by
  have hstarting : (s.ports.get p).phase = .starting := by
    obtain ⟨⟨hlane, -⟩, ⟨hpayout, -⟩, hoffice, -⟩ := h
    cases p
    · exact hlane.mpr (decide_eq_false hmode)
    · exact hpayout.mpr (decide_eq_false hmode)
    · exact hoffice.mpr (decide_eq_false hmode)
  simp [State.acknowledges, hstarting]

end Sys2Proof.Machine

namespace Sys2Proof.Proofs
open Sys2Proof.Machine

/-- Settles O14: the lines of the running part, of STARTING, and of a part held by RESET_N. -/
theorem linesFollowTheirRules : Obligations.LinesFollowTheirRules := by
  intro s hpins hs
  refine ⟨fun hmode => ?running, fun hstart => ?starting, fun hsupply hlow => ?held⟩
  case running =>
    obtain ⟨hstop, hlock, hattn⟩ := hpins.running hmode
    refine ⟨fun n => ?_, ?_, fun p => ?_⟩
    · rw [hstop]
      exact lstopRule_iff ..
    · rw [hlock, hs.lockout (State.active_of_running hmode)]
      exact locks_iff ..
    · rw [hattn]
      exact and_bne_zero_iff ..
  case starting =>
    have hmode : s.mode = .draining ∨ s.mode = .scanning ∨ s.mode = .resetHeld :=
      hstart.imp_right (Or.imp_right fun ⟨hsupply, hlow⟩ => (hs.reset hsupply).mp hlow)
    obtain ⟨hstop, hlock, hattn⟩ := hpins.starting hmode
    exact ⟨fun n => by rw [hstop, PerLane.get_all], hlock, fun p => by rw [hattn, PerPort.get_all]⟩
  case held =>
    have hmode := (hs.reset hsupply).mp hlow
    refine ⟨?_, hs.ports.acknowledges (by simp [hmode])⟩
    rw [hpins, s.ruledPins_held hmode]

end Sys2Proof.Proofs
end

section
/-! SUPPORT. Stages 1 to 3 of a processed sample in whole numbers: a count moved toward another, the baselines,
and the deltas (R90, R91, R126, R129). -/
namespace Sys2Proof.Machine

variable {cfg : LaneSettings} {d : Detector} {old raw k f b : Nat}

/-! ### A count moved toward another (R1, R90, R96, R126) -/

/-- A part of a difference, truncated toward zero, lies between nothing and the whole. -/
theorem tdiv_between (e : Int) (m : Nat) : min 0 e ≤ e.tdiv m ∧ e.tdiv m ≤ max 0 e := by
  rcases le_total 0 e with he | he
  · have hlow := Int.tdiv_nonneg he (Int.natCast_nonneg m)
    have hhigh := Int.tdiv_le_self m he
    omega
  · have hlow := Int.tdiv_nonneg (Int.neg_nonneg_of_nonpos he) (Int.natCast_nonneg m)
    have hhigh := Int.tdiv_le_self m (Int.neg_nonneg_of_nonpos he)
    rw [Int.neg_tdiv] at hlow hhigh
    omega

/-- The move in whole numbers: the part of the distance never takes a count below 0. -/
theorem moveToward_eq (old raw k : Nat) :
    ((moveToward old raw k : Nat) : Int) = (old : Int) + ((raw : Int) - (old : Int)).tdiv (2 ^ k) := by
  have hbetween := tdiv_between ((raw : Int) - (old : Int)) (2 ^ k)
  rw [Nat.cast_pow, Nat.cast_ofNat] at hbetween
  rw [moveToward, Int.toNat_of_nonneg (by omega)]

theorem moveToward_between (old raw k : Nat) :
    min old raw ≤ moveToward old raw k ∧ moveToward old raw k ≤ max old raw := by
  have hbetween := tdiv_between ((raw : Int) - (old : Int)) (2 ^ k)
  rw [Nat.cast_pow, Nat.cast_ofNat] at hbetween
  have heq := moveToward_eq old raw k
  omega

theorem moveToward_zero (old raw : Nat) : moveToward old raw 0 = raw := by simp [moveToward]

/-! ### Baselines (R126) -/

theorem distance_eq (a b : Nat) : distance a b = ((a : Int) - (b : Int)).natAbs := by
  unfold distance
  omega

/-- Inside the fast band a baseline moves by β. -/
theorem stepBaseline_near (h : ((f : Int) - ((b / 16 : Nat) : Int)).natAbs < cfg.fastBand) :
    stepBaseline cfg b f = moveToward b (16 * f) cfg.beta := by
  rw [stepBaseline, distance_eq, if_pos h]

/-- From the fast band on a baseline moves by β_fast. -/
theorem stepBaseline_far (h : cfg.fastBand ≤ ((f : Int) - ((b / 16 : Nat) : Int)).natAbs) :
    stepBaseline cfg b f = moveToward b (16 * f) cfg.betaFast := by
  rw [stepBaseline, distance_eq, if_neg (Nat.not_lt.mpr h)]

theorem stepBaseline_le (hb : b ≤ 1048560) (hf : f ≤ 65535) : stepBaseline cfg b f ≤ 1048560 := by
  have hle (j : Nat) : moveToward b (16 * f) j ≤ 1048560 :=
    (moveToward_between b (16 * f) j).2.trans (max_le hb (by omega))
  exact hle _

/-- Each baseline after stage 2 has made its step or stayed, by the lane's state. -/
theorem stepBaselines_get (cfg : LaneSettings) (st : LaneState) (base filt : PerChan Nat) (c : Chan) :
    (stepBaselines cfg st base filt).get c = stepBaseline cfg (base.get c) (filt.get c) ∨
    (stepBaselines cfg st base filt).get c = base.get c := by
  cases st
  case settling | idle => exact .inl (by cases c <;> rfl)
  case entering | present | gap =>
    cases c
    case ref => exact .inl rfl
    all_goals exact .inr rfl
  all_goals exact .inr rfl

theorem stepBaselines_all {st : LaneState} (h : st = .settling ∨ st = .idle) (base filt : PerChan Nat)
    (c : Chan) : (stepBaselines cfg st base filt).get c = stepBaseline cfg (base.get c) (filt.get c) := by
  rcases h with rfl | rfl <;> cases c <;> rfl

theorem stepBaselines_ref {st : LaneState} (h : st = .entering ∨ st = .present ∨ st = .gap)
    (base filt : PerChan Nat) : stepBaselines cfg st base filt =
      { base with ref := stepBaseline cfg base.ref filt.ref } := by
  rcases h with rfl | rfl | rfl <;> rfl

theorem stepBaselines_none {st : LaneState} (hcount : st.counting = false) (hsettle : st ≠ .settling)
    (base filt : PerChan Nat) : stepBaselines cfg st base filt = base := by
  cases st
  case settling => exact absurd rfl hsettle
  case idle | entering | present | gap => cases hcount
  all_goals rfl

/-! ### Deltas (R91, R129) -/

theorem filterCounts_get (alpha : Nat) (old raw : PerChan Nat) (c : Chan) :
    (filterCounts alpha old raw).get c = moveToward (old.get c) (raw.get c) alpha := by
  cases c <;> rfl

/-- The clamp of a compensated baseline (R129). -/
theorem compensated_eq (w z r q : Nat) : ((compensated w z r q : Nat) : Int) =
    max 0 (min 65535 ((z : Int) + ((w : Int) * ((r : Int) - (q : Int))).tdiv 4096)) := by
  unfold compensated
  dsimp only
  omega

/-- Outside PRESENT and GAP the effective baselines are the baselines (R91). -/
theorem effective_plain (h : d.state = .idle ∨ d.state = .entering) :
    effective cfg d = (d.baseline.ind / 16, d.baseline.cap / 16) := by
  rcases h with h | h <;> simp [effective, h, PerChan.map]

/-- In PRESENT and GAP they are compensated from the freeze values (R91, R129). -/
theorem effective_frozen {z : Freeze} (h : d.state = .present ∨ d.state = .gap) (hz : d.freeze = some z) :
    effective cfg d = (compensated cfg.refWeight z.ind (d.baseline.ref / 16) z.ref,
      compensated cfg.refWeight z.cap (d.baseline.ref / 16) z.ref) := by
  rcases h with h | h <;> simp [effective, h, hz, PerChan.map]

end Sys2Proof.Machine

namespace Sys2Proof.Proofs
open Sys2Proof.Machine

/-- Settles O45: the moves of the counts and of the baselines, and then the deltas. -/
theorem filterAndBaselineStayInRange : Obligations.FilterAndBaselineStayInRange := by
  refine ⟨fun cfg st old raw k f b base filt => ?moves, fun cfg d raw x hx => ?deltas⟩
  case moves =>
    obtain ⟨hlow, hhigh⟩ := moveToward_between old raw k
    refine ⟨moveToward_eq old raw k, moveToward_zero old raw, hlow, hhigh, ?_, stepBaseline_le, fun h c => ?_,
      fun h c => stepBaselines_all h base filt c, fun h => ?_, fun hcount hsettle =>
        stepBaselines_none hcount hsettle base filt⟩
    · rcases Nat.lt_or_ge ((f : Int) - ((b / 16 : Nat) : Int)).natAbs cfg.fastBand with h | h
      · exact .inl ⟨h, by rw [stepBaseline_near h, moveToward_eq]; simp⟩
      · exact .inr ⟨h, by rw [stepBaseline_far h, moveToward_eq]; simp⟩
    · obtain ⟨hbase, hfilt⟩ := h c
      rcases stepBaselines_get cfg st base filt c with hc | hc <;> rw [hc]
      · exact stepBaseline_le hbase hfilt
      · exact hbase
    · rw [stepBaselines_ref h]
      exact ⟨rfl, rfl, rfl⟩
  case deltas =>
    subst hx
    refine ⟨filterCounts_get _ _ _, rfl, rfl, rfl, fun h => ?_, fun z h hz => ?_⟩
    · simp only [deltasOf, effective_plain h, and_self]
    · simp only [deltasOf, effective_frozen h hz, compensated_eq, and_self]

end Sys2Proof.Proofs
end

section
/-! SUPPORT. Stage 4 of a processed sample, branch by branch (R92 to R101, R128, R130). -/
namespace Sys2Proof.Machine

variable {cfg : LaneSettings} {d : Detector} {x : Deltas} {q : Pass} {raw : PerChan Nat}

/-! ### IDLE and ENTERING (R92 to R94) -/

theorem detect_idle (h : d.state = .idle) (raw : PerChan Nat) :
    detect cfg d raw = sampleIdle cfg (d.track cfg raw) (deltasOf cfg (d.track cfg raw)) := by
  simp [detect, h]

theorem detect_entering (h : d.state = .entering) (raw : PerChan Nat) :
    detect cfg d raw = sampleEntering cfg (d.track cfg raw) (deltasOf cfg (d.track cfg raw)) := by
  simp [detect, h]

theorem detect_present (h : d.state = .present) (raw : PerChan Nat) :
    detect cfg d raw = samplePresent cfg (d.track cfg raw) (deltasOf cfg (d.track cfg raw)) := by
  simp [detect, h]

theorem detect_gap (h : d.state = .gap) (raw : PerChan Nat) :
    detect cfg d raw = sampleGap cfg (d.track cfg raw) (deltasOf cfg (d.track cfg raw)) := by
  simp [detect, h]

theorem sampleIdle_waits (h : entryCond cfg x = false) : sampleIdle cfg d x = { detector := d } := by
  simp [sampleIdle, h]

/-- The measurements with which an IDLE sample opens an entry (R92). -/
def entryPass (cfg : LaneSettings) (x : Deltas) : Pass :=
  { primary := some (primaryOf cfg x), entryCount := 1, peakInd := x.ind.toNat, peakCap := x.cap.toNat }

theorem sampleIdle_enters (h : entryCond cfg x = true) (hlen : 1 < cfg.entryLen) :
    sampleIdle cfg d x = { detector := { d with state := .entering, pass := entryPass cfg x } } := by
  simp [sampleIdle, h, Nat.not_le.mpr hlen, entryPass]

theorem sampleIdle_begins (h : entryCond cfg x = true) (hlen : cfg.entryLen ≤ 1) :
    sampleIdle cfg d x = { detector := d.beginPass cfg (entryPass cfg x) } := by
  simp [sampleIdle, h, hlen, entryPass]

/-- The count of the channel that opens an entry (R92, R94). -/
theorem primaryCount_entryPass (cfg : LaneSettings) (x : Deltas) (f : PerChan Nat) :
    primaryCount (entryPass cfg x) f = if (cfg.tInInd : Int) ≤ x.ind then f.ind else f.cap := by
  unfold primaryCount entryPass Pass.channel primaryOf
  split <;> rfl

theorem sampleEntering_discards (h : entryCond cfg x = false) : sampleEntering cfg d x =
    { detector := { d with state := .idle, pass := {} }, event := .discarded } := by
  simp [sampleEntering, h]

/-- The measurements of an entry after one more sample of it (R93). -/
def enteredPass (d : Detector) (x : Deltas) : Pass :=
  { d.pass.raisePeaks x with entryCount := d.pass.entryCount + 1 }

theorem sampleEntering_counts (h : entryCond cfg x = true) (hlen : d.pass.entryCount + 1 < cfg.entryLen) :
    sampleEntering cfg d x = { detector := { d with pass := enteredPass d x } } := by
  simp [sampleEntering, h, Nat.not_le.mpr hlen, enteredPass]

theorem sampleEntering_begins (h : entryCond cfg x = true) (hlen : cfg.entryLen ≤ d.pass.entryCount + 1) :
    sampleEntering cfg d x = { detector := d.beginPass cfg (enteredPass d x) } := by
  simp [sampleEntering, h, hlen, enteredPass]

/-! ### What a PRESENT sample measures (R95, R96) -/

/-- The measurements of a PRESENT sample before its snapshot: peaks, dwell and activation average. -/
def averagedPass (cfg : LaneSettings) (d : Detector) (x : Deltas) : Pass :=
  { d.pass.raisePeaks x with
    dwell := raise16 d.pass.dwell
    average := moveToward d.pass.average (d.filtered.get d.pass.channel) cfg.gamma }

theorem primaryDelta_eq (q : Pass) (x : Deltas) :
    primaryDelta q x = if q.channel = .cap then x.cap else x.ind := by
  unfold primaryDelta
  cases q.channel <;> rfl

theorem primaryThreshold_eq (cfg : LaneSettings) (q : Pass) :
    primaryThreshold cfg q = if q.channel = .cap then cfg.tInCap else cfg.tInInd := by
  unfold primaryThreshold
  cases q.channel <;> rfl

/-- The step of the snapshot, on the measurements before it. -/
theorem measurePresent_eq (cfg : LaneSettings) (d : Detector) (x : Deltas) : measurePresent cfg d x =
    if d.pass.snapshot.isSome then averagedPass cfg d x
    else if ((d.filtered.get d.pass.channel : Int) - ((averagedPass cfg d x).average : Int)).natAbs
        ≤ cfg.settleBand then
      if cfg.settleLen ≤ d.pass.settleRun + 1 ∧
          (primaryThreshold cfg d.pass : Int) ≤ primaryDelta d.pass x then
        { averagedPass cfg d x with
          settleRun := 0, snapshot := some (primaryDelta d.pass x).toNat
          theta := some ((primaryDelta d.pass x).toNat * cfg.splitRatio / 128) }
      else { averagedPass cfg d x with settleRun := min cfg.settleLen (d.pass.settleRun + 1) }
    else { averagedPass cfg d x with settleRun := 0 } := by
  rw [← distance_eq]
  simp only [← min_eq_left_iff (a := cfg.settleLen)]
  unfold measurePresent averagedPass Pass.raisePeaks
  dsimp only
  cases d.pass.snapshot <;> rfl

theorem measurePresent_kept (h : d.pass.snapshot.isSome = true) :
    measurePresent cfg d x = averagedPass cfg d x := by
  rw [measurePresent_eq, if_pos h]

theorem measurePresent_restless (h : d.pass.snapshot = none) (hband : cfg.settleBand <
      ((d.filtered.get d.pass.channel : Int) - ((averagedPass cfg d x).average : Int)).natAbs) :
    measurePresent cfg d x = { averagedPass cfg d x with settleRun := 0 } := by
  rw [measurePresent_eq, if_neg (by simp [h]), if_neg (Nat.not_le.mpr hband)]

section
variable (h : d.pass.snapshot = none)
  (hband : ((d.filtered.get d.pass.channel : Int) - ((averagedPass cfg d x).average : Int)).natAbs
    ≤ cfg.settleBand)
include h hband

/-- A run of quiet samples long enough takes the snapshot (R96). -/
theorem measurePresent_takes (hrun : cfg.settleLen ≤ d.pass.settleRun + 1)
    (hhigh : (primaryThreshold cfg d.pass : Int) ≤ primaryDelta d.pass x) : measurePresent cfg d x =
      { averagedPass cfg d x with
        settleRun := 0, snapshot := some (primaryDelta d.pass x).toNat
        theta := some ((primaryDelta d.pass x).toNat * cfg.splitRatio / 128) } := by
  rw [measurePresent_eq, if_neg (by simp [h]), if_pos hband, if_pos ⟨hrun, hhigh⟩]

theorem measurePresent_counts (hrun : d.pass.settleRun + 1 < cfg.settleLen ∨
      primaryDelta d.pass x < (primaryThreshold cfg d.pass : Int)) : measurePresent cfg d x =
      { averagedPass cfg d x with settleRun := min cfg.settleLen (d.pass.settleRun + 1) } := by
  rw [measurePresent_eq, if_neg (by simp [h]), if_pos hband]
  refine if_neg fun ⟨hlen, hhigh⟩ => ?_
  rcases hrun with hrun | hrun
  · exact absurd hlen (Nat.not_le.mpr hrun)
  · exact absurd hhigh (Int.not_le.mpr hrun)

end

/-- Whatever becomes of the snapshot, the rest is as before it (R95). -/
theorem measurePresent_rest (cfg : LaneSettings) (d : Detector) (x : Deltas) :
    ∃ k h z, measurePresent cfg d x =
      { averagedPass cfg d x with settleRun := k, snapshot := h, theta := z } := by
  rw [measurePresent_eq]
  split
  · exact ⟨_, _, _, rfl⟩
  · split
    · split
      · exact ⟨_, _, _, rfl⟩
      · exact ⟨_, _, _, rfl⟩
    · exact ⟨_, _, _, rfl⟩

/-! ### PRESENT (R97 to R99) -/

/-- The measurements of a PRESENT sample with its exit count (R98). -/
def presentPass (cfg : LaneSettings) (d : Detector) (x : Deltas) : Pass :=
  { measurePresent cfg d x with exitCount := exitCountAfter cfg x (measurePresent cfg d x).exitCount }

theorem presentPass_rest (cfg : LaneSettings) (d : Detector) (x : Deltas) :
    (presentPass cfg d x).primary = d.pass.primary ∧
    (presentPass cfg d x).entryCount = d.pass.entryCount ∧ (presentPass cfg d x).fmin = d.pass.fmin ∧
    (presentPass cfg d x).dwell = min 65535 (d.pass.dwell + 1) ∧
    (presentPass cfg d x).peakInd = max d.pass.peakInd x.ind.toNat ∧
    (presentPass cfg d x).peakCap = max d.pass.peakCap x.cap.toNat ∧
    (presentPass cfg d x).average =
      moveToward d.pass.average (d.filtered.get d.pass.channel) cfg.gamma ∧
    (presentPass cfg d x).exitCount = if exitCond cfg x then d.pass.exitCount + 1 else 0 := by
  obtain ⟨k, h, z, hq⟩ := measurePresent_rest cfg d x
  rw [presentPass, hq]
  exact ⟨rfl, rfl, rfl, rfl, rfl, rfl, rfl, rfl⟩

theorem jamNow_iff (cfg : LaneSettings) (flag : Bool) (dwell : Nat) :
    jamNow cfg flag dwell = true ↔ flag = false ∧ cfg.jamLimit ≠ 0 ∧ cfg.jamLimit ≤ dwell := by
  simp [jamNow, and_assoc]

/-- The detector with the measurements of a PRESENT sample and its jam flag (R97). -/
def Detector.present (cfg : LaneSettings) (d : Detector) (x : Deltas) : Detector :=
  { d with pass := presentPass cfg d x, jam := d.jam || jamNow cfg d.jam (presentPass cfg d x).dwell }

theorem samplePresent_exits (h : exitCond cfg x = true)
    (hlen : cfg.exitLen ≤ (presentPass cfg d x).exitCount) : samplePresent cfg d x =
      { detector := (d.present cfg x).unfreeze x, event := .resolved .exit (presentPass cfg d x)
        jam := jamNow cfg d.jam (presentPass cfg d x).dwell } :=
  if_pos (by rw [Bool.and_eq_true, decide_eq_true_eq]; exact ⟨h, hlen⟩)

section
variable (h : exitCond cfg x = false ∨ (presentPass cfg d x).exitCount < cfg.exitLen)
include h

theorem samplePresent_no_exit :
    ¬ (exitCond cfg x && decide (cfg.exitLen ≤ (presentPass cfg d x).exitCount)) = true := by
  rw [Bool.and_eq_true, decide_eq_true_eq]
  rintro ⟨hcond, hlen⟩
  rcases h with h | h
  · rw [h] at hcond
    cases hcond
  · exact absurd hlen (Nat.not_le.mpr h)

theorem samplePresent_splits (hsplit : (cfg.splitEnable && d.pass.snapshot.isSome &&
      splitCond (presentPass cfg d x) (primaryCount (presentPass cfg d x) d.filtered)) = true) :
    samplePresent cfg d x =
      { detector := { d.present cfg x with
          state := .gap
          pass := gapPass (presentPass cfg d x) (primaryCount (presentPass cfg d x) d.filtered) }
        event := .resolved .split (presentPass cfg d x)
        jam := jamNow cfg d.jam (presentPass cfg d x).dwell } :=
  (if_neg (samplePresent_no_exit h)).trans (if_pos hsplit)

theorem samplePresent_stays (hsplit : ¬ (cfg.splitEnable && d.pass.snapshot.isSome &&
      splitCond (presentPass cfg d x) (primaryCount (presentPass cfg d x) d.filtered)) = true) :
    samplePresent cfg d x =
      { detector := d.present cfg x, jam := jamNow cfg d.jam (presentPass cfg d x).dwell } :=
  (if_neg (samplePresent_no_exit h)).trans (if_neg hsplit)

end

theorem samplePresent_jam (cfg : LaneSettings) (d : Detector) (x : Deltas) :
    (samplePresent cfg d x).jam = jamNow cfg d.jam (presentPass cfg d x).dwell ∧
    (samplePresent cfg d x).detector.jam =
      (d.jam || jamNow cfg d.jam (presentPass cfg d x).dwell) := by
  unfold samplePresent
  dsimp only
  split
  · exact ⟨rfl, rfl⟩
  · split
    · exact ⟨rfl, rfl⟩
    · exact ⟨rfl, rfl⟩

theorem presentPass_count (cfg : LaneSettings) (d : Detector) (x : Deltas) :
    primaryCount (presentPass cfg d x) d.filtered = d.filtered.get d.pass.channel := by
  obtain ⟨hprimary, -⟩ := presentPass_rest cfg d x
  rw [primaryCount, Pass.channel, hprimary, Pass.channel]

theorem presentPass_theta (h : d.pass.snapshot.isSome = true) :
    (presentPass cfg d x).theta = d.pass.theta := by
  rw [presentPass, measurePresent_kept h]
  rfl

/-- The split test, on a snapshot taken at an earlier sample (R99). -/
theorem splits_iff (cfg : LaneSettings) (d : Detector) (x : Deltas) :
    (cfg.splitEnable && d.pass.snapshot.isSome &&
      splitCond (presentPass cfg d x) (primaryCount (presentPass cfg d x) d.filtered)) = true ↔
    SplitHolds cfg d (presentPass cfg d x).average (d.filtered.get d.pass.channel) := by
  rw [presentPass_count, Bool.and_eq_true, Bool.and_eq_true, and_assoc]
  refine and_congr_right fun _ => and_congr_right fun hsome => ?_
  simp [splitCond, presentPass_theta hsome, Option.any_eq_true]

/-- The measurements with which a GAP begins (R99). -/
theorem gapPass_presentPass (h : d.pass.snapshot.isSome = true) :
    gapPass (presentPass cfg d x) (primaryCount (presentPass cfg d x) d.filtered) =
      { primary := d.pass.primary, dwell := (presentPass cfg d x).dwell, theta := d.pass.theta
        fmin := d.filtered.get d.pass.channel } := by
  obtain ⟨hprimary, -⟩ := presentPass_rest cfg d x
  rw [gapPass, presentPass_count, presentPass_theta h, hprimary]

/-! ### GAP (R100, R101) -/

/-- The measurements of a GAP sample. -/
def gapMeasured (cfg : LaneSettings) (d : Detector) (x : Deltas) : Pass :=
  { d.pass with
    dwell := raise16 d.pass.dwell, fmin := min d.pass.fmin (d.filtered.get d.pass.channel)
    exitCount := exitCountAfter cfg x d.pass.exitCount }

/-- The detector with the measurements of a GAP sample and its jam flag (R97, R100). -/
def Detector.inGap (cfg : LaneSettings) (d : Detector) (x : Deltas) : Detector :=
  { d with pass := gapMeasured cfg d x, jam := d.jam || jamNow cfg d.jam (raise16 d.pass.dwell) }

theorem sampleGap_exits (h : exitCond cfg x = true) (hlen : cfg.exitLen ≤ (gapMeasured cfg d x).exitCount) :
    sampleGap cfg d x =
      { detector := (d.inGap cfg x).unfreeze x, jam := jamNow cfg d.jam (raise16 d.pass.dwell) } :=
  if_pos (by rw [Bool.and_eq_true, decide_eq_true_eq]; exact ⟨h, hlen⟩)

section
variable (h : exitCond cfg x = false ∨ (gapMeasured cfg d x).exitCount < cfg.exitLen)
include h

theorem sampleGap_no_exit :
    ¬ (exitCond cfg x && decide (cfg.exitLen ≤ (gapMeasured cfg d x).exitCount)) = true := by
  rw [Bool.and_eq_true, decide_eq_true_eq]
  rintro ⟨hcond, hlen⟩
  rcases h with h | h
  · rw [h] at hcond
    cases hcond
  · exact absurd hlen (Nat.not_le.mpr h)

theorem sampleGap_rises (hrise : (gapMeasured cfg d x).fmin + d.pass.theta.getD 0 <
      d.filtered.get d.pass.channel) : sampleGap cfg d x =
      { detector := { d.inGap cfg x with
          state := .present, jam := false
          pass := risePass (gapMeasured cfg d x) x (d.filtered.get d.pass.channel) }
        jam := jamNow cfg d.jam (raise16 d.pass.dwell) } :=
  (if_neg (sampleGap_no_exit h)).trans (if_pos hrise)

theorem sampleGap_stays (hlow : d.filtered.get d.pass.channel ≤
      (gapMeasured cfg d x).fmin + d.pass.theta.getD 0) : sampleGap cfg d x =
      { detector := d.inGap cfg x, jam := jamNow cfg d.jam (raise16 d.pass.dwell) } :=
  (if_neg (sampleGap_no_exit h)).trans (if_neg (Nat.not_lt.mpr hlow))

end

theorem sampleGap_reports (cfg : LaneSettings) (d : Detector) (x : Deltas) :
    (sampleGap cfg d x).event = .nothing ∧
    (sampleGap cfg d x).jam = jamNow cfg d.jam (raise16 d.pass.dwell) := by
  unfold sampleGap
  dsimp only
  split
  · exact ⟨rfl, rfl⟩
  · split
    · exact ⟨rfl, rfl⟩
    · exact ⟨rfl, rfl⟩

end Sys2Proof.Machine

namespace Sys2Proof.Proofs
open Sys2Proof.Machine

/-- Settles O46, state by state and branch by branch. -/
theorem samplesMoveTheDetector : Obligations.SamplesMoveTheDetector := by
  intro cfg d raw x f u r hu hx hr hf
  subst hx hf
  have hpass : u.pass = d.pass := by rw [hu]; rfl
  have hjam : u.jam = d.jam := by rw [hu]; rfl
  refine ⟨fun hst hcond => ?waits, fun hst hcond => ?idle, fun hst hcond => ?discards,
    fun hst hcond => ?entering, fun hst => ?present, fun hst => ?gap⟩
  case waits =>
    rw [hr, detect_idle hst, ← hu, sampleIdle_waits hcond]
    exact ⟨rfl, rfl, rfl⟩
  case idle =>
    rw [detect_idle hst, ← hu] at hr
    rcases Nat.lt_or_ge 1 cfg.entryLen with hlen | hlen
    · rw [hr, sampleIdle_enters hcond hlen]
      exact ⟨rfl, rfl, fun _ => rfl, fun h => absurd h (Nat.not_le.mpr hlen)⟩
    · rw [hr, sampleIdle_begins hcond hlen]
      refine ⟨rfl, rfl, fun h => absurd hlen (Nat.not_le.mpr h), fun _ => ?_⟩
      rw [Detector.beginPass, primaryCount_entryPass]
      rfl
  case discards =>
    rw [hr, detect_entering hst, ← hu, sampleEntering_discards hcond]
    exact ⟨rfl, rfl, rfl⟩
  case entering =>
    rw [detect_entering hst, ← hu] at hr
    rw [← hpass]
    rcases Nat.lt_or_ge (u.pass.entryCount + 1) cfg.entryLen with hlen | hlen
    · rw [hr, sampleEntering_counts hcond hlen]
      exact ⟨rfl, rfl, fun _ => rfl, fun h => absurd h (Nat.not_le.mpr hlen)⟩
    · rw [hr, sampleEntering_begins hcond hlen]
      exact ⟨rfl, rfl, fun h => absurd hlen (Nat.not_le.mpr h), fun _ => rfl⟩
  case present =>
    rw [detect_present hst, ← hu] at hr
    generalize deltasOf cfg u = x at *
    have hsplits : SplitHolds cfg d = SplitHolds cfg u := by
      unfold SplitHolds
      rw [hpass]
    rw [← hpass, ← hjam, hsplits]
    obtain ⟨hprimary, hentry, hmin, hdwell, hind, hcap, haverage, hexit⟩ := presentPass_rest cfg u x
    obtain ⟨hreport, hflag⟩ := samplePresent_jam cfg u x
    refine ⟨presentPass cfg u x, hprimary, hentry, hmin, hdwell, hind, hcap, haverage, hexit,
      fun hsome => ?_, fun hnone hband => ?_,
      fun high hhigh hnone hband => ⟨fun hrun hle => ?_, fun hrun => ?_⟩, ?_, ?_, fun hcond hlen => ?_,
      fun hno => ⟨fun hsplit => ?_, fun hsplit => ?_⟩⟩
    · rw [presentPass, measurePresent_kept hsome]
      exact ⟨rfl, rfl, rfl⟩
    · rw [haverage] at hband
      rw [presentPass, measurePresent_restless hnone hband]
      exact ⟨hnone, rfl, rfl⟩
    · rw [haverage] at hband
      rw [← primaryThreshold_eq, hhigh, ← primaryDelta_eq] at hle
      rw [presentPass, measurePresent_takes hnone hband hrun hle, hhigh, ← primaryDelta_eq]
      exact ⟨rfl, rfl⟩
    · rw [haverage] at hband
      rw [← primaryThreshold_eq, hhigh, ← primaryDelta_eq] at hrun
      rw [presentPass, measurePresent_counts hnone hband hrun]
      exact ⟨hnone, rfl, rfl⟩
    · rw [hr, hreport]
      exact jamNow_iff ..
    · rw [hr, hreport, hflag]
    · rw [hr, samplePresent_exits hcond hlen]
      exact ⟨rfl, rfl⟩
    · have ⟨_, hsome, _⟩ := hsplit
      have hgap := gapPass_presentPass (cfg := cfg) (x := x) (d := u) hsome
      rw [hr, samplePresent_splits hno ((splits_iff ..).mpr hsplit), hgap]
      exact ⟨rfl, rfl⟩
    · rw [hr, samplePresent_stays hno fun h => hsplit ((splits_iff ..).mp h)]
      exact ⟨rfl, rfl⟩
  case gap =>
    rw [detect_gap hst, ← hu] at hr
    generalize deltasOf cfg u = x at *
    rw [← hpass, ← hjam]
    obtain ⟨hevent, hreport⟩ := sampleGap_reports cfg u x
    refine ⟨(gapMeasured cfg u x).fmin, (gapMeasured cfg u x).exitCount, rfl, rfl, by rw [hr, hevent], ?_,
      fun hcond hlen => ?_, fun hno => ⟨fun hrise => ?_, fun hlow => ?_⟩⟩
    · rw [hr, hreport]
      exact jamNow_iff ..
    · rw [hr, sampleGap_exits hcond hlen]
      rfl
    · rw [hr, sampleGap_rises hno hrise]
      rfl
    · rw [hr, sampleGap_stays hno hlow]
      rfl

end Sys2Proof.Proofs
end

section
/-! SUPPORT. The judgement of a complete answer (R151, R187, Table 10-12). -/
namespace Sys2Proof.Machine

variable {x : Turn} {chars : List AnswerChar}

theorem judge_framing (h : ∃ c ∈ chars, c.2 = false) : judge x chars = .miss .framing :=
  if_pos (by simpa using h)

section
variable (hframes : ∀ c ∈ chars, c.2 = true)
include hframes

theorem no_framing_error : ¬ chars.any (fun c => !c.2) = true := by simpa using hframes

theorem judge_crc (h : (chars.map (·.1)).getLast? ≠ some (crc (chars.map (·.1)).dropLast)) :
    judge x chars = .miss .crc :=
  (if_neg (no_framing_error hframes)).trans (if_pos h)

variable (hcrc : (chars.map (·.1)).getLast? = some (crc (chars.map (·.1)).dropLast))
include hcrc

theorem judge_address (h : (chars.map (·.1)).head? ≠ some (callByte x.kind x.lane)) :
    judge x chars = .miss .address :=
  (if_neg (no_framing_error hframes)).trans ((if_neg (not_not_intro hcrc)).trans (if_pos h))

variable (haddr : (chars.map (·.1)).head? = some (callByte x.kind x.lane))
include haddr

/-- An accepted SAMPLE answer: status, sequence and counts (Table 10-12). -/
theorem judge_sample (h : x.kind = .sample) : judge x chars =
    .accepted (answerStatus ((chars.map (·.1)).getD 2 0)) (field (chars.map (·.1)) 1 1)
      ⟨field (chars.map (·.1)) 3 2, field (chars.map (·.1)) 5 2, field (chars.map (·.1)) 7 2⟩ := by
  refine (if_neg (no_framing_error hframes)).trans
    ((if_neg (not_not_intro hcrc)).trans ((if_neg (not_not_intro haddr)).trans ?_))
  rw [h]

/-- An accepted answer to a CONFIG or TUNE call: its status alone (Table 10-12). -/
theorem judge_other (h : x.kind ≠ .sample) : judge x chars =
    .accepted (answerStatus ((chars.map (·.1)).getD 1 0)) 0 (.all 0) := by
  refine (if_neg (no_framing_error hframes)).trans
    ((if_neg (not_not_intro hcrc)).trans ((if_neg (not_not_intro haddr)).trans ?_))
  cases hk : x.kind
  · exact absurd hk h
  · rfl
  · rfl

end

/-- The status values of R187. -/
theorem answerStatus_cases (b : Byte) : (b = 1 → answerStatus b = .ready) ∧
    (b = 3 → answerStatus b = .tuning) ∧ (b = 4 → answerStatus b = .tuned) ∧
    (b = 5 → answerStatus b = .fresh) ∧
    (b ≠ 1 → b ≠ 3 → b ≠ 4 → b ≠ 5 → answerStatus b = .notReady) := by
  refine ⟨?_, ?_, ?_, ?_, fun h1 h3 h4 h5 => by
    rw [answerStatus, if_neg h1, if_neg h3, if_neg h4, if_neg h5]⟩ <;>
    rintro rfl <;> rfl

/-- The status read at a place where the answer has a byte. -/
theorem status_at {bytes : List Byte} {k : Nat} {b : Byte} (h : bytes[k]? = some b) :
    answerStatus (bytes.getD k 0) = answerStatus b := by
  rw [List.getD_eq_getElem?_getD, h]
  rfl

end Sys2Proof.Machine
end

section
/-! SUPPORT. What an accepted answer does to its lane, by its status, its turn and the lane's state (R106, R131,
R133, R135, R137, R149, R152, R153). -/
namespace Sys2Proof.Machine

variable {s : State} {n : Lane} {x : Turn} {st : AnswerStatus} {seq : Nat} {counts raw : PerChan Nat}

/-! ### The turn's kind and its staleness (R149) -/

theorem State.answer_fresh (s : State) (x : Turn) (seq : Nat) (counts : PerChan Nat) :
    s.applyVerdict x (.accepted .fresh seq counts) = s.freshAnswer x.lane := rfl

theorem State.answer_stale (hst : st ≠ .fresh) (h : x.stale = true) :
    s.applyVerdict x (.accepted st seq counts) = s := by
  cases st
  case fresh => exact absurd rfl hst
  all_goals exact if_pos h

/-- An answer without FRESH, in a turn that is not stale, is taken by the kind of its call. -/
theorem State.answer_kind (hst : st ≠ .fresh) (h : x.stale = false) :
    (x.kind = .sample → s.applyVerdict x (.accepted st seq counts) = s.sampleAnswer x st seq counts) ∧
    (x.kind = .config → s.applyVerdict x (.accepted st seq counts) = s.configAnswer x.lane) ∧
    (x.kind = .tune → s.applyVerdict x (.accepted st seq counts) = s.tuneAnswer x.lane st) := by
  cases st
  case fresh => exact absurd rfl hst
  all_goals simp +contextual [State.applyVerdict, h]

/-! ### FRESH (R153) -/

/-- The state in which a FRESH answer has cleared the link of its lane. -/
def State.linkRestarted (s : State) (n : Lane) : State :=
  s.setLink n { s.links.get n with lastSeq := none, missRun := 0 }

theorem State.freshAnswer_restarts (h : (s.detectors.get n).state ≠ .off) :
    s.freshAnswer n = (s.linkRestarted n).leaveTo n .restart Detector.configuring := if_neg h

theorem State.freshAnswer_off (h : (s.detectors.get n).state = .off) :
    s.freshAnswer n = s.linkRestarted n := if_pos h

/-- A FRESH answer clears the link of its lane in every state. -/
theorem State.freshAnswer_links (s : State) (n : Lane) : (s.freshAnswer n).links =
    s.links.set n { s.links.get n with lastSeq := none, missRun := 0 } := by
  by_cases h : (s.detectors.get n).state = .off
  · rw [State.freshAnswer_off h]
    simp [State.linkRestarted]
  · rw [State.freshAnswer_restarts h]
    simp [State.linkRestarted]

/-! ### Samples (R106, R137, R152) -/

theorem State.delivers_iff : s.delivers x st seq = true ↔ x.kind = .sample ∧ x.stale = false ∧
    receives (s.detectors.get x.lane).state = true ∧ st = .ready ∧
    (s.links.get x.lane).lastSeq ≠ some seq := by
  simp [State.delivers, and_assoc]

/-- The state in which a fresh sample has set the link of its lane. -/
def State.linkSampled (s : State) (n : Lane) (seq : Nat) : State :=
  s.setLink n { s.links.get n with lastSeq := some seq, missRun := 0 }

theorem State.sampleAnswer_delivers (h : s.delivers x st seq = true) :
    s.sampleAnswer x st seq counts = (s.linkSampled x.lane seq).freshSample x.lane counts := if_pos h

theorem State.sampleAnswer_nothing (h : s.delivers x st seq = false)
    (htune : ¬ ((s.detectors.get x.lane).state = .tuning ∧ (s.detectors.get x.lane).tuneAck = true)) :
    s.sampleAnswer x st seq counts = s := by
  simp only [State.sampleAnswer, h, Bool.false_eq_true, if_false]
  exact if_neg htune

theorem State.not_delivers_tuning (h : (s.detectors.get x.lane).state = .tuning) :
    s.delivers x st seq = false := by
  simp [State.delivers, h, receives]

theorem State.sampleAnswer_trims (h : (s.detectors.get x.lane).state = .tuning)
    (hack : (s.detectors.get x.lane).tuneAck = true) (hst : st ≠ .tuned) :
    s.sampleAnswer x st seq counts = s.raiseTuneCount x.lane := by
  simp [State.sampleAnswer, State.not_delivers_tuning h, h, hack, hst]

theorem State.sampleAnswer_band (h : (s.detectors.get x.lane).state = .tuning)
    (hack : (s.detectors.get x.lane).tuneAck = true) : s.sampleAnswer x .tuned seq counts =
      (s.setLink x.lane { s.links.get x.lane with lastSeq := some seq }).bandCheck x.lane counts := by
  simp [State.sampleAnswer, State.not_delivers_tuning h, h, hack]

theorem State.freshSample_settles (h : (s.detectors.get n).state = .settling) : s.freshSample n raw =
    s.moveLane n (settleSample (s.settings.lanes.get n) { s.detectors.get n with lastRaw := raw } raw) := by
  simp [State.freshSample, h]

theorem State.freshSample_recovers (h : (s.detectors.get n).state = .lost) : s.freshSample n raw =
    s.moveLane n (lostSample (s.settings.lanes.get n) { s.detectors.get n with lastRaw := raw } raw) := by
  simp [State.freshSample, h]

theorem State.freshSample_counts (h : (s.detectors.get n).state.counting = true) : s.freshSample n raw =
    (s.setDetector n { s.detectors.get n with lastRaw := raw }).countingSample n raw := by
  unfold State.freshSample
  dsimp only
  split
  case h_3 | h_4 | h_5 | h_6 => rfl
  all_goals simp_all [LaneState.counting]

/-- A sample in SETTLING: the first two stages, counted toward Z (R137). -/
theorem settleSample_eq (cfg : LaneSettings) {d : Detector} (h : d.state = .settling) (raw : PerChan Nat) :
    settleSample cfg { d with lastRaw := raw } raw = { d with
      lastRaw := raw
      filtered := filterCounts cfg.alpha d.filtered raw
      baseline := ⟨stepBaseline cfg d.baseline.ind (filterCounts cfg.alpha d.filtered raw).ind,
        stepBaseline cfg d.baseline.cap (filterCounts cfg.alpha d.filtered raw).cap,
        stepBaseline cfg d.baseline.ref (filterCounts cfg.alpha d.filtered raw).ref⟩
      state := if cfg.settleSamples ≤ d.settleCount + 1 then .idle else .settling
      settleCount := if cfg.settleSamples ≤ d.settleCount + 1 then 0 else d.settleCount + 1 } := by
  unfold settleSample Detector.track
  rw [h]
  dsimp only [stepBaselines]
  split
  · rfl
  · simp

/-! ### CONFIG and TUNE (R131, R133) -/

theorem State.configAnswer_tunes (h : (s.detectors.get n).state = .configuring) :
    s.configAnswer n = s.moveLane n (s.detectors.get n).tuning := if_pos h

theorem State.configAnswer_nothing (h : (s.detectors.get n).state ≠ .configuring) :
    s.configAnswer n = s := if_neg h

theorem State.tuneAnswer_nothing (h : (s.detectors.get n).state ≠ .tuning) : s.tuneAnswer n st = s := if_pos h

theorem State.tuneAnswer_acknowledges (h : (s.detectors.get n).state = .tuning) : s.tuneAnswer n .tuning =
    s.setDetector n { s.detectors.get n with tuneAck := true, tuneCount := 0 } := by
  simp [State.tuneAnswer, h]

theorem State.tuneAnswer_trims (h : (s.detectors.get n).state = .tuning) (hst : st ≠ .tuning) :
    s.tuneAnswer n st = s.raiseTuneCount n := by
  simp [State.tuneAnswer, h, hst]

/-- A tune count that reaches 255 ends the tune (R134). -/
theorem State.raiseTuneCount_limit (h : (s.detectors.get n).state = .tuning)
    (hlimit : 254 ≤ (s.detectors.get n).tuneCount) :
    (s.raiseTuneCount n).detectors.get n = { s.detectors.get n with
      tuneCount := min 255 ((s.detectors.get n).tuneCount + 1), state := .tuneFailed
      tuneFailure := some ⟨.limit, .all false⟩ } ∧
    (s.raiseTuneCount n).Flagged .lane .tuneError ∧ (s.raiseTuneCount n).Flagged .lane .laneState := by
  generalize hd : Detector.tuneFailed { s.detectors.get n with
    tuneCount := min 255 ((s.detectors.get n).tuneCount + 1) } ⟨.limit, .all false⟩ = d
  have heq : s.raiseTuneCount n = (s.moveLane n d).raise .lane .tuneError := by
    rw [← hd]
    exact if_pos (by omega)
  have hflag : (s.moveLane n d).Flagged .lane .laneState := by
    rw [State.moveLane, h, ← hd]
    exact State.raise_flagged _ .lane .laneState
  rw [heq]
  exact ⟨by simp [← hd, Detector.tuneFailed], State.raise_flagged _ .lane .tuneError,
    State.raise_keeps hflag .lane .tuneError⟩

/-! ### The band check (R135) -/

/-- The channels of a TUNED answer outside the band of their targets. -/
def outOfBand (sent : PerChan Nat) (band : Nat) (counts : PerChan Nat) : PerChan Bool :=
  ⟨!inBand sent.ind band counts.ind, !inBand sent.cap band counts.cap, !inBand sent.ref band counts.ref⟩

theorem outOfBand_get (sent : PerChan Nat) (band : Nat) (counts : PerChan Nat) (c : Chan) :
    (outOfBand sent band counts).get c = !inBand (sent.get c) band (counts.get c) := by cases c <;> rfl

theorem State.bandCheck_passes {sent : PerChan Nat} (hsent : (s.detectors.get n).targetsSent = some sent)
    (h : ∀ c, inBand (sent.get c) (s.settings.lanes.get n).tuneBand (counts.get c) = true) :
    s.bandCheck n counts = s.moveLane n { s.detectors.get n with
      state := .settling, baseline := counts.map (16 * ·), filtered := counts, lastRaw := counts
      settleCount := 0, tuneAck := false, tuneCount := 0, targetsSent := none } := by
  have hi := h .ind
  have hc := h .cap
  have hr := h .ref
  simp only [PerChan.get] at hi hc hr
  simp [State.bandCheck, hsent, hi, hc, hr]

theorem State.bandCheck_fails {sent : PerChan Nat} (hsent : (s.detectors.get n).targetsSent = some sent)
    (h : ∃ c, inBand (sent.get c) (s.settings.lanes.get n).tuneBand (counts.get c) = false) :
    s.bandCheck n counts = (s.moveLane n ((s.detectors.get n).tuneFailed
      ⟨.band, outOfBand sent (s.settings.lanes.get n).tuneBand counts⟩)).raise .lane .tuneError := by
  unfold State.bandCheck
  dsimp only
  rw [hsent]
  refine if_pos ?_
  obtain ⟨c, hc⟩ := h
  cases c <;> simp only [PerChan.get] at hc <;> simp [hc]

end Sys2Proof.Machine
end

section
/-! SUPPORT. The end of a turn by an accepted answer: what it counts, and what it leaves beside a sample processed
(R111, R152 to R157). -/
namespace Sys2Proof.Machine

variable {s b t u : State} {n : Lane} {x : Turn} {st : AnswerStatus} {seq : Nat} {counts raw : PerChan Nat}

/-! ### What an accepted answer counts, before it is applied (R155 to R158) -/

/-- The figures that an accepted answer counts: its statistic and the end of the silence. -/
structure State.AnswerCounted (s b : State) (x : Turn) (st : AnswerStatus) (seq : Nat)
    (counts : PerChan Nat) : Prop where
  link : b.links.get x.lane = { s.links.get x.lane with
    stats := (s.links.get x.lane).stats.afterTurn x (s.detectors.get x.lane).state
      (s.links.get x.lane).lastSeq (.accepted st seq counts)
    silentRun := 0, silentOpen := false }
  links : ∀ m, m ≠ x.lane → b.links.get m = s.links.get m
  detectors : b.detectors = s.detectors
  strays : b.strays = s.strays
  settings : b.settings = s.settings
  openDocket : b.openDocket = s.openDocket
  faults : SameFaults s b
  beside : s.Beside b x.lane
  phases : SamePhases s b

theorem State.counted_accepted (s : State) (x : Turn) (st : AnswerStatus) (seq : Nat) (counts : PerChan Nat) :
    s.AnswerCounted (s.counted x (.accepted st seq counts)) x st seq counts :=
  ⟨by simp [State.counted, State.countTurn, State.silence, State.missRunAfter],
    fun m hm => by simp [State.counted, State.countTurn, State.silence, State.missRunAfter, hm],
    rfl, rfl, rfl, rfl, ⟨rfl, rfl⟩,
    ((State.Beside.setTurn s none x.lane).trans (.setLink _ x.lane x.lane _)).trans (.setLink _ x.lane x.lane _),
    fun _ => ⟨rfl, rfl, rfl⟩⟩

theorem State.AnswerCounted.work (h : s.AnswerCounted b x st seq counts) : s.LaneWork b x.lane :=
  .of_steady h.beside.before.steady
    (fun m hm => ⟨by rw [h.detectors], h.links m hm, by rw [h.strays]⟩)
    (fun num _ => State.docket?_congr h.beside.dockets num) h.phases

/-! ### An answer on a lane that does not count -/

/-- Work on a lane beside its dockets that leaves it neither in PRESENT nor, from another state, in OFF. -/
structure State.Unbooked (s t : State) (n : Lane) : Prop where
  beside : s.Beside t n
  passless : (t.detectors.get n).state ≠ .present
  off : (s.detectors.get n).state ≠ .off → (t.detectors.get n).state ≠ .off

theorem State.Unbooked.refl (h : (s.detectors.get n).state.counting = false) : s.Unbooked s n :=
  ⟨.refl s n, fun hp => (by rw [hp] at h; cases h), id⟩

theorem State.Unbooked.setDetector {d : Detector} (h : d.lastOutcome = (s.detectors.get n).lastOutcome)
    (hp : d.state ≠ .present) (hoff : d.state ≠ .off) : s.Unbooked (s.setDetector n d) n :=
  ⟨.setDetector s n n h, by simpa using hp, fun _ => by simpa using hoff⟩

theorem State.Unbooked.moveLane {d : Detector} (h : d.lastOutcome = (s.detectors.get n).lastOutcome)
    (hp : d.state ≠ .present) (hoff : d.state ≠ .off) : s.Unbooked (s.moveLane n d) n :=
  ⟨.moveLane s n n h, by simpa using hp, fun _ => by simpa using hoff⟩

theorem State.Unbooked.setLink {l : LaneLink} (h : (s.setLink n l).Unbooked t n) : s.Unbooked t n :=
  ⟨(State.Beside.setLink s n n l).trans h.beside, h.passless, h.off⟩

theorem State.Unbooked.raise (h : s.Unbooked t n) (p : Port) (e : Event) : s.Unbooked (t.raise p e) n :=
  ⟨h.beside.trans (.raise t p e n), h.passless, h.off⟩

theorem State.Unbooked.raiseTuneCount (h : (s.detectors.get n).state = .tuning) :
    s.Unbooked (s.raiseTuneCount n) n := by
  unfold State.raiseTuneCount
  dsimp only
  split
  · refine State.Unbooked.raise ?_ .lane .tuneError
    exact .moveLane rfl nofun nofun
  · exact .setDetector rfl (by simp [h]) (by simp [h])

theorem State.Unbooked.bandCheck (s : State) (n : Lane) (counts : PerChan Nat) :
    s.Unbooked (s.bandCheck n counts) n := by
  unfold State.bandCheck
  dsimp only
  split
  · refine State.Unbooked.raise ?_ .lane .tuneError
    exact .moveLane rfl nofun nofun
  · exact .moveLane rfl nofun nofun

/-- A fresh sample of a lane that does not count: SETTLING or LOST receives one (R106, R137). -/
theorem State.Unbooked.freshSample (hr : receives (s.detectors.get n).state = true)
    (hcount : (s.detectors.get n).state.counting = false) (raw : PerChan Nat) :
    s.Unbooked (s.freshSample n raw) n := by
  cases hst : (s.detectors.get n).state <;> rw [hst] at hr hcount
  case settling =>
    rw [State.freshSample_settles hst, settleSample_eq _ hst]
    refine .moveLane rfl ?_ ?_
    · dsimp only
      split <;> nofun
    · dsimp only
      split <;> nofun
  case lost =>
    rw [State.freshSample_recovers hst]
    unfold lostSample
    dsimp only
    split
    · exact .moveLane rfl nofun nofun
    · exact .moveLane rfl (by simp [hst]) (by simp [hst])
  case idle | entering | present | gap => cases hcount
  case off | configuring | tuning | tuneFailed => cases hr

/-- An answer without FRESH to a lane that does not count stays beside the dockets. -/
theorem State.Unbooked.answer (hst : st ≠ .fresh) (hcount : (s.detectors.get x.lane).state.counting = false) :
    s.Unbooked (s.applyVerdict x (.accepted st seq counts)) x.lane := by
  cases hstale : x.stale
  case true => rw [State.answer_stale hst hstale]; exact .refl hcount
  obtain ⟨hsample, hconfig, htune⟩ := State.answer_kind (s := s) (seq := seq) (counts := counts) hst hstale
  cases hk : x.kind
  case sample =>
    rw [hsample hk]
    cases hdel : s.delivers x st seq
    case true =>
      obtain ⟨-, -, hr, -⟩ := State.delivers_iff.mp hdel
      rw [State.sampleAnswer_delivers hdel]
      exact State.Unbooked.setLink (.freshSample (by exact hr) (by exact hcount) counts)
    by_cases htuning : (s.detectors.get x.lane).state = .tuning ∧ (s.detectors.get x.lane).tuneAck = true
    · obtain ⟨htuning, hack⟩ := htuning
      by_cases htuned : st = .tuned
      · rw [htuned, State.sampleAnswer_band htuning hack]
        exact State.Unbooked.setLink (.bandCheck ..)
      · rw [State.sampleAnswer_trims htuning hack htuned]
        exact .raiseTuneCount htuning
    · rw [State.sampleAnswer_nothing hdel htuning]
      exact .refl hcount
  case config =>
    rw [hconfig hk]
    by_cases hc : (s.detectors.get x.lane).state = .configuring
    · rw [State.configAnswer_tunes hc]
      exact .moveLane rfl nofun nofun
    · rw [State.configAnswer_nothing hc]
      exact .refl hcount
  case tune =>
    rw [htune hk]
    by_cases ht : (s.detectors.get x.lane).state = .tuning
    · by_cases hack : st = .tuning
      · rw [hack, State.tuneAnswer_acknowledges ht]
        exact .setDetector rfl (by simp [ht]) (by simp [ht])
      · rw [State.tuneAnswer_trims ht hack]
        exact .raiseTuneCount ht
    · rw [State.tuneAnswer_nothing ht]
      exact .refl hcount

/-! ### An answer that brings nothing, and one that brings a sample to a lane that counts -/

theorem LaneState.counting_receives {a : LaneState} (h : a.counting = true) : receives a = true := by
  cases a
  case idle | entering | present | gap => rfl
  all_goals cases h

/-- An answer without FRESH that delivers no sample leaves a lane in service as it was (R149, R152). -/
theorem State.answer_nothing (hst : st ≠ .fresh) (hdel : s.delivers x st seq = false)
    (hconfig : x.kind = .config → (s.detectors.get x.lane).state ≠ .configuring)
    (htune : (s.detectors.get x.lane).state ≠ .tuning) :
    s.applyVerdict x (.accepted st seq counts) = s := by
  cases hstale : x.stale
  case true => exact State.answer_stale hst hstale
  obtain ⟨ksample, kconfig, ktune⟩ := State.answer_kind (s := s) (seq := seq) (counts := counts) hst hstale
  cases hk : x.kind
  case sample => rw [ksample hk, State.sampleAnswer_nothing hdel fun h => htune h.1]
  case config => rw [kconfig hk, State.configAnswer_nothing (hconfig hk)]
  case tune => rw [ktune hk, State.tuneAnswer_nothing htune]

theorem State.answer_delivers (hdel : s.delivers x st seq = true) : s.applyVerdict x (.accepted st seq counts) =
    (s.linkSampled x.lane seq).freshSample x.lane counts := by
  obtain ⟨hk, hstale, -, rfl, -⟩ := State.delivers_iff.mp hdel
  obtain ⟨ksample, -⟩ := State.answer_kind (s := s) (seq := seq) (counts := counts)
    (by decide : AnswerStatus.ready ≠ .fresh) hstale
  rw [ksample hk, State.sampleAnswer_delivers hdel]

/-- The state in which a lane that counts processes the sample of an answer. -/
def State.receiving (s : State) (n : Lane) (seq : Nat) (counts : PerChan Nat) : State :=
  (s.linkSampled n seq).setDetector n { s.detectors.get n with lastRaw := counts }

/-- A sample delivered to a lane that counts is processed (R89, R152). -/
theorem State.answer_counts (hdel : s.delivers x st seq = true)
    (hcount : (s.detectors.get x.lane).state.counting = true) : s.applyVerdict x (.accepted st seq counts) =
      (s.receiving x.lane seq counts).countingSample x.lane counts := by
  rw [State.answer_delivers hdel, State.freshSample_counts (by exact hcount)]
  rfl

/-- An answer without FRESH to a lane that counts brings a sample, or nothing. -/
theorem State.answer_counting (hst : st ≠ .fresh) (hcount : (s.detectors.get x.lane).state.counting = true) :
    s.delivers x st seq = true ∨ s.applyVerdict x (.accepted st seq counts) = s := by
  cases hdel : s.delivers x st seq
  case true => exact .inl rfl
  refine .inr (State.answer_nothing hst hdel (fun _ h => ?_) fun h => ?_) <;> rw [h] at hcount <;> cases hcount

/-! ### Where an answer leaves the lane -/

theorem State.answer_ne_off (h : (s.detectors.get x.lane).state ≠ .off) :
    ((s.applyVerdict x (.accepted st seq counts)).detectors.get x.lane).state ≠ .off := by
  by_cases hfresh : st = .fresh
  · rw [hfresh, State.answer_fresh, State.freshAnswer_restarts h]
    obtain ⟨o, ho, -⟩ := (s.linkRestarted x.lane).leaveTo_detector x.lane .restart Detector.configuring
    rw [ho]
    exact nofun
  cases hcount : (s.detectors.get x.lane).state.counting
  case false => exact (State.Unbooked.answer hfresh hcount).off h
  rcases State.answer_counting (seq := seq) (counts := counts) hfresh hcount with hdel | hsame
  · rw [State.answer_counts hdel hcount]
    rcases (s.receiving x.lane seq counts).countingSample_state x.lane counts rfl with ⟨hs, -⟩ | ⟨-, hs⟩
    all_goals rw [hs]
    · exact LaneState.counting_ne_off (detect_after _ (by simpa [State.receiving] using hcount) counts).counting
    · decide
  · rwa [hsame]

/-- No answer takes a lane out of OFF (log entry 6). -/
theorem State.answer_off (h : (s.detectors.get x.lane).state = .off) :
    (s.applyVerdict x (.accepted st seq counts)).detectors = s.detectors := by
  by_cases hfresh : st = .fresh
  · rw [hfresh, State.answer_fresh, State.freshAnswer_off h]
    rfl
  · rw [State.answer_nothing hfresh (by simp [State.delivers, h, receives]) (fun _ => by simp [h]) (by simp [h])]

/-! ### What an answer leaves of the link and of the rest of the part -/

/-- An answer applied writes of its lane's link the miss run and the last fresh sequence alone. -/
theorem State.answer_links (s : State) (x : Turn) (st : AnswerStatus) (seq : Nat) (counts : PerChan Nat) :
    ∃ m q, (s.applyVerdict x (.accepted st seq counts)).links =
      s.links.set x.lane { s.links.get x.lane with missRun := m, lastSeq := q } := by
  have hsame : s.links = s.links.set x.lane { s.links.get x.lane with
      missRun := (s.links.get x.lane).missRun, lastSeq := (s.links.get x.lane).lastSeq } :=
    (PerLane.set_get s.links x.lane).symm
  by_cases hfresh : st = .fresh
  · refine ⟨0, none, ?_⟩
    rw [hfresh, State.answer_fresh, State.freshAnswer_links]
  cases hstale : x.stale
  case true => exact ⟨_, _, by rw [State.answer_stale hfresh hstale]; exact hsame⟩
  obtain ⟨hsample, hconfig, htune⟩ := State.answer_kind (s := s) (seq := seq) (counts := counts) hfresh hstale
  cases hk : x.kind
  case sample =>
    rw [hsample hk, State.sampleAnswer]
    dsimp only
    split
    · exact ⟨0, some seq, by simp⟩
    · split
      · split
        · exact ⟨(s.links.get x.lane).missRun, some seq, by simp⟩
        · exact ⟨_, _, by simpa using hsame⟩
      · exact ⟨_, _, hsame⟩
  case config => exact ⟨_, _, by rw [hconfig hk]; simpa using hsame⟩
  case tune => exact ⟨_, _, by rw [htune hk]; simpa using hsame⟩

theorem State.LaneWork.bandCheck (s : State) (n : Lane) (counts : PerChan Nat) :
    s.LaneWork (s.bandCheck n counts) n := by
  unfold State.bandCheck
  dsimp only
  split
  · exact (State.LaneWork.moveLane s n _).trans (.raise _ .lane .tuneError n)
  · exact .moveLane s n _

theorem State.LaneWork.freshSample (s : State) (n : Lane) (raw : PerChan Nat) :
    s.LaneWork (s.freshSample n raw) n := by
  unfold State.freshSample
  dsimp only
  split
  case h_1 | h_2 => exact .moveLane s n _
  case h_3 | h_4 | h_5 | h_6 => exact (State.LaneWork.setDetector s n _).trans (.countingSample _ n raw)
  all_goals exact .refl s n

theorem State.LaneWork.answer (s : State) (x : Turn) (st : AnswerStatus) (seq : Nat) (counts : PerChan Nat) :
    s.LaneWork (s.applyVerdict x (.accepted st seq counts)) x.lane := by
  have hlink (l : LaneLink) := State.LaneWork.setLink s x.lane l
  by_cases hfresh : st = .fresh
  · rw [hfresh, State.answer_fresh, State.freshAnswer]
    dsimp only
    split
    · exact hlink _
    · exact (hlink _).trans (.leaveTo _ x.lane _ _)
  cases hstale : x.stale
  case true => rw [State.answer_stale hfresh hstale]; exact .refl s _
  obtain ⟨hsample, hconfig, htune⟩ := State.answer_kind (s := s) (seq := seq) (counts := counts) hfresh hstale
  cases hk : x.kind
  case sample =>
    rw [hsample hk, State.sampleAnswer]
    dsimp only
    split
    · exact (hlink _).trans (.freshSample _ x.lane counts)
    · split
      · split
        · exact (hlink _).trans (.bandCheck _ x.lane counts)
        · exact .raiseTuneCount s _
      · exact .refl s _
  case config =>
    rw [hconfig hk, State.configAnswer]
    split
    · exact .moveLane s _ _
    · exact .refl s _
  case tune =>
    rw [htune hk, State.tuneAnswer]
    split
    · exact .refl s _
    · split
      · exact .setDetector s _ _
      · exact .raiseTuneCount s _

end Sys2Proof.Machine
end

section
/-! SUPPORT. The end of a turn by an accepted answer on a lane that stays, as the statements read it (R106, R107,
R131, R133, R135, R137, R149, R152, R153, R157). -/
namespace Sys2Proof.Machine

variable {s b t : State} {n : Lane} {d e : Detector} {x : Turn} {st : AnswerStatus} {seq : Nat}
  {counts : PerChan Nat}

/-! ### The statistic of an accepted answer (R152, R158) -/

/-- A SAMPLE answer that brings a fresh sample counts in no statistic. -/
theorem LinkStats.afterTurn_sample (l : LinkStats) (a : LaneState) {q : Option Nat} (hk : x.kind = .sample)
    (hq : q ≠ some seq) : l.afterTurn x a q (.accepted .ready seq counts) = l := by
  simp [LinkStats.afterTurn, hk, LinkStats.raiseSample, hq]

/-- A SAMPLE answer outside TUNING that brings no sample counts as STALE or NOT_READY. -/
theorem LinkStats.afterTurn_noSample (l : LinkStats) {a : LaneState} {q : Option Nat} (hk : x.kind = .sample)
    (ha : a ≠ .tuning)
    (h : st = .ready ∧ q = some seq ∨ st = .notReady ∨ st = .tuning ∨ st = .tuned) :
    l.afterTurn x a q (.accepted st seq counts) =
      if st = .ready then { l with stale := min 255 (l.stale + 1) }
      else { l with notReady := min 255 (l.notReady + 1) } := by
  rcases h with ⟨rfl, hq⟩ | rfl | rfl | rfl <;>
    simp [LinkStats.afterTurn, LinkStats.raiseSample, raise8, *]

/-! ### What the following state shows of the lane -/

/-- The fields of two detectors that differ at most in the targets sent. -/
theorem SameButTargets.fields (h : SameButTargets d e) :
    e.state = d.state ∧ e.filtered = d.filtered ∧ e.lastRaw = d.lastRaw ∧ e.baseline = d.baseline ∧
    e.settleCount = d.settleCount ∧ e.tuneAck = d.tuneAck ∧ e.tuneCount = d.tuneCount ∧
    e.tuneFailure = d.tuneFailure := by
  simp only [SameButTargets, Detector.mk.injEq] at h
  obtain ⟨h1, h2, h3, -, -, -, -, h4, -, h5, h6, h7, -, h8, -⟩ := h
  exact ⟨h1.symm, h2.symm, h3.symm, h4.symm, h5.symm, h6.symm, h7.symm, h8.symm⟩

theorem State.moveLane_flagged (h : raisesLaneState (s.detectors.get n).state d.state = true) :
    (s.moveLane n d).Flagged .lane .laneState := by
  rw [State.moveLane, if_pos h]
  exact State.raise_flagged _ .lane .laneState

theorem State.GoesOn.set (hon : (s.setDetector n d).GoesOn t n) : SameButTargets d (t.detectors.get n) := by
  have hsame := hon.detector
  rwa [State.setDetector_detectors, PerLane.get_set, if_pos rfl] at hsame

theorem State.GoesOn.moved (hon : (s.moveLane n d).GoesOn t n) : SameButTargets d (t.detectors.get n) ∧
    (raisesLaneState (s.detectors.get n).state d.state = true → t.Flagged .lane .laneState) := by
  have hsame := hon.detector
  rw [State.moveLane_detectors, PerLane.get_set, if_pos rfl] at hsame
  exact ⟨hsame, fun h => hon.beside.steady.flags _ _ (State.moveLane_flagged h)⟩

/-! ### The answer's work, field by field -/

theorem Cause.ends_restart : Cause.Ends .restart := ⟨nofun, nofun⟩

theorem State.AnswerCounted.lastSeq (hc : s.AnswerCounted b x st seq counts) :
    (b.links.get x.lane).lastSeq = (s.links.get x.lane).lastSeq := by rw [hc.link]

theorem State.AnswerCounted.delivers (hc : s.AnswerCounted b x .ready seq counts) (hst : x.stale = false)
    (hk : x.kind = .sample) (hq : (s.links.get x.lane).lastSeq ≠ some seq)
    (hr : receives (s.detectors.get x.lane).state = true) : b.delivers x .ready seq = true :=
  State.delivers_iff.mpr ⟨hk, hst, by rwa [hc.detectors], rfl, by rwa [hc.lastSeq]⟩

/-- The state in which the sample of an answer is processed. -/
theorem State.AnswerCounted.receiving (hc : s.AnswerCounted b x st seq counts) :
    s.Before (b.receiving x.lane seq counts) x.lane ∧
    (b.receiving x.lane seq counts).detectors.get x.lane =
      { s.detectors.get x.lane with lastRaw := counts } :=
  ⟨(hc.beside.before.trans (.setLink b x.lane x.lane _)).trans (.setDetector _ x.lane x.lane rfl),
    by simp [State.receiving, hc.detectors]⟩

/-- The passes and entries that a FRESH answer ends (R107, R153). -/
theorem State.answered_restart (hs : s.Fits) (hc : s.AnswerCounted b x st seq counts)
    (hon : ((b.linkRestarted x.lane).leaveTo x.lane .restart Detector.configuring).Beside t x.lane) :
    s.PassEnded t x.lane .restart := by
  have hpre : s.Before (b.linkRestarted x.lane) x.lane :=
    hc.beside.before.trans (.setLink b x.lane x.lane _)
  have hdet : (b.linkRestarted x.lane).detectors = s.detectors := hc.detectors
  exact hs.ledger.passEnded hs.risingAccounts hpre (by rw [hdet]) (by rw [hdet]) Cause.ends_restart
    ((State.leaveTo_beside _ x.lane .restart (f := Detector.configuring) fun _ => rfl).trans hon)

/-- A FRESH answer takes its lane to CONFIGURING (R153). -/
theorem State.answered_fresh (hs : s.Fits) (hc : s.AnswerCounted b x .fresh seq counts)
    (hoff : (s.detectors.get x.lane).state ≠ .off)
    (hon : (b.applyVerdict x (.accepted .fresh seq counts)).GoesOn t x.lane) :
    (t.detectors.get x.lane).state = .configuring ∧
    SameButTargets { (s.detectors.get x.lane).withOutcomeOf (t.detectors.get x.lane) with
      state := .configuring, pass := {}, jam := false, freeze := none, freshRun := 0
      settleCount := 0, tuneAck := false, tuneCount := 0, tuneFailure := none, driftMark := false }
      (t.detectors.get x.lane) ∧
    ((s.detectors.get x.lane).state ≠ .configuring → t.Flagged .lane .laneState) ∧
    s.PassEnded t x.lane .restart := by
  rw [State.answer_fresh, State.freshAnswer_restarts (by rwa [hc.detectors])] at hon
  obtain ⟨o, ho, hflag⟩ := (b.linkRestarted x.lane).leaveTo_detector x.lane .restart Detector.configuring
  have hdet : (b.linkRestarted x.lane).detectors = s.detectors := hc.detectors
  have hsame := hon.detector
  rw [ho, hdet] at hsame
  rw [hdet] at hflag
  have hout : (t.detectors.get x.lane).lastOutcome = o := (congrArg Detector.lastOutcome hsame).symm
  refine ⟨hsame.fields.1, ?_, fun hne => ?_, State.answered_restart hs hc hon.beside⟩
  · rw [← hout] at hsame
    exact hsame
  · refine hon.beside.steady.flags _ _ (hflag ?_)
    simp [raisesLaneState, hne, Detector.configuring, LaneState.counting]

/-- A sample delivered to a lane that counts is processed (R89, R152). -/
theorem State.answered_counted (hs : s.Fits) (hc : s.AnswerCounted b x st seq counts)
    (hdel : b.delivers x st seq = true) (hcount : (s.detectors.get x.lane).state.counting = true)
    (hon : (b.applyVerdict x (.accepted st seq counts)).GoesOn t x.lane) :
    s.Processed t x.lane counts (detect (s.settings.lanes.get x.lane)
      { s.detectors.get x.lane with lastRaw := counts } counts) := by
  rw [State.answer_counts hdel (by rwa [hc.detectors])] at hon
  obtain ⟨hpre, hdet⟩ := hc.receiving
  exact hs.ledger.processed hs.risingAccounts hpre hdet hcount hon

/-- What a sample does in SETTLING (R137). -/
theorem State.answered_settles (hc : s.AnswerCounted b x st seq counts) (hdel : b.delivers x st seq = true)
    (hstate : (s.detectors.get x.lane).state = .settling)
    (hon : (b.applyVerdict x (.accepted st seq counts)).GoesOn t x.lane) :
    ∃ f, f = filterCounts (s.settings.lanes.get x.lane).alpha (s.detectors.get x.lane).filtered counts ∧
      SameButTargets { s.detectors.get x.lane with
        lastRaw := counts, filtered := f
        baseline := ⟨stepBaseline (s.settings.lanes.get x.lane) (s.detectors.get x.lane).baseline.ind f.ind,
          stepBaseline (s.settings.lanes.get x.lane) (s.detectors.get x.lane).baseline.cap f.cap,
          stepBaseline (s.settings.lanes.get x.lane) (s.detectors.get x.lane).baseline.ref f.ref⟩
        state := (t.detectors.get x.lane).state
        settleCount := (t.detectors.get x.lane).settleCount } (t.detectors.get x.lane) ∧
      ((s.detectors.get x.lane).settleCount + 1 < (s.settings.lanes.get x.lane).settleSamples →
        (t.detectors.get x.lane).state = .settling ∧
        (t.detectors.get x.lane).settleCount = (s.detectors.get x.lane).settleCount + 1) ∧
      ((s.settings.lanes.get x.lane).settleSamples ≤ (s.detectors.get x.lane).settleCount + 1 →
        (t.detectors.get x.lane).state = .idle ∧ (t.detectors.get x.lane).settleCount = 0 ∧
        t.Flagged .lane .laneState) := by
  have hdet : (b.linkSampled x.lane seq).detectors = s.detectors := hc.detectors
  have hset : (b.linkSampled x.lane seq).settings = s.settings := hc.settings
  rw [State.answer_delivers hdel, State.freshSample_settles (by rwa [hdet]), hdet, hset,
    settleSample_eq _ hstate] at hon
  obtain ⟨hsame, hflag⟩ := hon.moved
  obtain ⟨hst, -, -, -, hcount, -⟩ := hsame.fields
  refine ⟨_, rfl, ?_, fun hlow => ?_, fun hfull => ?_⟩
  · rw [hst, hcount]
    exact hsame
  · rw [hst, hcount]
    exact ⟨if_neg (Nat.not_le.mpr hlow), if_neg (Nat.not_le.mpr hlow)⟩
  · rw [hst, hcount]
    refine ⟨if_pos hfull, if_pos hfull, hflag ?_⟩
    rw [hdet, hstate]
    exact (congrArg _ (if_pos hfull)).trans rfl

/-- What a sample does in LOST (R106). -/
theorem State.answered_recovers (hc : s.AnswerCounted b x st seq counts) (hdel : b.delivers x st seq = true)
    (hstate : (s.detectors.get x.lane).state = .lost)
    (hon : (b.applyVerdict x (.accepted st seq counts)).GoesOn t x.lane) :
    ∃ f, f = filterCounts (s.settings.lanes.get x.lane).alpha (s.detectors.get x.lane).filtered counts ∧
      ((s.detectors.get x.lane).freshRun + 1 < (s.settings.lanes.get x.lane).recovery →
        SameButTargets { s.detectors.get x.lane with
          lastRaw := counts, filtered := f
          freshRun := (s.detectors.get x.lane).freshRun + 1 } (t.detectors.get x.lane)) ∧
      ((s.settings.lanes.get x.lane).recovery ≤ (s.detectors.get x.lane).freshRun + 1 →
        SameButTargets { s.detectors.get x.lane with
          lastRaw := counts, filtered := f, state := .settling, freshRun := 0, settleCount := 0
          baseline := f.map (16 * ·) } (t.detectors.get x.lane) ∧ t.Flagged .lane .laneState) := by
  have hdet : (b.linkSampled x.lane seq).detectors = s.detectors := hc.detectors
  have hset : (b.linkSampled x.lane seq).settings = s.settings := hc.settings
  rw [State.answer_delivers hdel, State.freshSample_recovers (by rwa [hdet]), hdet, hset] at hon
  refine ⟨_, rfl, fun hlow => ?_, fun hfull => ?_⟩
  · rw [lostSample, if_neg (Nat.not_le.mpr hlow)] at hon
    obtain ⟨hsame, -⟩ := hon.moved
    exact hsame
  · rw [lostSample, if_pos hfull] at hon
    obtain ⟨hsame, hflag⟩ := hon.moved
    refine ⟨hsame, hflag ?_⟩
    rw [hdet, hstate]
    rfl

/-- A sample delivered to a lane that receives one: what it leaves of the counts and of the link (R152). -/
theorem State.answered_sample (hs : s.Fits) (hc : s.AnswerCounted b x st seq counts)
    (hdel : b.delivers x st seq = true)
    (hstate : (s.detectors.get x.lane).state.counting = true ∨ (s.detectors.get x.lane).state = .settling ∨
      (s.detectors.get x.lane).state = .lost)
    (hon : (b.applyVerdict x (.accepted st seq counts)).GoesOn t x.lane) :
    (t.detectors.get x.lane).lastRaw = counts ∧
    (t.detectors.get x.lane).filtered = filterCounts (s.settings.lanes.get x.lane).alpha
      (s.detectors.get x.lane).filtered counts := by
  rcases hstate with hcount | hset | hlost
  · obtain ⟨hfilt, hraw⟩ := (State.answered_counted hs hc hdel hcount hon).counts
    have hafter := detect_after (s.settings.lanes.get x.lane)
      (d := { s.detectors.get x.lane with lastRaw := counts }) hcount counts
    exact ⟨hraw.trans hafter.lastRaw, hfilt.trans hafter.filtered⟩
  · obtain ⟨f, rfl, hsame, -⟩ := State.answered_settles hc hdel hset hon
    obtain ⟨-, hfilt, hraw, -⟩ := hsame.fields
    exact ⟨hraw, hfilt⟩
  · obtain ⟨f, rfl, hlow, hfull⟩ := State.answered_recovers hc hdel hlost hon
    rcases Nat.lt_or_ge ((s.detectors.get x.lane).freshRun + 1) (s.settings.lanes.get x.lane).recovery
      with h | h
    · obtain ⟨-, hfilt, hraw, -⟩ := (hlow h).fields
      exact ⟨hraw, hfilt⟩
    · obtain ⟨-, hfilt, hraw, -⟩ := (hfull h).1.fields
      exact ⟨hraw, hfilt⟩

/-- A tune count raised, in the state that follows (R133, R134). -/
theorem State.GoesOn.trimmed (hon : (b.raiseTuneCount n).GoesOn t n) (hdet : b.detectors = s.detectors)
    (hstate : (s.detectors.get n).state = .tuning) :
    (t.detectors.get n).tuneCount = min 255 ((s.detectors.get n).tuneCount + 1) ∧
    ((t.detectors.get n).state = .tuneFailed ↔ 254 ≤ (s.detectors.get n).tuneCount) := by
  obtain ⟨hcount, hfail⟩ := State.raiseTuneCount_detector (s := b) (n := n) (by rwa [hdet])
  obtain ⟨hst, -, -, -, -, -, htune, -⟩ := hon.detector.fields
  rw [hdet] at hcount hfail
  exact ⟨htune.trans hcount, by rw [hst, hfail]⟩

/-- The answers that raise the tune count (R133). -/
theorem State.answer_trims (hst : x.stale = false) (hstate : (s.detectors.get x.lane).state = .tuning)
    (h : (x.kind = .sample ∧ (s.detectors.get x.lane).tuneAck = true ∧ st ≠ .tuned ∧ st ≠ .fresh) ∨
      (x.kind = .tune ∧ st ≠ .tuning ∧ st ≠ .fresh)) :
    s.applyVerdict x (.accepted st seq counts) = s.raiseTuneCount x.lane := by
  rcases h with ⟨hk, hack, hne, hfresh⟩ | ⟨hk, hne, hfresh⟩
  · obtain ⟨hsample, -⟩ := State.answer_kind (s := s) (seq := seq) (counts := counts) hfresh hst
    rw [hsample hk, State.sampleAnswer_trims hstate hack hne]
  · obtain ⟨-, -, htune⟩ := State.answer_kind (s := s) (seq := seq) (counts := counts) hfresh hst
    rw [htune hk, State.tuneAnswer_trims hstate hne]

/-- The band check of a TUNED answer, in the state that follows (R135). -/
theorem State.GoesOn.banded {sent : PerChan Nat} (hon : (b.bandCheck n counts).GoesOn t n)
    (hdet : b.detectors = s.detectors) (hset : b.settings = s.settings)
    (hsent : (s.detectors.get n).targetsSent = some sent) :
    ((∀ c, inBand (sent.get c) (s.settings.lanes.get n).tuneBand (counts.get c) = true) →
      (t.detectors.get n).state = .settling ∧ (t.detectors.get n).settleCount = 0 ∧
      (t.detectors.get n).baseline = counts.map (16 * ·) ∧
      (t.detectors.get n).filtered = counts ∧ (t.detectors.get n).lastRaw = counts) ∧
    ((∃ c, inBand (sent.get c) (s.settings.lanes.get n).tuneBand (counts.get c) = false) →
      (t.detectors.get n).state = .tuneFailed ∧ t.Flagged .lane .tuneError ∧
      (t.detectors.get n).baseline = (s.detectors.get n).baseline ∧
      ∃ failed : PerChan Bool, (t.detectors.get n).tuneFailure = some ⟨.band, failed⟩ ∧
        ∀ c, failed.get c = !inBand (sent.get c) (s.settings.lanes.get n).tuneBand (counts.get c)) := by
  have hsent' : (b.detectors.get n).targetsSent = some sent := by rwa [hdet]
  refine ⟨fun hin => ?_, fun hout => ?_⟩
  · rw [State.bandCheck_passes hsent' (by rwa [hset])] at hon
    obtain ⟨hst, hfilt, hraw, hbase, hcount, -⟩ := hon.moved.1.fields
    exact ⟨hst, hcount, hbase, hfilt, hraw⟩
  · rw [State.bandCheck_fails hsent' (by rwa [hset]), hdet, hset] at hon
    have hflag := hon.beside.steady.flags _ _ (State.raise_flagged _ .lane .tuneError)
    have hmoved : SameButTargets ((s.detectors.get n).tuneFailed
        ⟨.band, outOfBand sent (s.settings.lanes.get n).tuneBand counts⟩) (t.detectors.get n) := by
      have hsame := hon.detector
      simp only [State.raise_frame, State.moveLane_detectors, PerLane.get_set, if_true] at hsame
      exact hsame
    obtain ⟨hst, -, -, hbase, -, -, -, hfail⟩ := hmoved.fields
    exact ⟨hst, hflag, hbase, _, hfail, outOfBand_get sent _ counts⟩

/-- An answer that leaves the lane as the turn's end found it. -/
theorem State.GoesOn.unanswered (hc : s.AnswerCounted b x st seq counts)
    (hnothing : b.applyVerdict x (.accepted st seq counts) = b)
    (hon : (b.applyVerdict x (.accepted st seq counts)).GoesOn t x.lane) :
    s.NothingBooked t x.lane ∧ SameButTargets (s.detectors.get x.lane) (t.detectors.get x.lane) := by
  rw [hnothing] at hon
  have hsame := hon.detector
  rw [hc.detectors] at hsame
  exact ⟨State.Beside.nothingBooked hc.beside.before hon.beside, hsame⟩

/-- An answer without FRESH that finds no counting lane, or is no sample, books nothing. -/
theorem State.answered_unbooked (hc : s.AnswerCounted b x st seq counts) (hst : st ≠ .fresh)
    (h : (s.detectors.get x.lane).state.counting = false ∨ x.kind ≠ .sample)
    (hon : (b.applyVerdict x (.accepted st seq counts)).GoesOn t x.lane) : s.NothingBooked t x.lane := by
  cases hcount : (s.detectors.get x.lane).state.counting
  case false =>
    have hunbooked := State.Unbooked.answer (s := b) (seq := seq) (counts := counts) hst (by rwa [hc.detectors])
    exact State.Beside.nothingBooked hc.beside.before (hunbooked.beside.trans hon.beside)
  case true =>
    have hk := h.resolve_left (by simp [hcount])
    have hnothing := (State.answer_counting (s := b) (x := x) (seq := seq) (counts := counts) hst
      (by rwa [hc.detectors])).resolve_left fun hdel => hk (State.delivers_iff.mp hdel).1
    exact (hon.unanswered hc hnothing).1

/-- An accepted answer has ended the turn of a lane that stays. -/
theorem State.answered_of (hs : s.Fits) (hc : s.AnswerCounted b x st seq counts)
    (hon : (b.applyVerdict x (.accepted st seq counts)).GoesOn t x.lane)
    (hlinks : t.links = (b.applyVerdict x (.accepted st seq counts)).links)
    (hfaults : SameFaults s t) (hwork : s.LaneWork t x.lane) (hnext : s.TurnFollows t) :
    s.Answered t x st seq counts := by
  have hlink : b.applyVerdict x (.accepted st seq counts) = b → t.links.get x.lane = { s.links.get x.lane with
      stats := (s.links.get x.lane).stats.afterTurn x (s.detectors.get x.lane).state
        (s.links.get x.lane).lastSeq (.accepted st seq counts)
      silentRun := 0, silentOpen := false } := fun hsame => by rw [hlinks, hsame, hc.link]
  refine ⟨?silence, ?fresh, ?sample, ?counted, ?settles, ?recovers,
    fun hst h => State.answered_unbooked hc hst h hon, ?noSample, ?config, ?acknowledged, ?trims, ?band, ?stale,
    hnext, hwork.kept⟩
  case silence =>
    obtain ⟨m, q, hanswer⟩ := b.answer_links x st seq counts
    rw [hlinks, hanswer, hc.link]
    exact ⟨by simp, by simp, hfaults⟩
  case fresh =>
    rintro rfl
    have hcleared : t.links.get x.lane = { b.links.get x.lane with lastSeq := none, missRun := 0 } := by
      rw [hlinks, State.answer_fresh, State.freshAnswer_links, PerLane.get_set, if_pos rfl]
    refine ⟨by rw [hcleared], by rw [hcleared], by rw [hcleared, hc.link]; rfl,
      fun hoff => State.answered_fresh hs hc hoff hon, fun hoff => ?_⟩
    rw [State.answer_fresh, State.freshAnswer_off (by rwa [hc.detectors])] at hon
    have hsame := hon.detector
    have hdet : (b.linkRestarted x.lane).detectors = s.detectors := hc.detectors
    rw [hdet] at hsame
    exact ⟨State.Beside.nothingBooked (hc.beside.before.trans (.setLink b x.lane x.lane _)) hon.beside, hsame⟩
  case sample =>
    rintro rfl hst hk hq hstate
    have hr : receives (s.detectors.get x.lane).state = true := by
      rcases hstate with h | h | h
      · exact LaneState.counting_receives h
      · rw [h]; rfl
      · rw [h]; rfl
    have hdel := hc.delivers hst hk hq hr
    have hsampled : t.links.get x.lane =
        { b.links.get x.lane with lastSeq := some seq, missRun := 0 } := by
      rw [hlinks, State.answer_delivers hdel]
      simp [State.linkSampled]
    obtain ⟨hraw, hfilt⟩ := State.answered_sample hs hc hdel hstate hon
    refine ⟨by rw [hsampled], by rw [hsampled], ?_, hraw, hfilt⟩
    rw [hsampled, hc.link]
    exact LinkStats.afterTurn_sample (counts := counts) _ _ hk hq
  case counted =>
    rintro rfl hst hk hq hcount
    have hdel := hc.delivers hst hk hq (LaneState.counting_receives hcount)
    exact ⟨_, State.answered_counted hs hc hdel hcount hon⟩
  case settles =>
    rintro rfl hst hk hq hstate
    exact State.answered_settles hc (hc.delivers hst hk hq (by rw [hstate]; rfl)) hstate hon
  case recovers =>
    rintro rfl hst hk hq hstate
    exact State.answered_recovers hc (hc.delivers hst hk hq (by rw [hstate]; rfl)) hstate hon
  case noSample =>
    intro hst hk hne h
    have hfresh : st ≠ .fresh := by
      rintro rfl
      simp at h
    have hdel : b.delivers x st seq = false := by
      rw [← Bool.not_eq_true, State.delivers_iff, hc.lastSeq]
      rintro ⟨-, -, -, rfl, hq⟩
      simp [hq] at h
    have hnothing := State.answer_nothing (counts := counts) hfresh hdel (by simp [hk])
      (by rwa [hc.detectors])
    obtain ⟨hbooked, hsame⟩ := hon.unanswered hc hnothing
    rw [hlink hnothing]
    exact ⟨hbooked, hsame, rfl, rfl, LinkStats.afterTurn_noSample _ hk hne h⟩
  case config =>
    intro hst hk hfresh hstate
    obtain ⟨-, hconfig, -⟩ := State.answer_kind (s := b) (seq := seq) (counts := counts) hfresh hst
    rw [hconfig hk, State.configAnswer_tunes (by rwa [hc.detectors]), hc.detectors] at hon
    obtain ⟨hsame, hflag⟩ := hon.moved
    obtain ⟨hst', -, -, -, -, hack, hcount, -⟩ := hsame.fields
    refine ⟨hst', hack, hcount, hflag ?_⟩
    rw [hc.detectors, hstate]
    rfl
  case acknowledged =>
    rintro hst hk rfl hstate
    obtain ⟨-, -, htune⟩ := State.answer_kind (s := b) (seq := seq) (counts := counts)
      (by decide : AnswerStatus.tuning ≠ .fresh) hst
    rw [htune hk, State.tuneAnswer_acknowledges (by rwa [hc.detectors]), hc.detectors] at hon
    obtain ⟨hst', -, -, -, -, hack, hcount, -⟩ := hon.set.fields
    exact ⟨hst'.trans hstate, hack, hcount⟩
  case trims =>
    intro hst hstate h
    rw [State.answer_trims hst (by rwa [hc.detectors]) (by rwa [hc.detectors])] at hon
    exact hon.trimmed hc.detectors hstate
  case band =>
    rintro hst hk hstate hack rfl sent hsent
    obtain ⟨hsample, -⟩ := State.answer_kind (s := b) (seq := seq) (counts := counts)
      (by decide : AnswerStatus.tuned ≠ .fresh) hst
    rw [hsample hk, State.sampleAnswer_band (by rwa [hc.detectors]) (by rwa [hc.detectors])] at hon hlinks
    exact ⟨by simp [hlinks], hon.banded (s := s) hc.detectors hc.settings hsent⟩
  case stale =>
    intro hst hfresh
    have hnothing := State.answer_stale (s := b) (seq := seq) (counts := counts) hfresh hst
    obtain ⟨hbooked, hsame⟩ := hon.unanswered hc hnothing
    rw [hlink hnothing]
    exact ⟨hbooked, hsame, rfl, rfl⟩

end Sys2Proof.Machine
end

section
/-! SUPPORT. The end of a turn by an accepted answer that takes its lane to OFF, and the judged answer as an event
(R110, R111, R151 to R153). -/
namespace Sys2Proof.Machine

variable {s b t : State} {n : Lane} {x : Turn} {st : AnswerStatus} {seq : Nat} {counts : PerChan Nat}

/-- The lane goes to OFF after an answer that booked nothing and left no pass. -/
theorem State.Unbooked.turnedOff (h : b.Unbooked t n) (hc : s.Before b n) (hopen : t.openDocket.get n = none)
    {u : State} (hon : (t.laneOff n).Beside u n) : s.NothingBooked u n := by
  have hnone : t.laneDocket n = none := by rw [State.laneDocket, hopen]; rfl
  exact State.Beside.nothingBooked hc (h.beside.trans ((State.laneOff_plain hnone h.passless).trans hon))

/-- The pass that an answer without a sample leaves in progress ends as the lane goes to OFF (R107, R111). -/
theorem State.answeredOff_plain (hs : s.Fits) (hc : s.AnswerCounted b x st seq counts) (hst : st ≠ .fresh)
    (h : x.stale = true ∨ x.kind ≠ .sample ∨ st ≠ .ready ∨ (s.links.get x.lane).lastSeq = some seq ∨
      (s.detectors.get x.lane).state.counting = false)
    (hopen : (b.applyVerdict x (.accepted st seq counts)).openDocket.get x.lane = none)
    (hon : ((b.applyVerdict x (.accepted st seq counts)).laneOff x.lane).Beside t x.lane) :
    s.PassEnded t x.lane .disable := by
  cases hcount : (s.detectors.get x.lane).state.counting
  case false =>
    have hunbooked := State.Unbooked.answer (s := b) (x := x) (seq := seq) (counts := counts) hst
      (by rwa [hc.detectors])
    have hnothing := hunbooked.turnedOff hc.beside.before hopen hon
    refine ⟨fun hp => ?_, fun he => ?_, fun _ _ => hnothing⟩
    · rw [hp] at hcount; cases hcount
    · rw [he] at hcount; cases hcount
  case true =>
    have hnothing := (State.answer_counting (s := b) (x := x) (seq := seq) (counts := counts) hst
      (by rwa [hc.detectors])).resolve_left fun hdel => by
        obtain ⟨hk, hstale, -, hready, hq⟩ := State.delivers_iff.mp hdel
        rw [hc.lastSeq] at hq
        simp [hk, hstale, hready, hq, hcount] at h
    rw [hnothing] at hon
    exact hs.ledger.passEnded hs.risingAccounts hc.beside.before (by rw [hc.detectors]) (by rw [hc.detectors])
      Cause.ends_disable ((State.laneOff_beside b x.lane).trans hon)

/-- The pass that a FRESH answer ends, before the lane goes to OFF (R107, R153). -/
theorem State.answeredOff_fresh (hs : s.Fits) (hc : s.AnswerCounted b x .fresh seq counts)
    (hoff : (s.detectors.get x.lane).state ≠ .off)
    (hopen : (b.applyVerdict x (.accepted .fresh seq counts)).openDocket.get x.lane = none)
    (hon : ((b.applyVerdict x (.accepted .fresh seq counts)).laneOff x.lane).Beside t x.lane) :
    s.PassEnded t x.lane .restart := by
  rw [State.answer_fresh, State.freshAnswer_restarts (by rwa [hc.detectors])] at hopen hon
  refine State.answered_restart hs hc ((State.laneOff_plain ?_ ?_).trans hon)
  · rw [State.laneDocket, hopen]; rfl
  · obtain ⟨o, ho, -⟩ := (b.linkRestarted x.lane).leaveTo_detector x.lane .restart Detector.configuring
    rw [ho]
    exact nofun

/-- An accepted answer has ended the turn of a lane without an open docket, whose enable went off during it. -/
theorem State.turnedOffAnswered_of (hs : s.Fits) (hc : s.AnswerCounted b x st seq counts)
    (hoff : (s.detectors.get x.lane).state ≠ .off) (hopen : s.openDocket.get x.lane = none)
    (hon : ((b.applyVerdict x (.accepted st seq counts)).laneOff x.lane).GoesOn t x.lane)
    (hlinks : t.links = ((b.applyVerdict x (.accepted st seq counts)).laneOff x.lane).links)
    (hfaults : SameFaults s t) (hwork : s.LaneWork t x.lane) (hnext : s.TurnFollowsOff t) :
    s.TurnedOff t x (.accepted st seq counts) := by
  have hopenu : (b.applyVerdict x (.accepted st seq counts)).openDocket.get x.lane = none := by
    rcases (State.LaneWork.answer b x st seq counts).docket with h | h
    · rw [h, hc.openDocket]; exact hopen
    · exact h
  obtain ⟨hlane, hlink, -, hfilt⟩ :=
    State.laneOff_lane (State.answer_ne_off (by rwa [hc.detectors])) hon hlinks
  refine ⟨hlane, hlink, nofun, fun _ _ _ _ => hfaults, fun hplain => ?plain, fun ⟨_, h⟩ => (nomatch h),
    ?fresh, fun raw hraw hst hcount => ?sampled, hnext, hwork.kept⟩
  case plain =>
    rcases hplain with ⟨_, h, -⟩ | ⟨_, _, _, h, hfresh, hcases⟩
    · cases h
    · cases h
      exact State.answeredOff_plain hs hc hfresh hcases hopenu hon.beside
  case fresh =>
    rintro ⟨_, _, h⟩
    cases h
    exact State.answeredOff_fresh hs hc hoff hopenu hon.beside
  case sampled =>
    rcases hraw with ⟨⟨_, h⟩, -⟩ | ⟨_, h, hk, hq⟩
    · cases h
    · cases h
      have hdel := hc.delivers hst hk hq (LaneState.counting_receives hcount)
      rw [State.answer_counts hdel (by rwa [hc.detectors])] at hon hfilt
      obtain ⟨hpre, hdet⟩ := hc.receiving
      obtain ⟨hfilt', -⟩ :=
        (hs.ledger.processed hs.risingAccounts hpre hdet hcount (.refl _ x.lane)).counts
      obtain ⟨hjam, hresolved, hpassed, hnothing⟩ :=
        hs.ledger.sampledOff hs.risingAccounts hpre hdet hcount hopen hon.beside rfl
      exact ⟨_, rfl, hfilt.trans hfilt', hjam, hresolved, hpassed, hnothing⟩

/-- No deferred off takes a lane that stays (R111, log entry 6). -/
theorem State.stays_answered (hstays : s.StaysAtTurnEnd x.lane) :
    ((s.counted x (.accepted st seq counts)).applyVerdict x (.accepted st seq counts)).applyDeferredOff x.lane =
      (s.counted x (.accepted st seq counts)).applyVerdict x (.accepted st seq counts) := by
  obtain ⟨-, hset, -, -, hdet, -⟩ := s.counted_frame x (.accepted st seq counts)
  refine if_neg ?_
  rcases hstays with hen | ⟨hoff, -⟩
  · simp only [State.enabled] at hen
    simp [State.enabled, hset, hen]
  · rw [State.answer_off (by rwa [hdet]), hdet]
    simp [hoff]

/-- The end of a turn by an accepted answer, of a lane that stays. -/
theorem State.Fits.answered (hs : s.Fits) (hstays : s.StaysAtTurnEnd x.lane) (st : AnswerStatus) (seq : Nat)
    (counts : PerChan Nat) :
    s.Answered (State.conclude s (s.endTurn x (.accepted st seq counts))) x st seq counts := by
  obtain ⟨hmode, hset, hrot, hturn, -⟩ := s.counted_frame x (.accepted st seq counts)
  have hc := s.counted_accepted x st seq counts
  have hfollows := (State.nextTurn_followsOff (s := s)
    (u := (s.counted x (.accepted st seq counts)).applyVerdict x (.accepted st seq counts))
    (by simpa) (by simpa) (by simpa) (by simpa)).follows hstays
  rw [State.endTurn_eq, State.stays_answered hstays]
  generalize s.counted x (.accepted st seq counts) = b at *
  have hfrom := ((State.LaneWork.answer b x st seq counts).trans (.nextTurn _ x.lane)).trans
    (.conclude s _ x.lane)
  exact State.answered_of hs hc ((State.nextTurn_goesOn _ x.lane).trans (.conclude s _ x.lane)) (by simp)
    (by simpa [SameFaults] using hc.faults) (hc.work.trans hfrom) hfollows

/-- The end of a turn by an accepted answer, of a lane that goes to OFF. -/
theorem State.Fits.answeredOff (hs : s.Fits) (hoff : s.EndsInOff x.lane) (st : AnswerStatus) (seq : Nat)
    (counts : PerChan Nat) : s.TurnedOff (State.conclude s (s.endTurn x (.accepted st seq counts))) x
      (.accepted st seq counts) := by
  obtain ⟨hen, hstate, hopen⟩ := hoff
  obtain ⟨hmode, hset, hrot, hturn, hdet, -⟩ := s.counted_frame x (.accepted st seq counts)
  have hc := s.counted_accepted x st seq counts
  rw [State.endTurn_eq]
  generalize s.counted x (.accepted st seq counts) = b at *
  have hne := State.answer_ne_off (s := b) (x := x) (st := st) (seq := seq) (counts := counts) (by rwa [hdet])
  have hgoes : (b.applyVerdict x (.accepted st seq counts)).applyDeferredOff x.lane =
      (b.applyVerdict x (.accepted st seq counts)).laneOff x.lane := by
    refine if_pos ?_
    simp only [State.enabled] at hen
    simp [State.enabled, hset, hen, hne]
  rw [hgoes]
  have hfollows := State.nextTurn_followsOff (s := s)
    (u := (b.applyVerdict x (.accepted st seq counts)).laneOff x.lane) (by simpa) (by simpa) (by simpa)
    (by simpa)
  have hfrom := (((State.LaneWork.answer b x st seq counts).trans (.laneOff _ x.lane)).trans
    (.nextTurn _ x.lane)).trans (.conclude s _ x.lane)
  exact State.turnedOffAnswered_of hs hc hstate hopen
    ((State.nextTurn_goesOn _ x.lane).trans (.conclude s _ x.lane)) (by simp)
    (by simpa [SameFaults] using hc.faults) (hc.work.trans hfrom) hfollows

/-- The end of a turn of a lane that goes to OFF, whatever its outcome. -/
theorem State.Fits.turnedOff (hs : s.Fits) (hoff : s.EndsInOff x.lane) (v : Verdict) :
    s.TurnedOff (State.conclude s (s.endTurn x v)) x v := by
  cases v with
  | miss k => exact hs.missedOff hoff k
  | accepted st seq counts => exact hs.answeredOff hoff st seq counts

/-- The end of a turn of a lane that stays, whatever its outcome. -/
theorem State.Fits.turnStays (hs : s.Fits) (hstays : s.StaysAtTurnEnd x.lane) (v : Verdict) :
    (∀ k, v = .miss k → s.Missed (State.conclude s (s.endTurn x v)) x k) ∧
    ∀ st seq counts, v = .accepted st seq counts →
      s.Answered (State.conclude s (s.endTurn x v)) x st seq counts := by
  refine ⟨?_, ?_⟩
  · rintro k rfl
    exact hs.missed hstays k
  · rintro st seq counts rfl
    exact hs.answered hstays st seq counts

end Sys2Proof.Machine

namespace Sys2Proof.Proofs
open Sys2Proof.Machine

/-- Settles O54: the judgement by its order, and the turn's end by the verdict it gives, a miss or an accepted
answer, of a lane that stays or goes to OFF. -/
theorem answersEndTurns : Obligations.AnswersEndTurns := by
  refine ⟨fun x chars _ => ⟨judge_framing, fun hframes => ⟨judge_crc hframes, fun hcrc =>
    ⟨judge_address hframes hcrc, fun haddr => ?_⟩⟩⟩, fun s x chars hs hx hp hlen => ?_⟩
  · by_cases hk : x.kind = .sample
    · refine ⟨_, _, _, judge_sample hframes hcrc haddr hk, fun b hb => ?_, fun _ => ?_, fun h => absurd hk h⟩
      · rw [if_pos hk] at hb
        rw [status_at hb]
        exact answerStatus_cases b
      · intro b0 b1 b2 b3 b4 b5 b6 b7 b8 b9 hbytes
        rw [hbytes]
        simp [field, beNat, Nat.mul_comm]
    · refine ⟨_, _, _, judge_other hframes hcrc haddr hk, fun b hb => ?_, fun h => absurd h hk,
        fun _ => ⟨rfl, rfl⟩⟩
      rw [if_neg hk] at hb
      rw [status_at hb]
      exact answerStatus_cases b
  have hends : exec (.answerComplete chars) s = .next (State.conclude s (s.endTurn x (judge x chars))) := by
    have hv : s.verdictOf (.complete chars) = some (x, judge x chars) := by
      simp [State.verdictOf, hx, hp, hlen]
    change Host.Outcome.next (s.turnEnds (.complete chars)) = _
    rw [State.turnEnds, hv]
  exact ⟨fun hstays => ⟨_, hends, hs.turnStays hstays _⟩, fun hoff => ⟨_, hends, hs.turnedOff hoff _⟩⟩

end Sys2Proof.Proofs
end

section
/-! SUPPORT. The turn ends that are named by what they bring about: their tests, and what the following state
shows of them (R97, R105, R134, R136, R156). -/
namespace Sys2Proof.Machine

variable {s : State} {e : TurnEnd} {x : Turn} {v : Verdict} {k : MissKind} {raw : PerChan Nat}

/-! ### The tests of the named turn ends (log entry 4) -/

/-- A named turn end that its test allows is the whole end of the turn. -/
theorem State.turnEndsIf_of_true {test : State → Turn → Verdict → Bool} (hv : s.verdictOf e = some (x, v))
    (htest : test s x v = true) : s.turnEndsIf e test = State.conclude s (s.endTurn x v) := by
  simp only [State.turnEndsIf, hv, htest, if_true, State.turnEnds]

theorem opensEpisode_of_limit (hclosed : (s.links.get x.lane).silentOpen = false)
    (hlimit : s.settings.silentLimit ≤ min 1020 ((s.links.get x.lane).silentRun + 1)) :
    opensEpisode s x (.miss k) = true := by
  obtain ⟨hlinks, -⟩ := s.silence_miss x k
  simp only [opensEpisode, hlinks, PerLane.get_set, if_true, hclosed, hlimit, decide_true, Bool.not_false,
    Bool.or_true, Bool.and_self]

/-- A miss takes a counting lane to LOST where its run passes the hold limit (R105). -/
theorem losesLane_miss (hst : x.stale = false) (hcount : (s.detectors.get x.lane).state.counting = true) :
    losesLane s x (.miss k) = decide ((s.settings.lanes.get x.lane).holdLimit <
      min 255 ((s.links.get x.lane).missRun + 1)) := by
  simp [losesLane, hst, hcount, State.missRunAfter]

/-- The misses and answers that raise the tune count (R133, R134). -/
abbrev State.Trims (s : State) (x : Turn) (v : Verdict) : Prop :=
  ((∃ k, v = .miss k) ∧ (s.detectors.get x.lane).tuneAck = true) ∨
    ∃ st seq counts, v = .accepted st seq counts ∧ st ≠ .fresh ∧
      ((x.kind = .sample ∧ (s.detectors.get x.lane).tuneAck = true ∧ st ≠ .tuned) ∨
        (x.kind = .tune ∧ st ≠ .tuning))

theorem State.Trims.applied (h : s.Trims x v) (hst : x.stale = false)
    (htune : (s.detectors.get x.lane).state = .tuning) : s.applyVerdict x v = s.raiseTuneCount x.lane := by
  rcases h with ⟨⟨k, rfl⟩, hack⟩ | ⟨st, seq, counts, rfl, hfresh, h⟩
  · rw [State.applyVerdict_miss, if_neg (by simp [hst]), State.missDelivered_trims htune hack]
  · refine State.answer_trims hst htune (h.imp ?_ ?_)
    · rintro ⟨hk, hack, hne⟩
      exact ⟨hk, hack, hne, hfresh⟩
    · rintro ⟨hk, hne⟩
      exact ⟨hk, hne, hfresh⟩

theorem reachesTuneLimit_of_trims (h : s.Trims x v) (hst : x.stale = false)
    (htune : (s.detectors.get x.lane).state = .tuning) (hlimit : 254 ≤ (s.detectors.get x.lane).tuneCount) :
    reachesTuneLimit s x v = true := by
  obtain ⟨hdet, -⟩ := State.raiseTuneCount_limit htune hlimit
  simp [reachesTuneLimit, h.applied hst htune, hdet, htune]

/-- A sample of a lane in PRESENT or GAP reports a jam where it brings the dwell to the limit (R97). -/
theorem detect_jam (cfg : LaneSettings) {d : Detector} (h : d.state = .present ∨ d.state = .gap)
    (hflag : d.jam = false) (hset : cfg.jamLimit ≠ 0) (hlimit : cfg.jamLimit ≤ min 65535 (d.pass.dwell + 1)) :
    (detect cfg d raw).jam = true := by
  rcases h with h | h
  · have hdetect : detect cfg d raw = samplePresent cfg (d.track cfg raw) (deltasOf cfg (d.track cfg raw)) := by
      simp only [detect, h]
    obtain ⟨-, -, -, hdwell, -⟩ := presentPass_rest cfg (d.track cfg raw) (deltasOf cfg (d.track cfg raw))
    rw [hdetect, (samplePresent_jam ..).1, jamNow_iff, hdwell]
    exact ⟨hflag, hset, hlimit⟩
  · have hdetect : detect cfg d raw = sampleGap cfg (d.track cfg raw) (deltasOf cfg (d.track cfg raw)) := by
      simp only [detect, h]
    rw [hdetect, (sampleGap_reports ..).2, jamNow_iff]
    exact ⟨hflag, hset, hlimit⟩

/-- The verdicts at which a counting lane processes a sample, held or fresh (R89, R104). -/
abbrev State.Samples (s : State) (x : Turn) (v : Verdict) : Prop :=
  ((∃ k, v = .miss k) ∧ min 255 ((s.links.get x.lane).missRun + 1) ≤
      (s.settings.lanes.get x.lane).holdLimit) ∨
    ∃ seq counts, v = .accepted .ready seq counts ∧ x.kind = .sample ∧
      (s.links.get x.lane).lastSeq ≠ some seq

theorem State.Samples.processed (h : s.Samples x v) (hst : x.stale = false)
    (hcount : (s.detectors.get x.lane).state.counting = true) : ∃ raw, processedCounts s x v = some raw := by
  rcases h with ⟨⟨k, rfl⟩, hheld⟩ | ⟨seq, counts, rfl, hk, hq⟩
  · refine ⟨(s.detectors.get x.lane).lastRaw, ?_⟩
    simp [processedCounts, losesLane_miss hst hcount, hst, hcount, Nat.not_lt.mpr hheld]
  · have hdel : s.delivers x .ready seq = true :=
      State.delivers_iff.mpr ⟨hk, hst, LaneState.counting_receives hcount, rfl, hq⟩
    exact ⟨counts, by simp [processedCounts, hcount, hdel]⟩

/-- The detector is at the jam limit with its next sample (R97). -/
structure State.JamDue (s : State) (n : Lane) : Prop where
  state : (s.detectors.get n).state = .present ∨ (s.detectors.get n).state = .gap
  clear : (s.detectors.get n).jam = false
  enabled : (s.settings.lanes.get n).jamLimit ≠ 0
  limit : (s.settings.lanes.get n).jamLimit ≤ min 65535 ((s.detectors.get n).pass.dwell + 1)

theorem State.JamDue.counting {n : Lane} (h : s.JamDue n) : (s.detectors.get n).state.counting = true := by
  rcases h.state with h | h <;> rw [h] <;> rfl

theorem State.JamDue.jams {n : Lane} (h : s.JamDue n) (last raw : PerChan Nat) :
    (detect (s.settings.lanes.get n) { s.detectors.get n with lastRaw := last } raw).jam = true :=
  detect_jam _ h.state h.clear h.enabled h.limit

theorem State.JamDue.raises (hdue : s.JamDue x.lane) (h : s.Samples x v) (hst : x.stale = false) :
    raisesJam s x v = true := by
  obtain ⟨raw, hraw⟩ := h.processed hst hdue.counting
  simpa [raisesJam, hraw] using hdue.jams (s.detectors.get x.lane).lastRaw raw

/-! ### What the end of the turn shows -/

/-- What follows the delivery at a turn's end is work on one lane. -/
theorem State.LaneWork.afterDelivery (s : State) (x : Turn) (v : Verdict) :
    ((s.counted x v).applyVerdict x v).LaneWork (State.conclude s (s.endTurn x v)) x.lane := by
  rw [State.endTurn_eq]
  refine State.LaneWork.trans ?_ ((State.LaneWork.nextTurn _ x.lane).trans (.conclude s _ x.lane))
  unfold State.applyDeferredOff
  split
  · exact .laneOff _ x.lane
  · exact .refl _ x.lane

/-- The end of the turn of a lane that stays goes on from the delivery. -/
theorem State.StaysAtTurnEnd.goesOn (h : s.StaysAtTurnEnd x.lane) (v : Verdict) :
    ((s.counted x v).applyVerdict x v).GoesOn (State.conclude s (s.endTurn x v)) x.lane := by
  have hkeeps : ((s.counted x v).applyVerdict x v).applyDeferredOff x.lane =
      (s.counted x v).applyVerdict x v := by
    cases v with
    | miss k => exact State.stays_off h
    | accepted st seq counts => exact State.stays_answered h
  rw [State.endTurn_eq, hkeeps]
  exact (State.nextTurn_goesOn _ x.lane).trans (.conclude s _ x.lane)

/-- The delivery that brings the tune count to its limit (R134). -/
theorem State.Trims.limit (h : s.Trims x v) (hst : x.stale = false)
    (htune : (s.detectors.get x.lane).state = .tuning) (hlimit : 254 ≤ (s.detectors.get x.lane).tuneCount) :
    (((s.counted x v).applyVerdict x v).detectors.get x.lane).state = .tuneFailed ∧
    (((s.counted x v).applyVerdict x v).detectors.get x.lane).tuneFailure = some ⟨.limit, .all false⟩ ∧
    ((s.counted x v).applyVerdict x v).Flagged .lane .tuneError ∧
    ((s.counted x v).applyVerdict x v).Flagged .lane .laneState := by
  obtain ⟨-, -, -, -, hdet, -⟩ := s.counted_frame x v
  have htune' : ((s.counted x v).detectors.get x.lane).state = .tuning := by rwa [hdet]
  have h' : (s.counted x v).Trims x v := by simpa only [State.Trims, hdet] using h
  obtain ⟨heq, herror, hstate⟩ := State.raiseTuneCount_limit htune' (by rwa [hdet])
  rw [h'.applied hst htune']
  exact ⟨by rw [heq], by rw [heq], herror, hstate⟩

/-- The sample that brings the dwell to the jam limit raises JAM, where the lane stays (R97). -/
theorem State.JamDue.flagged (hdue : s.JamDue x.lane) (hs : s.Fits) (h : s.Samples x v) (hst : x.stale = false)
    (hstays : s.StaysAtTurnEnd x.lane) : (State.conclude s (s.endTurn x v)).Flagged .lane .jam := by
  rcases h with ⟨⟨k, rfl⟩, hheld⟩ | ⟨seq, counts, rfl, hk, hq⟩
  · obtain ⟨-, -, r, hr⟩ := (hs.missed hstays k).held hst hdue.counting hheld
    exact hr.jam (hr.stages ▸ hdue.jams _ _)
  · obtain ⟨r, hr⟩ := (hs.answered hstays .ready seq counts).counted rfl hst hk hq hdue.counting
    exact hr.jam (hr.stages ▸ hdue.jams _ _)

/-- It raises JAM where the lane then goes to OFF (R97, R111). -/
theorem State.JamDue.flaggedOff (hdue : s.JamDue x.lane) (hs : s.Fits) (h : s.Samples x v) (hst : x.stale = false)
    (hoff : s.EndsInOff x.lane) : (State.conclude s (s.endTurn x v)).Flagged .lane .jam := by
  have hsampled := (hs.turnedOff hoff v).sampled
  rcases h with ⟨hmiss, hheld⟩ | ⟨seq, counts, rfl, hk, hq⟩
  · obtain ⟨r, rfl, -, hjam, -⟩ := hsampled _ (.inl ⟨hmiss, rfl, hheld⟩) hst hdue.counting
    exact hjam (hdue.jams _ _)
  · obtain ⟨r, rfl, -, hjam, -⟩ := hsampled _ (.inr ⟨seq, rfl, hk, hq⟩) hst hdue.counting
    exact hjam (hdue.jams _ _)

end Sys2Proof.Machine

namespace Sys2Proof.Proofs
open Sys2Proof.Machine

/-- Settles O55: each named row passes its test, so it is the end of the turn, and what the end of the turn shows
holds of it. -/
theorem namedTurnEndsHappen : Obligations.NamedTurnEndsHappen := by
  intro s e x v hs hv
  have hends {test : State → Turn → Verdict → Bool} (htest : test s x v = true) :
      Host.Outcome.next (s.turnEndsIf e test) =
        (.next (State.conclude s (s.endTurn x v)) : Host.Outcome State Fault Refusal) := by
    rw [State.turnEndsIf_of_true hv htest]
  refine ⟨?silent, ?lost, ?tuneLimit, ?jam⟩
  case silent =>
    rintro k rfl hclosed hlimit
    have hrow := hends (opensEpisode_of_limit (k := k) hclosed hlimit)
    exact ⟨fun hstays => ⟨_, hrow, hs.missed hstays k, ((hs.missed hstays k).opens hclosed hlimit).1⟩,
      fun hoff => ⟨_, hrow, hs.turnedOff hoff _⟩⟩
  case lost =>
    rintro k rfl hst hcount hlimit
    have hrow := hends ((losesLane_miss (k := k) hst hcount).trans (decide_eq_true hlimit))
    exact ⟨fun hstays => ⟨_, hrow, hs.missed hstays k, ((hs.missed hstays k).lost hst hcount hlimit).1⟩,
      fun hoff => ⟨_, hrow, hs.turnedOff hoff _⟩⟩
  case tuneLimit =>
    intro hst htune hlimit (htrims : s.Trims x v)
    have hrow := hends (reachesTuneLimit_of_trims htrims hst htune hlimit)
    obtain ⟨hstate, hfailure, herror, hmoved⟩ := htrims.limit hst htune hlimit
    have hflags := (State.LaneWork.afterDelivery s x v).flags
    refine ⟨fun hstays => ?_, fun hoff => ⟨_, hrow, hs.turnedOff hoff v, hflags _ _ herror⟩⟩
    obtain ⟨hstate', -, -, -, -, -, -, hfailure'⟩ := (hstays.goesOn v).detector.fields
    exact ⟨_, hrow, hstate'.trans hstate, hfailure'.trans hfailure, hflags _ _ herror, hflags _ _ hmoved,
      hs.turnStays hstays v⟩
  case jam =>
    intro hst hstate hclear hset hlimit (hsamples : s.Samples x v)
    have hdue : s.JamDue x.lane := ⟨hstate, hclear, hset, hlimit⟩
    have hrow := hends (hdue.raises hsamples hst)
    exact ⟨fun hstays => ⟨_, hrow, hdue.flagged hs hsamples hst hstays, hs.turnStays hstays v⟩,
      fun hoff => ⟨_, hrow, hs.turnedOff hoff v, hdue.flaggedOff hs hsamples hst hoff⟩⟩

end Sys2Proof.Proofs
end
